-- ==== Sys2Proof/Word.lean ====
section
/-! DEFINITION. The word types of the device: registers are 32 bits (R9), rig addresses 48 bits (R11),
rig time 64 bits (R48), command words 128 bits (R109), all little-endian (R8). -/
namespace Sys2Proof

abbrev Byte := BitVec 8
abbrev W16 := BitVec 16
abbrev W32 := BitVec 32
abbrev W48 := BitVec 48
abbrev W64 := BitVec 64
abbrev W128 := BitVec 128

end Sys2Proof
end

