-- ==== Sys2Proof/Syntax.lean ====
section
/-! DEFINITION. The commands of the AZ2432, one constructor of `Instr` per row of opcode_table.json, and the
data they carry. The formats of the Edpervo command words are those of Tables 6.3 to 6.18 (06_command_set.md). -/
namespace Sys2Proof

/-- Who writes or reads a register page (R292): the host through one channel, or the management controller
(also on behalf of the board controller, R315). -/
inductive Agent where
  | host (ch : Fin 4)
  | mc
deriving DecidableEq, Repr

/-- The three queues of a core (R88). -/
inductive Queue where
  | fq | xq | wq
deriving DecidableEq, Repr

/-- The agents of a core that can hold a tally wait, in the order of R156. -/
inductive Waiter where
  | seq
  | queue (q : Queue)
deriving DecidableEq, Repr

/-- The weir's gates (Table 9.3). -/
inductive Gate where
  | mem (k : Fin 8)
  | hop (n : Fin 24)
  | host
  | glz (g : Fin 8)
  | dl (d : Fin 8)
deriving DecidableEq, Repr

/-- Outcome of an ECC check on a write burst of a host channel (Table 14.11): clean, corrected, or uncorrectable. -/
inductive HdrEcc where
  | ok | corrected | uncorrectable
deriving DecidableEq, Repr

/-- A packet header at a sensor port (R27, R32): clean, clean but before the receiver has completed deskew, corrected, or
uncorrectable. -/
inductive PktHdr where
  | ok | early | corrected | uncorrectable
deriving DecidableEq, Repr

/-- What the header of a packet gives: the virtual channel, and what its ECC made of it. -/
structure PktHead where
  vc : BitVec 5
  ecc : PktHdr
deriving DecidableEq, Repr

/-- A packet that no stream takes: its data type, and whether it uses a feature that Table 2.1 does not support (R27). -/
structure OtherPkt where
  dt : BitVec 6
  unsupported : Bool
deriving DecidableEq, Repr

/-- A turn of a gate. `linkEcc`: read link ECC finds an error in the row that it cannot correct (R248). -/
structure GateTurn where
  gate : Gate
  linkEcc : Bool
deriving DecidableEq, Repr

/-- The end of the load check of a directory entry. `linkEcc`: a read of a requant image had a link ECC error that could not be corrected
(Table 6.7, R248). -/
structure CheckEnd where
  entry : Fin 16
  linkEcc : Bool
deriving DecidableEq, Repr

/-- A per-bank refresh of a memory channel, with MR4 as it is read (R244). -/
structure RefreshRead where
  chan : Fin 8
  mr4 : Byte
deriving DecidableEq, Repr

/-- A write burst of the host: its bytes, and what write link ECC made of it (Table 14.11). -/
structure WriteBurst where
  bytes : List Byte
  ecc : HdrEcc
deriving DecidableEq, Repr

/-- A rig time with its fraction in 1/256 of a period (R286). -/
structure FineTime where
  t : W64
  frac : Byte
deriving DecidableEq, Repr

/-- A time marker leaves link port dl at a time (R286). -/
structure MarkerOut where
  dl : Fin 8
  time : FineTime
deriving DecidableEq, Repr

/-- Common command codes of an I3C bus (R29). -/
inductive Ccc where
  | setdasa | entdaa | rstdaa | enec | disec
deriving DecidableEq, Repr

/-- The correction registers of an SP page, which exist in two copies (R44). -/
inductive CorrReg where
  | cfa
  | black (p : Fin 4)
  | linCtrl | gainCtrl | defCtrl | vstCtrl
  | vstA (p : Fin 4)
  | vstB (p : Fin 4)
deriving DecidableEq, Repr

/-- The registers of the STAT page that belong to the selected stream and may be written (R302). -/
inductive StatReg where
  | cfg | baseLo | baseHi | depth
deriving DecidableEq, Repr

/-- Rails with a monitor window, other than VDD_CORE (R345, Table 19.2). -/
inductive Rail where
  | vddIo | vddSram | vdd2h | vddq | vddMipi | vddLink
deriving DecidableEq, Repr

/-- SYNC field of transfer and sluice commands (Table 6.3). -/
structure SyncF where
  wen : Bool
  weq : Bool
  wt  : BitVec 10
  wv  : BitVec 4
  sen : Bool
  sset : Bool
  st  : BitVec 10
  sv  : BitVec 4
deriving DecidableEq, Repr

/-- SCL format (Table 6.8). -/
structure SclF where
  immx : BitVec 16
  imm  : W32
  bi : Bool
  aa : Bool
  da : Bool
  b : BitVec 4
  a : BitVec 4
  d : BitVec 4
deriving DecidableEq, Repr

/-- CTL format (Table 6.10). -/
structure CtlF where
  imm    : W32
  target : BitVec 11
  tsh  : BitVec 5
  qm   : BitVec 3
  idx  : BitVec 4
  cond : BitVec 3
  bi : Bool
  b : BitVec 4
  a : BitVec 4
deriving DecidableEq, Repr

/-- COPY format, F.COPY and W.COPY (Table 6.11). -/
structure CopyF where
  sync : SyncF
  mc : Bool
  vb : BitVec 4
  vl : BitVec 4
  rp : BitVec 8
  mp : BitVec 16
  nl : BitVec 10
  lb : BitVec 13
  rowi : BitVec 14
  row : BitVec 4
  ofs : BitVec 4
  ar : BitVec 3
  race : BitVec 6
deriving DecidableEq, Repr

/-- HOP format, F.HOP (Table 6.12). -/
structure HopF where
  sync : SyncF
  rel : Bool
  bayer : Bool
  rp : BitVec 8
  nc : BitVec 13
  nl : BitVec 7
  rowi : BitVec 14
  row : BitVec 4
  cl : BitVec 4
  ln : BitVec 4
  buf : BitVec 2
  race : BitVec 6
deriving DecidableEq, Repr

/-- FX format (Table 6.13). -/
structure FxF where
  sync : SyncF
  imm : W32
  img : Bool
  dst : BitVec 11
  len : BitVec 11
  woff : BitVec 10
  half : Bool
  ofs : BitVec 4
  ar : BitVec 3
  race : BitVec 6
deriving DecidableEq, Repr

/-- XCONV format (Table 6.14). TW, TL, CIB and COB hold their counts minus one (R131). -/
structure XconvF where
  ich : BitVec 2
  accout : Bool
  accin : Bool
  opt : BitVec 8
  ip : BitVec 8
  cob : BitVec 4
  cib : BitVec 6
  tl : BitVec 6
  tw : BitVec 5
  qoff : BitVec 10
  woff : BitVec 10
  val : BitVec 4
  edge : BitVec 4
  outi : BitVec 14
  ini : BitVec 14
  rb : BitVec 4
  layer : BitVec 4
deriving DecidableEq, Repr

/-- X.WLDS (Table 6.15). -/
structure XwldsF where
  trans : Bool
  nt : BitVec 7
  half : Bool
  woff : BitVec 10
  rowi : BitVec 14
  rb : BitVec 4
deriving DecidableEq, Repr

/-- X.POOL (Table 6.15). -/
structure XpoolF where
  func : Bool
  opt : BitVec 8
  ip : BitVec 8
  cb : BitVec 6
  tl : BitVec 6
  tw : BitVec 5
  qoff : BitVec 10
  val : BitVec 4
  edge : BitVec 4
  outi : BitVec 14
  ini : BitVec 14
  rb : BitVec 4
  layer : BitVec 4
deriving DecidableEq, Repr

/-- VEC format (Table 6.16). -/
structure VecF where
  xb : BitVec 8
  xri : BitVec 14
  xr : BitVec 4
  part : BitVec 2
  rwi : BitVec 14
  rw : BitVec 4
  sb : Bool
  fmt : BitVec 3
  rel : BitVec 2
  n : BitVec 6
  vc : BitVec 4
  vb : BitVec 4
  va : BitVec 4
  vd : BitVec 4
deriving DecidableEq, Repr

/-- GLZ format, W.GLZ (Table 6.17). -/
structure GlzF where
  sync : SyncF
  ctx : BitVec 4
  vb : BitVec 4
  vl : BitVec 4
  rp : BitVec 8
  nl : BitVec 10
  lb : BitVec 13
  rowi : BitVec 14
  row : BitVec 4
  line : BitVec 4
  glz : BitVec 3
  race : BitVec 6
deriving DecidableEq, Repr

/-- TAL format (Table 6.18). -/
structure TalF where
  imm : W32
  dr : BitVec 4
  vr : BitVec 4
  vi : Bool
  c : Bool
  t : BitVec 10
  q : BitVec 2
deriving DecidableEq, Repr

/-- SLU format (Table 6.18). -/
structure SluF where
  sync : SyncF
  t : BitVec 10
  ten : Bool
  nr : BitVec 15
  rowi : BitVec 14
  row : BitVec 4
  win : BitVec 3
deriving DecidableEq, Repr

/-- Flit header (Table 15.3). -/
structure Fhdr where
  fseq : BitVec 12
  fack : BitVec 12
  crcls : BitVec 5
  crcnt : BitVec 7
deriving DecidableEq, Repr

/-- What FEC and the CRC made of an arriving flit (R275, R276). -/
inductive FecResult where
  | clean | corrected | bad
deriving DecidableEq, Repr

/-- Time marker contents (R286), times in 1/256 of a rig-time period. -/
structure Marker where
  depart : Nat
  lastDepart : Nat
  lastArrive : Nat
  hops : BitVec 5
deriving DecidableEq, Repr

/-- Capabilities the far end gives in training step 1 (R273): device ID, highest rate, lanes, offered level, stepping. -/
structure FarCaps where
  dev : BitVec 9
  rateMax : BitVec 2
  laneEn : BitVec 4
  lvl : BitVec 2
  stepping : Byte
deriving DecidableEq, Repr

/-- One entry of a ROUTE_ADV distance vector (R283). -/
structure AdvEntry where
  dev : BitVec 9
  hops : BitVec 4
  l2 : Bool
deriving DecidableEq, Repr

/-- Message opcodes (Table 15.4). -/
inductive MsgOp where
  | rdReq | rdRsp | wrMem | xferOpen | wrSp | tallySet | tallyAdd | job | jobRsp | recMsg | wrTally
  | prune | rejoin | ack | nak | hello | routeAdv
  | reserved (op : Byte)
deriving DecidableEq, Repr

/-- A message: the header slot of Table 15.5 and the data slots that follow. `mask` is the byte mask of a write,
`words` the descriptor or record of JOB and REC, `quanta` the quanta a JOB assigns, `adv` a distance vector. -/
structure Msg where
  op : MsgOp
  len : BitVec 4 := 1
  hop : BitVec 4 := 0
  dst : BitVec 9 := 0
  src : BitVec 9 := 0
  seq : BitVec 16 := 0
  addr : BitVec 39 := 0
  bytes : BitVec 9 := 0
  urg : BitVec 24 := 0
  tie : BitVec 5 := 0
  race : BitVec 6 := 0
  core : BitVec 5 := 0
  xfer : BitVec 8 := 0
  value : W32 := 0
  frame : W32 := 0
  status : Byte := 0
  detail : BitVec 24 := 0
  data : List Byte := []
  mask : List Bool := []
  words : List W32 := []
  quanta : List Nat := []
  adv : List AdvEntry := []
deriving DecidableEq, Repr

/-- Mode-register settings in force on a host channel, as HC_STATE reports them (R255). -/
structure HcMode where
  rl : Byte
  wl : Byte
  rate : BitVec 3
  linkEcc : Bool
  dbiRd : Bool
  dm : Bool
  bg : Bool
deriving DecidableEq, Repr

/-- The items the firing calibrates (R351, Table 19.6). -/
inductive CalItem where
  | sensorPort (n : Fin 24)
  | memChan (k : Fin 8)
  | hostChan (h : Fin 4)
  | link (d : Fin 8)
  | delay (pd : Fin 40)
  | delayCommon
  | tempSensor (pd : Fin 40)
  | monitor (m : Fin 16)
deriving DecidableEq, Repr

/-- What the firing finds of the part on one memory channel (R240 to R243): MR5 to MR8 as read, with the type, density (0 to 3: 1, 2, 4, 8 GiB) and
rank count that MR8 reports and whether the registers report link ECC; the rates of Table 13.1 (by their code) at which full training
passes and the trims it finds; whether the check word of the stored record matches and its trims pass the write and read-back. -/
structure MemPart where
  ids : List Byte
  lp5x : Bool
  density : BitVec 2
  twoRanks : Bool
  linkEcc : Bool
  passes : BitVec 6
  trims : List Byte
  recordOk : Bool
  verifies : Bool
deriving DecidableEq, Repr

/-- What the memory group of the firing finds: the part of each channel and the temperature of each PHY half in degrees, from MONITOR (R350). -/
structure MemFiring where
  parts : List MemPart
  tempLo : Int
  tempHi : Int
deriving DecidableEq, Repr

/-- The commands of the device: one constructor per row of opcode_table.json. Those without operands stand last: compiled Lean numbers at
most 244 constructors with operands. -/
inductive Instr where
  /-- REGISTER_WRITE (R9): A write to a register that has no row of its own takes effect under its access type, range checks and state refusals. -/
  | registerWrite (src : Agent) (page : BitVec 12) (off : BitVec 12) (v : W32)
  /-- CMD_TAIL_WRITE (R266): The host writes a command ring's CMD_TAIL doorbell to post descriptors; the write is refused with STATE when the ring is disabled or the new tail overruns the ring. -/
  | cmdTailWrite (ring : Fin 16) (v : W32)
  /-- DESCRIPTOR_TAKE (R266): The device reads the next posted descriptor of a ring in index order and advances CMD_HEAD. -/
  | descriptorTake (ring : Fin 16)
  /-- CHECK_ROUND (R18): Every unit that could execute part of a job applies the dispatch checks; the job is then refused, completed with ZERO, or started. -/
  | checkRound (job : Nat)
  /-- ITEM_START (R94): A core starts its next ready accepted item, loads the start registers and resets the core's private tallies. -/
  | itemStart (core : Fin 32)
  /-- ITEM_COMPLETE (R99): An item completes once its three END markers have retired, its windows are closed and its remote actions are acknowledged; its record is then written or absorbed. -/
  | itemComplete (core : Fin 32)
  /-- SPAN_HDR_WRITE (R24): A write to a span entry's header sets or clears VALID, is validated, and is refused with STATE while the entry is valid unless it clears VALID. -/
  | spanHdrWrite (src : Agent) (entry : Fin 240) (v : W32)
  /-- SPAN_MEMB_WRITE (R23): A write to a span member register, refused with STATE while the entry is valid. -/
  | spanMembWrite (src : Agent) (entry : Fin 240) (memb : Fin 14) (v : W32)
  /-- PORT_ENABLE (R31): Setting INTAKE_CTRL.EN with the domain on takes the port from OFF to IDLE. -/
  | portEnable (src : Agent) (port : Fin 24)
  /-- PORT_DISABLE (R31): Clearing INTAKE_CTRL.EN takes the port to OFF at once and cuts any frame in progress. -/
  | portDisable (src : Agent) (port : Fin 24)
  /-- PROBE (R32): The PROBE command in IDLE starts reading the ID registers of the candidate profiles. -/
  | probe (src : Agent) (port : Fin 24)
  /-- START (R34): The START command in READY puts the port in STREAM, subject to the aggregate pixel-rate and partition checks. -/
  | portStart (src : Agent) (port : Fin 24)
  /-- STOP (R31): The STOP command in STREAM puts the port in STOPPING to finish the frame in progress. -/
  | portStop (src : Agent) (port : Fin 24)
  /-- RELEASE (R31): The RELEASE command in READY returns the port to IDLE. -/
  | release (src : Agent) (port : Fin 24)
  /-- TBL_SWAP (R44): A table swap request exchanges the active and standby correction copies at once, or pends until the next frame start when the port is streaming. -/
  | tblSwap (src : Agent) (port : Fin 24)
  /-- CORRECTION_REG_WRITE (R44): A correction-register write writes both copies and is refused in the wrong port state or while a swap is pending. -/
  | correctionRegWrite (src : Agent) (port : Fin 24) (reg : CorrReg) (v : W32)
  /-- TBL_DATA_WRITE (R44): A TBL_DATA write stores a standby table entry and advances TBL_SEL.INDEX. -/
  | tblDataWrite (src : Agent) (port : Fin 24) (v : W32)
  /-- TBL_DATA_READ (R373): A management-controller read of TBL_DATA returns the entry and advances the index. -/
  | tblDataRead (port : Fin 24)
  /-- I3C_TRANSFER_DONE (R30): A probe, script or exposure transfer on an IC bus completes and the next queued transfer, exposure writes first, begins. -/
  | i3cTransferDone (bus : Fin 12) (ack : Bool) (data : W32)
  /-- SCRIPT_WAIT_EXPIRY (R30): A wait step of a sensor script ends after its rig-time count. -/
  | scriptWaitExpiry (port : Fin 24) (t : W64)
  /-- TRAINING_TIMEOUT (R32): A mode that has not trained within 20 ms is given up and the next mode is tried, or the port returns to IDLE. -/
  | trainingTimeout (port : Fin 24) (t : W64)
  /-- HOT_JOIN (R29): A Hot-Join request on a bus probes every IDLE port of that bus. -/
  | hotJoin (bus : Fin 12)
  /-- IN_BAND_INTERRUPT (R29): An in-band interrupt from a sensor stores its payload in SPn.IBI. -/
  | inBandInterrupt (port : Fin 24) (payload : W32)
  /-- LOSS_TIMEOUT_EXPIRY (R33): No frame start within LOSS_TIMEOUT puts a streaming port in LOST and cuts the frame. -/
  | lossTimeoutExpiry (port : Fin 24) (t : W64)
  /-- LANE_LOCK_LOST (R33): Loss of receiver lane lock for more than 100 µs puts the port in LOST. -/
  | laneLockLost (port : Fin 24)
  /-- LOST_TO_IDLE (R31): A LOST port returns to IDLE once no work item waits on it. -/
  | lostToIdle (port : Fin 24)
  /-- FRAME_START_PACKET (R40): A frame-start packet numbers the frame, applies any pending table swap, and tests the frame for admission and shedding. -/
  | frameStartPacket (port : Fin 24) (vc : BitVec 5) (csiFn : BitVec 16) (ecc : PktHdr)
  /-- LINE_PACKET (R28): A long packet of pixel data is taken into the receiver's holding lines, or lost on overrun. -/
  | linePacket (port : Fin 24) (vc : BitVec 5) (dt : BitVec 6) (pixels : List (BitVec 20)) (crcOk : Bool) (ecc : PktHdr) (t : W64)
  /-- LINE_INTAKE (R35): The intake corrects a held line into the hopper, takes its statistics, releases waiting reads and makes quanta ready. -/
  | lineIntake (port : Fin 24) (stream : Fin 4)
  /-- FRAME_END_PACKET (R40): A frame-end packet ends the frame, and the frame is cut when lines are missing. -/
  | frameEndPacket (port : Fin 24) (vc : BitVec 5) (ecc : PktHdr)
  /-- EMBEDDED_DATA_PACKET (R27): An embedded data packet is copied into the frame's statistics record. -/
  | embeddedDataPacket (port : Fin 24) (head : PktHead) (bytes : List Byte)
  /-- LINE_SHORT_PACKET (R27): A line start or line end short packet is accepted and ignored. -/
  | lineShortPacket (port : Fin 24) (head : PktHead)
  /-- DISCARDED_PACKET (R27): A packet of an unsupported data type is discarded and counted; one that uses a feature Table 2.1 does not
  support is a format error. -/
  | discardedPacket (port : Fin 24) (head : PktHead) (pkt : OtherPkt)
  /-- STAT_RECORD_WRITE (R67): After frame end or cut, the frame's statistics record is written to its ring and the statistics tally is added. -/
  | statRecordWrite (port : Fin 24) (stream : Fin 4)
  /-- FSYNC_PULSE_END (R42): An FSYNC pulse ends after WIDTH rig-time periods. -/
  | fsyncPulseEnd (port : Fin 24) (t : W64)
  /-- HOLDOVER_EXPIRY (R53): HOLD_MAX ms in HOLDOVER moves rig time to FREE. -/
  | holdoverExpiry (t : W64)
  /-- RIG_TIME_LO_READ (R54): A read of RIG_TIME_LO returns the low word and captures the high word. -/
  | rigTimeLoRead (src : Agent)
  /-- LAUNCH_NONE (R56): A due NONE entry fires with no action and applies its repeat. -/
  | launchNone (entry : Fin 256) (t : W64)
  /-- LAUNCH_TRIGGER (R60): A due TRIGGER entry makes one FSYNC pulse on each masked port and applies its repeat. -/
  | launchTrigger (entry : Fin 256) (t : W64)
  /-- LAUNCH_EXPOSURE (R63): A due EXPOSURE entry writes each masked streaming port's queued request for frame N + L to its sensor. -/
  | launchExposure (entry : Fin 256) (t : W64)
  /-- LAUNCH_PORT_CMD (R58): A due PORT_CMD entry issues its port command, with optional frame load, to each masked port. -/
  | launchPortCmd (entry : Fin 256) (t : W64)
  /-- LAUNCH_DISPATCH (R59): A due DISPATCH entry posts a copy of its stored descriptor, with the port's frame number when asked. -/
  | launchDispatch (entry : Fin 256) (t : W64)
  /-- LAUNCH_COMMIT (R334): A due CFG COMMIT entry makes the staged set active and requests swaps on cores and covered ports. -/
  | launchCommit (entry : Fin 256) (t : W64)
  /-- LAUNCH_REVERT (R335): A due CFG REVERT entry exchanges active and previous sets and requests the swaps. -/
  | launchRevert (entry : Fin 256) (t : W64)
  /-- LAUNCH_TBL_SWAP (R44): A due TBL_SWAP entry requests a table swap on each masked port. -/
  | launchTblSwap (entry : Fin 256) (t : W64)
  /-- LAUNCH_TALLY_SET (R146): A due TALLY entry sets a local tally. -/
  | launchTallySet (entry : Fin 256) (t : W64)
  /-- LAUNCH_TALLY_ADD (R146): A due TALLY entry adds to a local tally. -/
  | launchTallyAdd (entry : Fin 256) (t : W64)
  /-- LAUNCH_WATCH_GE (R147): A due WATCH entry reads a tally once and raises event WATCH when it is not at least the value. -/
  | launchWatchGe (entry : Fin 256) (t : W64)
  /-- LAUNCH_WATCH_EQ (R147): A due WATCH entry reads a tally once and raises event WATCH when it does not equal the value. -/
  | launchWatchEq (entry : Fin 256) (t : W64)
  /-- LAUNCH_ARM (R58): A due ARM action arms another entry before the next firing. -/
  | launchArm (entry : Fin 256) (t : W64)
  /-- LAUNCH_DISARM (R58): A due ARM action with bit 8 clear disarms another entry before the next firing. -/
  | launchDisarm (entry : Fin 256) (t : W64)
  /-- EXPOSURE_WRITE_DONE (R64): An exposure write to the sensor completes or is not acknowledged, is retried once, and sets the tag in force. -/
  | exposureWriteDone (port : Fin 24) (ack : Bool)
  /-- DESC_DATA_WRITE (R59): A DESC_DATA write stores a descriptor-store word and advances DESC_SEL. -/
  | descDataWrite (src : Agent) (v : W32)
  /-- NOP (R121): The sequencer carries out NOP with no effect. -/
  | nop (core : Fin 32) (f : SclF)
  /-- MOVI (R121): Load an immediate into an S or A register. -/
  | movi (core : Fin 32) (f : SclF)
  /-- MOV (R121): Copy a register. -/
  | mov (core : Fin 32) (f : SclF)
  /-- ADD (R121): Add registers or an immediate. -/
  | add (core : Fin 32) (f : SclF)
  /-- SUB (R121): Subtract registers or an immediate. -/
  | sub (core : Fin 32) (f : SclF)
  /-- MUL (R121): Low 32 bits of a product. -/
  | mul (core : Fin 32) (f : SclF)
  /-- MADA (R121): Address multiply-add into an A register. -/
  | mada (core : Fin 32) (f : SclF)
  /-- AND (R121): Bitwise AND. -/
  | andS (core : Fin 32) (f : SclF)
  /-- OR (R121): Bitwise OR. -/
  | orS (core : Fin 32) (f : SclF)
  /-- XOR (R121): Bitwise XOR. -/
  | xorS (core : Fin 32) (f : SclF)
  /-- SHL (R121): Shift left. -/
  | shl (core : Fin 32) (f : SclF)
  /-- SHR (R121): Logical shift right. -/
  | shr (core : Fin 32) (f : SclF)
  /-- SRA (R121): Arithmetic shift right. -/
  | sra (core : Fin 32) (f : SclF)
  /-- MIN (R121): Signed minimum. -/
  | minS (core : Fin 32) (f : SclF)
  /-- MAX (R121): Signed maximum. -/
  | maxS (core : Fin 32) (f : SclF)
  /-- SLT (R121): Set on signed less-than. -/
  | slt (core : Fin 32) (f : SclF)
  /-- CSHR (R121): Ceiling shift right. -/
  | cshr (core : Fin 32) (f : SclF)
  /-- RTIME (R121): Read rig time into two S registers from one instant. -/
  | rtime (core : Fin 32) (f : SclF)
  /-- UNIT (R121): Read the core's own unit ID. -/
  | unitId (core : Fin 32) (f : SclF)
  /-- END (R122): End reading of the item, place end markers in the three queues, and start closing windows left open. -/
  | endItem (core : Fin 32) (f : CtlF)
  /-- BR (R123): Unconditional forward branch. -/
  | br (core : Fin 32) (f : CtlF)
  /-- BC (R123): Conditional forward branch. -/
  | bc (core : Fin 32) (f : CtlF)
  /-- LOOP (R124): Enter a counted loop whose count is fixed at entry. -/
  | loop (core : Fin 32) (f : CtlF)
  /-- DRAIN (R125): Stall the sequencer until the selected queues' entries of the item have retired. -/
  | drain (core : Fin 32) (f : CtlF)
  /-- F_COPY (R126): Queue a transfer from memory lines to scratchpad rows. -/
  | fCopy (core : Fin 32) (f : CopyF)
  /-- F_HOP (R128): Queue a transfer of hopper lines, unpacked to INT16, into the scratchpad. -/
  | fHop (core : Fin 32) (f : HopF)
  /-- F_WGT (R129): Queue a copy of weights from memory into a weight-store half. -/
  | fWgt (core : Fin 32) (f : FxF)
  /-- F_RQT (R129): Queue a copy of requant entries from an image into a weight-store half. -/
  | fRqt (core : Fin 32) (f : FxF)
  /-- F_IMEM (R130): Queue a copy of words into the standby instruction bank. -/
  | fImem (core : Fin 32) (f : FxF)
  /-- F_PAD (R130): Set the fetch pad pattern for later FQ entries. -/
  | fPad (core : Fin 32) (f : FxF)
  /-- F_RARM (R182): Re-arm a fetch race lane with a new base and line count. -/
  | fRarm (core : Fin 32) (f : FxF)
  /-- X_CONV (R131): Queue a convolution or matrix tile on the MAC array. -/
  | xConv (core : Fin 32) (f : XconvF)
  /-- X_WLDS (R133): Queue a copy of scratchpad rows into a weight-store half, optionally transposed. -/
  | xWlds (core : Fin 32) (f : XwldsF)
  /-- X_WFLIP (R133): Queue an exchange of the active and standby weight-store halves. -/
  | xWflip (core : Fin 32)
  /-- X_POOL (R134): Queue a max or average pooling tile on the vector unit. -/
  | xPool (core : Fin 32) (f : XpoolF)
  /-- VLD (R136): Load a vector register from a scratchpad row. -/
  | vld (core : Fin 32) (f : VecF)
  /-- VST (R136): Store a vector register to a scratchpad row, narrowing. -/
  | vst (core : Fin 32) (f : VecF)
  /-- VBC (R135): Broadcast an S register to every lane. -/
  | vbc (core : Fin 32) (f : VecF)
  /-- VADD (R82): Wrapping lane addition. -/
  | vadd (core : Fin 32) (f : VecF)
  /-- VSUB (R82): Wrapping lane subtraction. -/
  | vsub (core : Fin 32) (f : VecF)
  /-- VADDS (R82): Saturating lane addition. -/
  | vadds (core : Fin 32) (f : VecF)
  /-- VSUBS (R82): Saturating lane subtraction. -/
  | vsubs (core : Fin 32) (f : VecF)
  /-- VMUL (R82): Low 32 bits of the lane product. -/
  | vmul (core : Fin 32) (f : VecF)
  /-- VMIN (R82): Lane minimum. -/
  | vmin (core : Fin 32) (f : VecF)
  /-- VMAX (R82): Lane maximum. -/
  | vmax (core : Fin 32) (f : VecF)
  /-- VABS (R82): Lane absolute value, saturating. -/
  | vabs (core : Fin 32) (f : VecF)
  /-- VAND (R82): Lane bitwise AND. -/
  | vand (core : Fin 32) (f : VecF)
  /-- VOR (R82): Lane bitwise OR. -/
  | vor (core : Fin 32) (f : VecF)
  /-- VXOR (R82): Lane bitwise XOR. -/
  | vxor (core : Fin 32) (f : VecF)
  /-- VSHL (R82): Lane shift left by N. -/
  | vshl (core : Fin 32) (f : VecF)
  /-- VSHRA (R82): Lane arithmetic shift right by N. -/
  | vshra (core : Fin 32) (f : VecF)
  /-- VSHRR (R82): Lane rounding shift right by N. -/
  | vshrr (core : Fin 32) (f : VecF)
  /-- VCMP (R82): Signed lane compare to a mask. -/
  | vcmp (core : Fin 32) (f : VecF)
  /-- VSEL (R135): Lane select by mask. -/
  | vsel (core : Fin 32) (f : VecF)
  /-- VRQ (R137): Lane requantisation with per-lane M, S and clamps. -/
  | vrq (core : Fin 32) (f : VecF)
  /-- VSUMR (R82): Wrapping sum of the 64 lanes. -/
  | vsumr (core : Fin 32) (f : VecF)
  /-- VMAXR (R82): Largest lane. -/
  | vmaxr (core : Fin 32) (f : VecF)
  /-- VMINR (R82): Smallest lane. -/
  | vminr (core : Fin 32) (f : VecF)
  /-- VMOV (R135): Copy a vector register. -/
  | vmov (core : Fin 32) (f : VecF)
  /-- VADDF (R84): binary32 lane addition. -/
  | vaddf (core : Fin 32) (f : VecF)
  /-- VSUBF (R84): binary32 lane subtraction. -/
  | vsubf (core : Fin 32) (f : VecF)
  /-- VMULF (R84): binary32 lane multiplication. -/
  | vmulf (core : Fin 32) (f : VecF)
  /-- VFMAF (R84): binary32 fused multiply-add. -/
  | vfmaf (core : Fin 32) (f : VecF)
  /-- VMINF (R84): binary32 lane minimum. -/
  | vminf (core : Fin 32) (f : VecF)
  /-- VMAXF (R84): binary32 lane maximum. -/
  | vmaxf (core : Fin 32) (f : VecF)
  /-- VRCPF (R84): binary32 reciprocal. -/
  | vrcpf (core : Fin 32) (f : VecF)
  /-- VDIVF (R84): binary32 division. -/
  | vdivf (core : Fin 32) (f : VecF)
  /-- VSQRTF (R84): binary32 square root. -/
  | vsqrtf (core : Fin 32) (f : VecF)
  /-- VRSQF (R84): binary32 reciprocal square root. -/
  | vrsqf (core : Fin 32) (f : VecF)
  /-- VEXPF (R84): binary32 exponential. -/
  | vexpf (core : Fin 32) (f : VecF)
  /-- VLOGF (R84): binary32 natural logarithm. -/
  | vlogf (core : Fin 32) (f : VecF)
  /-- VTANHF (R84): binary32 hyperbolic tangent. -/
  | vtanhf (core : Fin 32) (f : VecF)
  /-- VSIGF (R84): binary32 logistic sigmoid. -/
  | vsigf (core : Fin 32) (f : VecF)
  /-- VGELUF (R84): binary32 GELU. -/
  | vgeluf (core : Fin 32) (f : VecF)
  /-- VSUMRF (R85): binary32 sum of 64 lanes in a fixed tree. -/
  | vsumrf (core : Fin 32) (f : VecF)
  /-- VMAXRF (R84): Largest binary32 lane. -/
  | vmaxrf (core : Fin 32) (f : VecF)
  /-- VMINRF (R84): Smallest binary32 lane. -/
  | vminrf (core : Fin 32) (f : VecF)
  /-- VCVTIF (R86): Convert INT32 lanes to binary32. -/
  | vcvtif (core : Fin 32) (f : VecF)
  /-- VCVTFI (R86): Convert binary32 lanes to a scaled, saturated integer. -/
  | vcvtfi (core : Fin 32) (f : VecF)
  /-- VCVTFB (R137): Convert binary32 lanes to SB8 blocks. -/
  | vcvtfb (core : Fin 32) (f : VecF)
  /-- W_COPY (R138): Queue a transfer of scratchpad rows to memory, staging, the scratchpad or a remote sluice window. -/
  | wCopy (core : Fin 32) (f : CopyF)
  /-- W_GLZ (R139): Queue a transfer of tile lines to a glaze unit context. -/
  | wGlz (core : Fin 32) (f : GlzF)
  /-- W_RARM (R182): Re-arm a writeback race lane. -/
  | wRarm (core : Fin 32) (f : FxF)
  /-- T_WAIT (R140): Wait on a tally in the sequencer or as a queue entry. -/
  | tWait (core : Fin 32) (f : TalF)
  /-- T_UPD (R140): Set or add a local tally at execution or at retirement. -/
  | tUpd (core : Fin 32) (f : TalF)
  /-- T_RUPD (R140): Set or add a tally on a named device. -/
  | tRupd (core : Fin 32) (f : TalF)
  /-- S_OPEN (R169): Open a sluice window over rows, with an optional arrival tally. -/
  | sOpen (core : Fin 32) (f : SluF)
  /-- S_CLOSE (R170): Put an open sluice window in CLOSING. -/
  | sClose (core : Fin 32) (f : SluF)
  /-- QUEUE_ENTRY_START (R96): An engine starts its head entry once its wait condition, transfer room and ordering conditions hold. -/
  | queueEntryStart (core : Fin 32) (q : Queue)
  /-- ENTRY_COMPLETE (R142): A queue entry's operation completes with its effects visible at the destination. -/
  | entryComplete (core : Fin 32) (q : Queue) (idx : Fin 32)
  /-- IMEM_DATA_WRITE (R100): A write of an instruction word to the standby bank advances IMEM_SEL and may start or reset a directory load check. -/
  | imemDataWrite (src : Agent) (core : Fin 32) (v : W32)
  /-- IMEM_DATA_READ (R373): A management-controller read of IMEM_DATA returns the word and advances IMEM_SEL. -/
  | imemDataRead (core : Fin 32)
  /-- LOAD_CHECK_DONE (R118): A program's load check ends with LSTATE passed or failed and FAIL_WORD set. -/
  | loadCheckDone (core : Fin 32) (bank : Bool) (check : CheckEnd)
  /-- IMEM_SWAP (R101): IMEM_CTRL.SWAP requests a bank swap, refused while standby entries are unchecked. -/
  | imemSwap (src : Agent) (core : Fin 32)
  /-- BANK_SWAP (R101): At the first allowed program boundary, the active and standby instruction banks exchange. -/
  | bankSwap (core : Fin 32)
  /-- CORE_CMD_OUT (R308): CORE_CMD OUT takes a core out of service, fences it, re-issues or fails its in-flight items and reassigns its quanta. -/
  | coreCmdOut (src : Agent) (core : Fin 32)
  /-- CORE_CMD_RETURN (R301): CORE_CMD RETURN puts an OUT core back in IDLE with its contents as left. -/
  | coreCmdReturn (src : Agent) (core : Fin 32)
  /-- LIVENESS_TIMEOUT (R307): A liveness ring with no transition for 2 µs takes its core OUT. -/
  | livenessTimeout (core : Fin 32)
  /-- TALLY_T_SET_WRITE (R159): A T_SET write sets the selected tally. -/
  | tallyTSetWrite (src : Agent) (page : Fin 16) (v : W32)
  /-- TALLY_T_ADD_WRITE (R159): A T_ADD write adds to the selected tally. -/
  | tallyTAddWrite (src : Agent) (page : Fin 16) (v : W32)
  /-- TALLY_T_ATTR_WRITE (R159): A T_ATTR write sets the STRICT attribute of the selected tally. -/
  | tallyTAttrWrite (src : Agent) (page : Fin 16) (v : W32)
  /-- SCOREBOARD_DEADLOCK (R156): The set-ahead scoreboard declares a deadlock on private-tally waits and fails the item. -/
  | scoreboardDeadlock (core : Fin 32)
  /-- WAIT_LIMIT_EXPIRY (R157): A tally wait registered longer than WAIT_LIMIT fails its item with DEADLOCK KIND 0b10. -/
  | waitLimitExpiry (core : Fin 32) (who : Waiter) (t : W64)
  /-- CORE_SCRUB_ROW (R167): The core scrubber reads one row and rewrites corrected words. -/
  | coreScrubRow (core : Fin 32)
  /-- SLUICE_LANDING (R173): An accepted remote transfer lands, adds the arrival tally, is acknowledged, and may complete a CLOSING window. -/
  | sluiceLanding (core : Fin 32) (win : Fin 8)
  /-- GATE_GRANT (R186): A weir gate grants one pending row to the most urgent lane not short of space. -/
  | gateGrant (turn : GateTurn)
  /-- MC_HOLD_EXPIRY (R190): A stripe held for a member longer than MC_HOLD prunes that member. -/
  | mcHoldExpiry (race : Fin 64) (memb : Fin 16) (t : W64)
  /-- RD_CTRL_WRITE (R194): A write to a race's RD_CTRL sets or clears VALID after validation. -/
  | rdCtrlWrite (src : Agent) (race : Fin 64) (v : W32)
  /-- GLAZE_LINE_OUTPUT (R238): A glaze unit writes a completed output line and, at the group's end, the slot's ready record. -/
  | glazeLineOutput (glz : Fin 8)
  /-- GLAZE_BAND_WAIT_TIMEOUT (R233): A W.GLZ that waited longer than C_HOLD for band space fails its item with DEADLOCK. -/
  | glazeBandWaitTimeout (core : Fin 32) (t : W64)
  /-- GLAZE_SLOT_HOLD_TIMEOUT (R237): A band that waited longer than C_HOLD for its slot takes the slot under OVR or fails its item. -/
  | glazeSlotHoldTimeout (core : Fin 32) (t : W64)
  /-- CTX_ARM (R239): CTX_CMD ARM validates and arms the selected glaze context. -/
  | ctxArm (src : Agent) (glz : Fin 8)
  /-- CTX_DISARM (R239): CTX_CMD DISARM disarms a context with no open band. -/
  | ctxDisarm (src : Agent) (glz : Fin 8)
  /-- COEF_DATA_WRITE (R373): A COEF_DATA write stores a scaling coefficient and advances COEF_SEL. -/
  | coefDataWrite (src : Agent) (glz : Fin 8) (v : W32)
  /-- COEF_DATA_READ (R373): A management-controller read of COEF_DATA advances COEF_SEL. -/
  | coefDataRead (glz : Fin 8)
  /-- MEM_TRACKING (R244): Every 100 ms a channel reads its WCK2DQ oscillators, latches ZQ and applies its corrections. -/
  | memTracking (chan : Fin 8) (want : Int)
  /-- MEM_REFRESH (R244): A per-bank refresh at the MR4 rate. -/
  | memRefresh (read : RefreshRead)
  /-- MEM_PATROL_SCRUB (R250): The patrol scrubber reads and corrects a data sector. -/
  | memPatrolScrub (chan : Fin 8)
  /-- HOST_READ (R261): A host read burst is answered at RL from shadows, ring SRAM, staging or the marker. -/
  | hostRead (ch : Fin 4) (addr : BitVec 29) (bl32 : Bool)
  /-- HOST_WRITE (R264): A host write burst is written to ring SRAM or staging, or passed to the control aperture. -/
  | hostWrite (ch : Fin 4) (addr : BitVec 29) (data : WriteBurst)
  /-- HOST_MASKED_WRITE (R264): A masked-write command writes only the unmasked bytes. -/
  | hostMaskedWrite (ch : Fin 4) (addr : BitVec 29) (data : WriteBurst) (mask : List Bool)
  /-- CONTROL_WRITE_APPLY (R265): Each whole unmasked word of a control-aperture write is applied as a register write and WR_SEQ increments. -/
  | controlWriteApply (ch : Fin 4)
  /-- MODE_REGISTER_WRITE (R255): A mode-register write takes effect after tMRW; writes to read-only registers are ignored and counted. -/
  | modeRegisterWrite (ch : Fin 4) (mr : BitVec 7) (v : Byte) (eff : HcMode)
  /-- MODE_REGISTER_READ (R254): A mode-register read returns standard values, HP_CFG values or the vendor registers. -/
  | modeRegisterRead (ch : Fin 4) (mr : BitVec 7)
  /-- HOST_REFRESH (R258): A refresh or refresh-management command is accepted and counted. -/
  | hostRefresh (ch : Fin 4)
  /-- HOST_ACTIVATE (R259): An activate command is accepted with no effect. -/
  | hostActivate (ch : Fin 4)
  /-- HOST_PRECHARGE (R259): A precharge command is accepted with no effect. -/
  | hostPrecharge (ch : Fin 4)
  /-- SELF_REFRESH_ENTRY (R258): The channel enters SREF while the device keeps running. -/
  | selfRefreshEntry (ch : Fin 4)
  /-- SELF_REFRESH_EXIT (R258): The channel leaves SREF. -/
  | selfRefreshExit (ch : Fin 4)
  /-- POWER_DOWN_ENTRY (R258): The channel enters PDN. -/
  | powerDownEntry (ch : Fin 4)
  /-- POWER_DOWN_EXIT (R258): The channel leaves PDN. -/
  | powerDownExit (ch : Fin 4)
  /-- DEEP_SLEEP_ENTRY (R258): A deep-sleep entry is treated as self-refresh entry and counted. -/
  | deepSleepEntry (ch : Fin 4)
  /-- HOST_TRAINING_ENTRY (R257): The host enters a training mode and the channel goes to TRAIN. -/
  | hostTrainingEntry (ch : Fin 4)
  /-- HOST_TRAINING_EXIT (R257): The host leaves training and the channel returns to operation. -/
  | hostTrainingExit (ch : Fin 4)
  /-- HC_RESET (R256): HCn_RESET_n low returns the channel to WAIT with default mode registers. -/
  | hcReset (ch : Fin 4)
  /-- CPL_HEAD_WRITE (R267): The host releases completion records by writing CPL_HEAD, letting pending records in. -/
  | cplHeadWrite (ring : Fin 16) (v : W32)
  /-- HP_CFG_WRITE (R270): A write to HP_CFG, refused while EN is 1 unless it clears EN; clearing EN takes the channels to OFF. -/
  | hpCfgWrite (src : Agent) (v : W32)
  /-- RETRAIN (R273): DL_CMD RETRAIN starts link training. -/
  | retrain (src : Agent) (dl : Fin 8)
  /-- RENEG (R288): DL_CMD RENEG moves an UP port to RENEG to exchange levels again. -/
  | reneg (src : Agent) (dl : Fin 8)
  /-- DOWN (R277): DL_CMD DOWN takes an UP port DOWN. -/
  | down (src : Agent) (dl : Fin 8)
  /-- DL_CFG_WRITE (R290): A DL_CFG write configures the port, refused while active unless it clears EN; EN set starts training. -/
  | dlCfgWrite (src : Agent) (dl : Fin 8) (v : W32)
  /-- LINK_MODE_ATTEMPT_DONE (R273): A training attempt in one mode succeeds, taking the port UP, or fails within 20 ms and the next mode is tried. -/
  | linkModeAttemptDone (dl : Fin 8) (mode : Fin 9) (ok : Bool) (far : FarCaps)
  /-- LINK_TRAIN_RETRY (R273): 100 ms after failed training the port tries again. -/
  | linkTrainRetry (dl : Fin 8) (t : W64)
  /-- RENEG_COMPLETE (R288): Renegotiation ends and the port returns to UP at the new level. -/
  | renegComplete (dl : Fin 8) (peerLvl : BitVec 2)
  /-- DATA_FLIT (R276): A data flit is taken in sequence or discarded with a replay request, and its credits and acknowledgements are applied. -/
  | dataFlit (dl : Fin 8) (h : Fhdr) (fec : FecResult) (msgs : List Msg) (t : W64)
  /-- IDLE_FLIT (R275): An idle flit is received. -/
  | idleFlit (dl : Fin 8) (h : Fhdr) (t : W64)
  /-- REPLAY_REQUEST (R276): A replay request resends flits from the requested FSEQ, and too many replays take the port DOWN. -/
  | replayRequest (dl : Fin 8) (h : Fhdr) (t : W64)
  /-- TIME_MARKER (R286): A time-marker flit updates the hop-delay measurement and, on the upstream port, applies the upstream time. -/
  | timeMarker (dl : Fin 8) (h : Fhdr) (m : Marker) (time : FineTime)
  /-- TIME_MARKER_SEND (R286): Every 1 ms each UP port sends a time marker. -/
  | timeMarkerSend (out : MarkerOut)
  /-- IDLE_FLIT_SEND (R275): After 1 µs with nothing to send, a port sends an idle flit. -/
  | idleFlitSend (dl : Fin 8)
  /-- LINK_LANE_LOCK_LOSS (R277): A lane out of lock for more than 1 µs takes the port DOWN. -/
  | linkLaneLockLoss (dl : Fin 8)
  /-- LINK_IDLE_TIMEOUT (R277): No flit for IDLE_LIMIT periods takes the port DOWN. -/
  | linkIdleTimeout (dl : Fin 8) (t : W64)
  /-- RD_REQ (R279): A remote read request reads LPDDR5X and answers with RD_RSP. -/
  | rdReq (dl : Fin 8) (m : Msg)
  /-- RD_RSP (R278): Read data and status arrive for a held RD_REQ. -/
  | rdRsp (dl : Fin 8) (m : Msg)
  /-- WR_MEM (R279): A remote LPDDR5X write is applied in stream order. -/
  | wrMem (dl : Fin 8) (m : Msg)
  /-- XFER_OPEN (R172): A sluice transfer's extent is checked against the receiving core's open windows. -/
  | xferOpen (dl : Fin 8) (m : Msg)
  /-- WR_SP (R173): One row of an accepted sluice transfer is written. -/
  | wrSp (dl : Fin 8) (m : Msg)
  /-- TALLY_SET (R279): A remote tally set is applied in stream order. -/
  | tallySet (dl : Fin 8) (m : Msg)
  /-- TALLY_ADD (R279): A remote tally add is applied in stream order. -/
  | tallyAdd (dl : Fin 8) (m : Msg)
  /-- JOB (R18): A job descriptor for a member unit arrives and runs its check round. -/
  | job (dl : Fin 8) (m : Msg)
  /-- JOB_RSP (R314): A member's check-round result arrives at the parent. -/
  | jobRsp (dl : Fin 8) (m : Msg)
  /-- REC (R314): A member's completion record arrives at the parent. -/
  | recMsg (dl : Fin 8) (m : Msg)
  /-- WR_TALLY (R287): A fused write followed by a tally add of 1 is applied. -/
  | wrTally (dl : Fin 8) (m : Msg)
  /-- PRUNE (R192): A pruning notice enters the miss list and fails the waits it covers with MISSED. -/
  | prune (dl : Fin 8) (m : Msg)
  /-- REJOIN (R192): A rejoin notice removes the miss-list entry. -/
  | rejoin (dl : Fin 8) (m : Msg)
  /-- ACK (R279): A cumulative acknowledgement frees held messages and completes acknowledged writes. -/
  | ack (dl : Fin 8) (m : Msg)
  /-- NAK (R280): A NAK makes the sender resend from the expected sequence. -/
  | nak (dl : Fin 8) (m : Msg)
  /-- HELLO (R283): A neighbour identity message sets PEER_DEV or flags an ID conflict. -/
  | hello (dl : Fin 8) (m : Msg)
  /-- ROUTE_ADV (R283): A distance vector is received and discovery recomputes the routes. -/
  | routeAdv (dl : Fin 8) (m : Msg)
  /-- MESSAGE_FORWARD (R282): A message for another device is forwarded on its route or discarded for lack of route or hop limit. -/
  | messageForward (dl : Fin 8) (m : Msg)
  /-- ACK_SEND (R279): Every 0.5 µs while messages are unacknowledged, the receiver sends ACK. -/
  | ackSend (dev : BitVec 9)
  /-- E2E_RESEND (R280): A message unacknowledged for RESEND periods is resent. -/
  | e2eResend (dev : BitVec 9) (t : W64)
  /-- E2E_LIMIT_EXPIRY (R280): A message held LIMIT periods is abandoned and its item fails with LINK_LOST. -/
  | e2eLimitExpiry (dev : BitVec 9) (t : W64)
  /-- ROUTE_ENTRY_WRITE (R284): A ROUTE entry write takes effect between messages and sets MANUAL. -/
  | routeEntryWrite (src : Agent) (dev : BitVec 9) (v : W32)
  /-- JOB_RSP_TIMEOUT (R314): No JOB_RSP within LIMIT removes the member from the job and its quanta fail with LINK_LOST. -/
  | jobRspTimeout (job : Nat) (dev : BitVec 9) (t : W64)
  /-- MEMBER_ROUTE_TIMEOUT (R314): A member device without a usable route for LIMIT periods has its outstanding quanta counted as LINK_LOST. -/
  | memberRouteTimeout (dev : BitVec 9) (t : W64)
  /-- STAT_CFG_WRITE (R302): A write to a stream's statistics configuration, validated when it sets EN. -/
  | statCfgWrite (src : Agent) (reg : StatReg) (v : W32)
  /-- PD_REQ_WRITE (R342): A PD_REQ write requests domain switches, refused per bit under the state rules. -/
  | pdReqWrite (src : Agent) (hi : Bool) (v : W32)
  /-- DOMAIN_SWITCH_ON (R343): A requested domain is powered, trimmed and cleared, one at a time in order. -/
  | domainSwitchOn (pd : Fin 40) (trimOk : Bool)
  /-- DOMAIN_SWITCH_OFF (R343): A requested domain is switched off and its contents are lost. -/
  | domainSwitchOff (pd : Fin 40)
  /-- CORE_LOAD_DONE (R108): The management controller finishes loading a core's banks and the core enters IDLE. -/
  | coreLoadDone (core : Fin 32)
  /-- DOMAIN_POWER_LOSS (R307): A domain switches off without a request, setting PD_FAIL and taking a core OUT. -/
  | domainPowerLoss (pd : Fin 40)
  /-- MONITOR_SAMPLE (R317): Every 100 µs sensors and monitors are read and window alarms raised. -/
  | monitorSample (temps : List (BitVec 16)) (volts : List (BitVec 16)) (power : BitVec 16)
  /-- PACE_STEP (R319): Every INTERVAL the pace control raises, lowers or holds the VDD_CORE set point. -/
  | paceStep (overCap : Bool) (t : W64)
  /-- THERMAL_LIMIT (R321): A domain at or above TJ_MAX for 1 ms takes its core OUT or raises a thermal fault. -/
  | thermalLimit (pd : Fin 40)
  /-- RAIL_FAULT (R345): A rail outside its window for 10 µs switches off the domains it feeds and alerts the board controller. -/
  | railFault (rail : Rail)
  /-- RECOVERY_IMAGE (R327): In recovery mode an image received over UART or I3C is checked and written to slot A. -/
  | recoveryImage (image : List Byte)
  /-- BOARD_CONTROLLER_TRANSFER (R315): An I3C private transfer from the board controller reads or writes register pages. -/
  | boardControllerTransfer (page : BitVec 16) (off : BitVec 16) (data : List W32) (nread : Nat)
  /-- FIRING_COMPLETE (R351): The firing's calibration groups end, records and cones are written and HP_READY may rise. -/
  | firingComplete (failed : List CalItem) (mem : MemFiring) (ms : BitVec 16)
  /-- FAR_END_RENEG_REQUEST (R288): A renegotiation request from the far end of an UP link moves the port to RENEG to exchange offered levels again. -/
  | farEndRenegRequest (dl : Fin 8)
  /-- REFERENCE_LOCK (R49): The reference PLL locks and rig time moves on from FREE or HOLDOVER. -/
  | referenceLock
  /-- REFERENCE_LOST (R49): No reference edge for 1 µs moves rig time to HOLDOVER. -/
  | referenceLost
  /-- TIME_LOAD (R50): TIME_CTRL.LOAD loads TIME_LOAD into rig time on the root at the next period boundary, never setting it back. -/
  | timeLoad
  /-- ENT_READ (R55): ENT_CMD READ copies the selected launch entry into the staging registers. -/
  | entRead
  /-- ENT_WRITE (R58): ENT_CMD WRITE validates the staging registers and copies them into an unarmed entry. -/
  | entWrite
  /-- ENT_ARM (R58): ENT_CMD ARM makes the selected entry live between firings. -/
  | entArm
  /-- ENT_DISARM (R58): ENT_CMD DISARM stops the selected entry between firings. -/
  | entDisarm
  /-- EXP_PUSH (R62): EXP_CMD.PUSH queues or replaces an exposure request for a frame of the selected port. -/
  | expPush
  /-- DESC_DATA_READ (R373): A management-controller read of DESC_DATA returns the word and advances DESC_SEL. -/
  | descDataRead
  /-- RACE_DEADLOCK_DETECT (R188): A cycle of blocked dependent races is broken by failing one item with RACE_DEADLOCK. -/
  | raceDeadlockDetect
  /-- ROUTE_ADV_SEND (R283): Every 10 ms a device advertises its distance vector. -/
  | routeAdvSend
  /-- DISC_CONVERGED (R283): 20 ms with no route change sets CONVERGED. -/
  | discConverged
  /-- VCORE_EXCURSION (R321): VDD_CORE outside 0.54 to 0.90 V for 10 µs takes every core OUT. -/
  | vcoreExcursion
  /-- LOG_ENTRY_WRITE (R323): The management controller drains one buffered event into the MRAM log. -/
  | logEntryWrite
  /-- MGT_LOAD (R328): MGT_CMD LOAD starts checking an image container and writing it to the idle slot. -/
  | mgtLoad
  /-- MGT_IMAGE_LOAD_DONE (R328): The image load ends, setting OTHER_OK or rejecting the container. -/
  | mgtImageLoadDone
  /-- MGT_ACTIVATE (R328): MGT_CMD ACTIVATE sets TRY and restarts the management controller. -/
  | mgtActivate
  /-- MGT_CONFIRM (R328): MGT_CMD CONFIRM makes the running image primary and raises FW_FLOOR. -/
  | mgtConfirm
  /-- MC_WATCHDOG (R328): The 1 s watchdog restarts the management controller. -/
  | mcWatchdog
  /-- MC_BOOT (R327): At a management-controller start the boot ROM selects, checks and starts an image or enters recovery. -/
  | mcBoot
  /-- CFG_LOAD (R332): CFG_CMD LOAD starts checking and staging a configuration set. -/
  | cfgLoad
  /-- CFG_LOAD_DONE (R332): Set loading ends in STAGED, or in IDLE with a refusal code. -/
  | cfgLoadDone
  /-- CFG_DISCARD (R336): CFG_CMD DISCARD drops the staged set. -/
  | cfgDiscard
  /-- CFG_CONFIRM (R336): CFG_CMD CONFIRM raises SET_FLOOR to ACTIVE_VER. -/
  | cfgConfirm
  /-- CFG_APPLY_COMPLETE (R334): When every swap requested by a COMMIT or REVERT has taken effect, the state returns to IDLE. -/
  | cfgApplyComplete
  /-- PREV_SET_LOADED (R349): After READY the previous set is loaded into standby banks or found invalid. -/
  | prevSetLoaded
  /-- ATTEST (R340): ATT_CMD ATTEST starts building a signed report. -/
  | attest
  /-- ATTEST_DONE (R340): The report is written to host window SRAM and DONE is set. -/
  | attestDone
  /-- SET_OWNER (R325): OWNER_CMD SET_OWNER sets the owner key fingerprint while unset. -/
  | setOwner
  /-- CHANGE (R325): OWNER_CMD CHANGE replaces the owner key by a container signed by the present owner. -/
  | change
  /-- PORST_N_ASSERT (R346): PORST_n low for 1 µs or more causes a cold reset. -/
  | porstNAssert
  /-- PORST_N_RELEASE (R348): Release of PORST_n starts the cold start sequence with the boot ROM. -/
  | porstNRelease
  /-- WARM_N_ASSERT (R346): WARM_n low for 1 µs or more causes a warm reset. -/
  | warmNAssert
  /-- WARM (R346): PWR_CMD WARM causes a warm reset. -/
  | warm
  /-- READY_SET (R348): When the active set is loaded, DEV_STATE.READY is set and BOOT_TIME written. -/
  | readySet
  /-- SLEW_OFFSET_REMOVED (R49): While rig time is in SLEW, omitting increments brings the offset within 2 ns, and the state becomes SYNC. -/
  | slewOffsetRemoved
  /-- RIG_TIME_HOLD_END (R52): A rig-time count that is held, after an offset below -1 us or a LOAD below the present count (R50), resumes advancing when the reference count reaches it. -/
  | rigTimeHoldEnd
deriving DecidableEq, Repr

end Sys2Proof
end

