-- ==== Sys2Proof/Decode.lean ====
section
/-! DEFINITION. Decoding and encoding. The table gives its rows no bits, so no table word spells a command
(`decodeTableWord`). An Edpervo command stands in instruction memory as a 128-bit word: `decodeWord` reads it and
`encodeWord` writes it, both from the field tables of 06_command_set.md (Tables 6.1 to 6.18). -/
namespace Sys2Proof

/-- The command a word of the opcode table's bits spells: its rows give no bits, so none does. -/
def decodeTableWord (_nbits _w : Nat) : Option Instr := none

/-- Fields of the SYNC format. -/
def syncOf (w : BitVec 32) : SyncF where
  wen := w.getLsbD 31
  weq := w.getLsbD 30
  wt := w.extractLsb' 20 10
  wv := w.extractLsb' 16 4
  sen := w.getLsbD 15
  sset := w.getLsbD 14
  st := w.extractLsb' 4 10
  sv := w.extractLsb' 0 4

/-- The bits of the SYNC format. -/
def syncBits (f : SyncF) : BitVec 32 :=
  BitVec.ofBool f.wen ++ BitVec.ofBool f.weq ++ f.wt ++ f.wv ++ BitVec.ofBool f.sen
     ++ BitVec.ofBool f.sset ++ f.st ++ f.sv

/-- Fields of the SCL format. -/
def sclOf (w : BitVec 128) : SclF where
  immx := w.extractLsb' 64 16
  imm := w.extractLsb' 32 32
  bi := w.getLsbD 22
  aa := w.getLsbD 21
  da := w.getLsbD 20
  b := w.extractLsb' 16 4
  a := w.extractLsb' 12 4
  d := w.extractLsb' 8 4

/-- The bits of the SCL format. -/
def sclBits (f : SclF) (op : BitVec 8) : BitVec 128 :=
  0#48 ++ f.immx ++ f.imm ++ 0#9 ++ BitVec.ofBool f.bi ++ BitVec.ofBool f.aa ++ BitVec.ofBool f.da ++ f.b
     ++ f.a ++ f.d ++ op

/-- Fields of the CTL format. -/
def ctlOf (w : BitVec 128) : CtlF where
  imm := w.extractLsb' 64 32
  target := w.extractLsb' 32 11
  tsh := w.extractLsb' 27 5
  qm := w.extractLsb' 24 3
  idx := w.extractLsb' 20 4
  cond := w.extractLsb' 17 3
  bi := w.getLsbD 16
  b := w.extractLsb' 12 4
  a := w.extractLsb' 8 4

/-- The bits of the CTL format. -/
def ctlBits (f : CtlF) (op : BitVec 8) : BitVec 128 :=
  0#32 ++ f.imm ++ 0#21 ++ f.target ++ f.tsh ++ f.qm ++ f.idx ++ f.cond ++ BitVec.ofBool f.bi ++ f.b ++ f.a ++ op

/-- Fields of the COPY format. -/
def copyOf (w : BitVec 128) : CopyF where
  sync := syncOf (w.extractLsb' 96 32)
  mc := w.getLsbD 94
  vb := w.extractLsb' 90 4
  vl := w.extractLsb' 86 4
  rp := w.extractLsb' 78 8
  mp := w.extractLsb' 62 16
  nl := w.extractLsb' 52 10
  lb := w.extractLsb' 39 13
  rowi := w.extractLsb' 25 14
  row := w.extractLsb' 21 4
  ofs := w.extractLsb' 17 4
  ar := w.extractLsb' 14 3
  race := w.extractLsb' 8 6

/-- The bits of the COPY format. -/
def copyBits (f : CopyF) (op : BitVec 8) : BitVec 128 :=
  syncBits f.sync ++ 0#1 ++ BitVec.ofBool f.mc ++ f.vb ++ f.vl ++ f.rp ++ f.mp ++ f.nl ++ f.lb ++ f.rowi
     ++ f.row ++ f.ofs ++ f.ar ++ f.race ++ op

/-- Fields of the HOP format. -/
def hopOf (w : BitVec 128) : HopF where
  sync := syncOf (w.extractLsb' 96 32)
  rel := w.getLsbD 71
  bayer := w.getLsbD 70
  rp := w.extractLsb' 62 8
  nc := w.extractLsb' 49 13
  nl := w.extractLsb' 42 7
  rowi := w.extractLsb' 28 14
  row := w.extractLsb' 24 4
  cl := w.extractLsb' 20 4
  ln := w.extractLsb' 16 4
  buf := w.extractLsb' 14 2
  race := w.extractLsb' 8 6

/-- The bits of the HOP format. -/
def hopBits (f : HopF) (op : BitVec 8) : BitVec 128 :=
  syncBits f.sync ++ 0#24 ++ BitVec.ofBool f.rel ++ BitVec.ofBool f.bayer ++ f.rp ++ f.nc ++ f.nl
     ++ f.rowi ++ f.row ++ f.cl ++ f.ln ++ f.buf ++ f.race ++ op

/-- Fields of the FX format. -/
def fxOf (w : BitVec 128) : FxF where
  sync := syncOf (w.extractLsb' 96 32)
  imm := w.extractLsb' 64 32
  img := w.getLsbD 54
  dst := w.extractLsb' 43 11
  len := w.extractLsb' 32 11
  woff := w.extractLsb' 22 10
  half := w.getLsbD 21
  ofs := w.extractLsb' 17 4
  ar := w.extractLsb' 14 3
  race := w.extractLsb' 8 6

/-- The bits of the FX format. -/
def fxBits (f : FxF) (op : BitVec 8) : BitVec 128 :=
  syncBits f.sync ++ f.imm ++ 0#9 ++ BitVec.ofBool f.img ++ f.dst ++ f.len ++ f.woff
     ++ BitVec.ofBool f.half ++ f.ofs ++ f.ar ++ f.race ++ op

/-- Fields of the XCONV format. -/
def xconvOf (w : BitVec 128) : XconvF where
  ich := w.extractLsb' 111 2
  accout := w.getLsbD 110
  accin := w.getLsbD 109
  opt := w.extractLsb' 101 8
  ip := w.extractLsb' 93 8
  cob := w.extractLsb' 89 4
  cib := w.extractLsb' 83 6
  tl := w.extractLsb' 77 6
  tw := w.extractLsb' 72 5
  qoff := w.extractLsb' 62 10
  woff := w.extractLsb' 52 10
  val := w.extractLsb' 48 4
  edge := w.extractLsb' 44 4
  outi := w.extractLsb' 30 14
  ini := w.extractLsb' 16 14
  rb := w.extractLsb' 12 4
  layer := w.extractLsb' 8 4

/-- The bits of the XCONV format. -/
def xconvBits (f : XconvF) (op : BitVec 8) : BitVec 128 :=
  0#15 ++ f.ich ++ BitVec.ofBool f.accout ++ BitVec.ofBool f.accin ++ f.opt ++ f.ip ++ f.cob ++ f.cib
     ++ f.tl ++ f.tw ++ f.qoff ++ f.woff ++ f.val ++ f.edge ++ f.outi ++ f.ini ++ f.rb ++ f.layer ++ op

/-- Fields of the XWLDS format. -/
def xwldsOf (w : BitVec 128) : XwldsF where
  trans := w.getLsbD 44
  nt := w.extractLsb' 37 7
  half := w.getLsbD 36
  woff := w.extractLsb' 26 10
  rowi := w.extractLsb' 12 14
  rb := w.extractLsb' 8 4

/-- The bits of the XWLDS format. -/
def xwldsBits (f : XwldsF) (op : BitVec 8) : BitVec 128 :=
  0#83 ++ BitVec.ofBool f.trans ++ f.nt ++ BitVec.ofBool f.half ++ f.woff ++ f.rowi ++ f.rb ++ op

/-- Fields of the XPOOL format. -/
def xpoolOf (w : BitVec 128) : XpoolF where
  func := w.getLsbD 95
  opt := w.extractLsb' 87 8
  ip := w.extractLsb' 79 8
  cb := w.extractLsb' 73 6
  tl := w.extractLsb' 67 6
  tw := w.extractLsb' 62 5
  qoff := w.extractLsb' 52 10
  val := w.extractLsb' 48 4
  edge := w.extractLsb' 44 4
  outi := w.extractLsb' 30 14
  ini := w.extractLsb' 16 14
  rb := w.extractLsb' 12 4
  layer := w.extractLsb' 8 4

/-- The bits of the XPOOL format. -/
def xpoolBits (f : XpoolF) (op : BitVec 8) : BitVec 128 :=
  0#32 ++ BitVec.ofBool f.func ++ f.opt ++ f.ip ++ f.cb ++ f.tl ++ f.tw ++ f.qoff ++ f.val ++ f.edge
     ++ f.outi ++ f.ini ++ f.rb ++ f.layer ++ op

/-- Fields of the VEC format. -/
def vecOf (w : BitVec 128) : VecF where
  xb := w.extractLsb' 74 8
  xri := w.extractLsb' 60 14
  xr := w.extractLsb' 56 4
  part := w.extractLsb' 54 2
  rwi := w.extractLsb' 40 14
  rw := w.extractLsb' 36 4
  sb := w.getLsbD 35
  fmt := w.extractLsb' 32 3
  rel := w.extractLsb' 30 2
  n := w.extractLsb' 24 6
  vc := w.extractLsb' 20 4
  vb := w.extractLsb' 16 4
  va := w.extractLsb' 12 4
  vd := w.extractLsb' 8 4

/-- The bits of the VEC format. -/
def vecBits (f : VecF) (op : BitVec 8) : BitVec 128 :=
  0#46 ++ f.xb ++ f.xri ++ f.xr ++ f.part ++ f.rwi ++ f.rw ++ BitVec.ofBool f.sb ++ f.fmt ++ f.rel ++ f.n
     ++ f.vc ++ f.vb ++ f.va ++ f.vd ++ op

/-- Fields of the GLZ format. -/
def glzOf (w : BitVec 128) : GlzF where
  sync := syncOf (w.extractLsb' 96 32)
  ctx := w.extractLsb' 78 4
  vb := w.extractLsb' 74 4
  vl := w.extractLsb' 70 4
  rp := w.extractLsb' 62 8
  nl := w.extractLsb' 52 10
  lb := w.extractLsb' 39 13
  rowi := w.extractLsb' 25 14
  row := w.extractLsb' 21 4
  line := w.extractLsb' 17 4
  glz := w.extractLsb' 14 3
  race := w.extractLsb' 8 6

/-- The bits of the GLZ format. -/
def glzBits (f : GlzF) (op : BitVec 8) : BitVec 128 :=
  syncBits f.sync ++ 0#14 ++ f.ctx ++ f.vb ++ f.vl ++ f.rp ++ f.nl ++ f.lb ++ f.rowi ++ f.row ++ f.line
     ++ f.glz ++ f.race ++ op

/-- Fields of the TAL format. -/
def talOf (w : BitVec 128) : TalF where
  imm := w.extractLsb' 64 32
  dr := w.extractLsb' 26 4
  vr := w.extractLsb' 22 4
  vi := w.getLsbD 21
  c := w.getLsbD 20
  t := w.extractLsb' 10 10
  q := w.extractLsb' 8 2

/-- The bits of the TAL format. -/
def talBits (f : TalF) (op : BitVec 8) : BitVec 128 :=
  0#32 ++ f.imm ++ 0#34 ++ f.dr ++ f.vr ++ BitVec.ofBool f.vi ++ BitVec.ofBool f.c ++ f.t ++ f.q ++ op

/-- Fields of the SLU format. -/
def sluOf (w : BitVec 128) : SluF where
  sync := syncOf (w.extractLsb' 96 32)
  t := w.extractLsb' 45 10
  ten := w.getLsbD 44
  nr := w.extractLsb' 29 15
  rowi := w.extractLsb' 15 14
  row := w.extractLsb' 11 4
  win := w.extractLsb' 8 3

/-- The bits of the SLU format. -/
def sluBits (f : SluF) (op : BitVec 8) : BitVec 128 :=
  syncBits f.sync ++ 0#41 ++ f.t ++ BitVec.ofBool f.ten ++ f.nr ++ f.rowi ++ f.row ++ f.win ++ op

/-- The RSV fields of the SCL format are 0 (R110). -/
def sclRsv (w : BitVec 128) : Bool :=
  w.extractLsb' 80 48 == 0 && w.extractLsb' 23 9 == 0

/-- The RSV fields of the CTL format are 0 (R110). -/
def ctlRsv (w : BitVec 128) : Bool :=
  w.extractLsb' 96 32 == 0 && w.extractLsb' 43 21 == 0

/-- The RSV fields of the COPY format are 0 (R110). -/
def copyRsv (w : BitVec 128) : Bool :=
  w.extractLsb' 95 1 == 0

/-- The RSV fields of the HOP format are 0 (R110). -/
def hopRsv (w : BitVec 128) : Bool :=
  w.extractLsb' 72 24 == 0

/-- The RSV fields of the FX format are 0 (R110). -/
def fxRsv (w : BitVec 128) : Bool :=
  w.extractLsb' 55 9 == 0

/-- The RSV fields of the XCONV format are 0 (R110). -/
def xconvRsv (w : BitVec 128) : Bool :=
  w.extractLsb' 113 15 == 0

/-- The RSV fields of the XWLDS format are 0 (R110). -/
def xwldsRsv (w : BitVec 128) : Bool :=
  w.extractLsb' 45 83 == 0

/-- The RSV fields of the XPOOL format are 0 (R110). -/
def xpoolRsv (w : BitVec 128) : Bool :=
  w.extractLsb' 96 32 == 0

/-- The RSV fields of the VEC format are 0 (R110). -/
def vecRsv (w : BitVec 128) : Bool :=
  w.extractLsb' 82 46 == 0

/-- The RSV fields of the GLZ format are 0 (R110). -/
def glzRsv (w : BitVec 128) : Bool :=
  w.extractLsb' 82 14 == 0

/-- The RSV fields of the TAL format are 0 (R110). -/
def talRsv (w : BitVec 128) : Bool :=
  w.extractLsb' 96 32 == 0 && w.extractLsb' 30 34 == 0

/-- The RSV fields of the SLU format are 0 (R110). -/
def sluRsv (w : BitVec 128) : Bool :=
  w.extractLsb' 55 41 == 0

/-- The Edpervo command a 128-bit word spells on core c (Table 6.2): none for a reserved opcode or an RSV field that is
not 0 (R110). -/
def decodeWord (c : Fin 32) (w : BitVec 128) : Option Instr :=
  match (w.extractLsb' 0 8).toNat with
  | 0x00 => if sclRsv w then some (.nop c (sclOf w)) else none
  | 0x01 => if sclRsv w then some (.movi c (sclOf w)) else none
  | 0x02 => if sclRsv w then some (.mov c (sclOf w)) else none
  | 0x03 => if sclRsv w then some (.add c (sclOf w)) else none
  | 0x04 => if sclRsv w then some (.sub c (sclOf w)) else none
  | 0x05 => if sclRsv w then some (.mul c (sclOf w)) else none
  | 0x06 => if sclRsv w then some (.mada c (sclOf w)) else none
  | 0x07 => if sclRsv w then some (.andS c (sclOf w)) else none
  | 0x08 => if sclRsv w then some (.orS c (sclOf w)) else none
  | 0x09 => if sclRsv w then some (.xorS c (sclOf w)) else none
  | 0x0A => if sclRsv w then some (.shl c (sclOf w)) else none
  | 0x0B => if sclRsv w then some (.shr c (sclOf w)) else none
  | 0x0C => if sclRsv w then some (.sra c (sclOf w)) else none
  | 0x0D => if sclRsv w then some (.minS c (sclOf w)) else none
  | 0x0E => if sclRsv w then some (.maxS c (sclOf w)) else none
  | 0x0F => if sclRsv w then some (.slt c (sclOf w)) else none
  | 0x10 => if sclRsv w then some (.cshr c (sclOf w)) else none
  | 0x11 => if sclRsv w then some (.rtime c (sclOf w)) else none
  | 0x12 => if sclRsv w then some (.unitId c (sclOf w)) else none
  | 0x20 => if ctlRsv w then some (.endItem c (ctlOf w)) else none
  | 0x21 => if ctlRsv w then some (.br c (ctlOf w)) else none
  | 0x22 => if ctlRsv w then some (.bc c (ctlOf w)) else none
  | 0x23 => if ctlRsv w then some (.loop c (ctlOf w)) else none
  | 0x24 => if ctlRsv w then some (.drain c (ctlOf w)) else none
  | 0x40 => if copyRsv w then some (.fCopy c (copyOf w)) else none
  | 0x41 => if hopRsv w then some (.fHop c (hopOf w)) else none
  | 0x42 => if fxRsv w then some (.fWgt c (fxOf w)) else none
  | 0x43 => if fxRsv w then some (.fRqt c (fxOf w)) else none
  | 0x44 => if fxRsv w then some (.fImem c (fxOf w)) else none
  | 0x45 => if fxRsv w then some (.fPad c (fxOf w)) else none
  | 0x46 => if fxRsv w then some (.fRarm c (fxOf w)) else none
  | 0x60 => if xconvRsv w then some (.xConv c (xconvOf w)) else none
  | 0x61 => if xwldsRsv w then some (.xWlds c (xwldsOf w)) else none
  | 0x62 => if w.extractLsb' 8 120 == 0 then some (.xWflip c) else none
  | 0x63 => if xpoolRsv w then some (.xPool c (xpoolOf w)) else none
  | 0x80 => if vecRsv w then some (.vld c (vecOf w)) else none
  | 0x81 => if vecRsv w then some (.vst c (vecOf w)) else none
  | 0x82 => if vecRsv w then some (.vbc c (vecOf w)) else none
  | 0x83 => if vecRsv w then some (.vadd c (vecOf w)) else none
  | 0x84 => if vecRsv w then some (.vsub c (vecOf w)) else none
  | 0x85 => if vecRsv w then some (.vadds c (vecOf w)) else none
  | 0x86 => if vecRsv w then some (.vsubs c (vecOf w)) else none
  | 0x87 => if vecRsv w then some (.vmul c (vecOf w)) else none
  | 0x88 => if vecRsv w then some (.vmin c (vecOf w)) else none
  | 0x89 => if vecRsv w then some (.vmax c (vecOf w)) else none
  | 0x8A => if vecRsv w then some (.vabs c (vecOf w)) else none
  | 0x8B => if vecRsv w then some (.vand c (vecOf w)) else none
  | 0x8C => if vecRsv w then some (.vor c (vecOf w)) else none
  | 0x8D => if vecRsv w then some (.vxor c (vecOf w)) else none
  | 0x8E => if vecRsv w then some (.vshl c (vecOf w)) else none
  | 0x8F => if vecRsv w then some (.vshra c (vecOf w)) else none
  | 0x90 => if vecRsv w then some (.vshrr c (vecOf w)) else none
  | 0x91 => if vecRsv w then some (.vcmp c (vecOf w)) else none
  | 0x92 => if vecRsv w then some (.vsel c (vecOf w)) else none
  | 0x93 => if vecRsv w then some (.vrq c (vecOf w)) else none
  | 0x94 => if vecRsv w then some (.vsumr c (vecOf w)) else none
  | 0x95 => if vecRsv w then some (.vmaxr c (vecOf w)) else none
  | 0x96 => if vecRsv w then some (.vminr c (vecOf w)) else none
  | 0x97 => if vecRsv w then some (.vmov c (vecOf w)) else none
  | 0xA0 => if vecRsv w then some (.vaddf c (vecOf w)) else none
  | 0xA1 => if vecRsv w then some (.vsubf c (vecOf w)) else none
  | 0xA2 => if vecRsv w then some (.vmulf c (vecOf w)) else none
  | 0xA3 => if vecRsv w then some (.vfmaf c (vecOf w)) else none
  | 0xA4 => if vecRsv w then some (.vminf c (vecOf w)) else none
  | 0xA5 => if vecRsv w then some (.vmaxf c (vecOf w)) else none
  | 0xA6 => if vecRsv w then some (.vrcpf c (vecOf w)) else none
  | 0xA7 => if vecRsv w then some (.vdivf c (vecOf w)) else none
  | 0xA8 => if vecRsv w then some (.vsqrtf c (vecOf w)) else none
  | 0xA9 => if vecRsv w then some (.vrsqf c (vecOf w)) else none
  | 0xAA => if vecRsv w then some (.vexpf c (vecOf w)) else none
  | 0xAB => if vecRsv w then some (.vlogf c (vecOf w)) else none
  | 0xAC => if vecRsv w then some (.vtanhf c (vecOf w)) else none
  | 0xAD => if vecRsv w then some (.vsigf c (vecOf w)) else none
  | 0xAE => if vecRsv w then some (.vgeluf c (vecOf w)) else none
  | 0xAF => if vecRsv w then some (.vsumrf c (vecOf w)) else none
  | 0xB0 => if vecRsv w then some (.vmaxrf c (vecOf w)) else none
  | 0xB1 => if vecRsv w then some (.vminrf c (vecOf w)) else none
  | 0xB2 => if vecRsv w then some (.vcvtif c (vecOf w)) else none
  | 0xB3 => if vecRsv w then some (.vcvtfi c (vecOf w)) else none
  | 0xB4 => if vecRsv w then some (.vcvtfb c (vecOf w)) else none
  | 0xC0 => if copyRsv w then some (.wCopy c (copyOf w)) else none
  | 0xC1 => if glzRsv w then some (.wGlz c (glzOf w)) else none
  | 0xC2 => if fxRsv w then some (.wRarm c (fxOf w)) else none
  | 0xE0 => if talRsv w then some (.tWait c (talOf w)) else none
  | 0xE1 => if talRsv w then some (.tUpd c (talOf w)) else none
  | 0xE2 => if talRsv w then some (.tRupd c (talOf w)) else none
  | 0xE8 => if sluRsv w then some (.sOpen c (sluOf w)) else none
  | 0xE9 => if sluRsv w then some (.sClose c (sluOf w)) else none
  | _ => none

/-- The word of an Edpervo command; none for the commands that are no words of a program. -/
def encodeWord (i : Instr) : Option (BitVec 128) :=
  match i with
  | .nop _ f => some (sclBits f 0x00)
  | .movi _ f => some (sclBits f 0x01)
  | .mov _ f => some (sclBits f 0x02)
  | .add _ f => some (sclBits f 0x03)
  | .sub _ f => some (sclBits f 0x04)
  | .mul _ f => some (sclBits f 0x05)
  | .mada _ f => some (sclBits f 0x06)
  | .andS _ f => some (sclBits f 0x07)
  | .orS _ f => some (sclBits f 0x08)
  | .xorS _ f => some (sclBits f 0x09)
  | .shl _ f => some (sclBits f 0x0A)
  | .shr _ f => some (sclBits f 0x0B)
  | .sra _ f => some (sclBits f 0x0C)
  | .minS _ f => some (sclBits f 0x0D)
  | .maxS _ f => some (sclBits f 0x0E)
  | .slt _ f => some (sclBits f 0x0F)
  | .cshr _ f => some (sclBits f 0x10)
  | .rtime _ f => some (sclBits f 0x11)
  | .unitId _ f => some (sclBits f 0x12)
  | .endItem _ f => some (ctlBits f 0x20)
  | .br _ f => some (ctlBits f 0x21)
  | .bc _ f => some (ctlBits f 0x22)
  | .loop _ f => some (ctlBits f 0x23)
  | .drain _ f => some (ctlBits f 0x24)
  | .fCopy _ f => some (copyBits f 0x40)
  | .fHop _ f => some (hopBits f 0x41)
  | .fWgt _ f => some (fxBits f 0x42)
  | .fRqt _ f => some (fxBits f 0x43)
  | .fImem _ f => some (fxBits f 0x44)
  | .fPad _ f => some (fxBits f 0x45)
  | .fRarm _ f => some (fxBits f 0x46)
  | .xConv _ f => some (xconvBits f 0x60)
  | .xWlds _ f => some (xwldsBits f 0x61)
  | .xWflip _ => some 0x62#128
  | .xPool _ f => some (xpoolBits f 0x63)
  | .vld _ f => some (vecBits f 0x80)
  | .vst _ f => some (vecBits f 0x81)
  | .vbc _ f => some (vecBits f 0x82)
  | .vadd _ f => some (vecBits f 0x83)
  | .vsub _ f => some (vecBits f 0x84)
  | .vadds _ f => some (vecBits f 0x85)
  | .vsubs _ f => some (vecBits f 0x86)
  | .vmul _ f => some (vecBits f 0x87)
  | .vmin _ f => some (vecBits f 0x88)
  | .vmax _ f => some (vecBits f 0x89)
  | .vabs _ f => some (vecBits f 0x8A)
  | .vand _ f => some (vecBits f 0x8B)
  | .vor _ f => some (vecBits f 0x8C)
  | .vxor _ f => some (vecBits f 0x8D)
  | .vshl _ f => some (vecBits f 0x8E)
  | .vshra _ f => some (vecBits f 0x8F)
  | .vshrr _ f => some (vecBits f 0x90)
  | .vcmp _ f => some (vecBits f 0x91)
  | .vsel _ f => some (vecBits f 0x92)
  | .vrq _ f => some (vecBits f 0x93)
  | .vsumr _ f => some (vecBits f 0x94)
  | .vmaxr _ f => some (vecBits f 0x95)
  | .vminr _ f => some (vecBits f 0x96)
  | .vmov _ f => some (vecBits f 0x97)
  | .vaddf _ f => some (vecBits f 0xA0)
  | .vsubf _ f => some (vecBits f 0xA1)
  | .vmulf _ f => some (vecBits f 0xA2)
  | .vfmaf _ f => some (vecBits f 0xA3)
  | .vminf _ f => some (vecBits f 0xA4)
  | .vmaxf _ f => some (vecBits f 0xA5)
  | .vrcpf _ f => some (vecBits f 0xA6)
  | .vdivf _ f => some (vecBits f 0xA7)
  | .vsqrtf _ f => some (vecBits f 0xA8)
  | .vrsqf _ f => some (vecBits f 0xA9)
  | .vexpf _ f => some (vecBits f 0xAA)
  | .vlogf _ f => some (vecBits f 0xAB)
  | .vtanhf _ f => some (vecBits f 0xAC)
  | .vsigf _ f => some (vecBits f 0xAD)
  | .vgeluf _ f => some (vecBits f 0xAE)
  | .vsumrf _ f => some (vecBits f 0xAF)
  | .vmaxrf _ f => some (vecBits f 0xB0)
  | .vminrf _ f => some (vecBits f 0xB1)
  | .vcvtif _ f => some (vecBits f 0xB2)
  | .vcvtfi _ f => some (vecBits f 0xB3)
  | .vcvtfb _ f => some (vecBits f 0xB4)
  | .wCopy _ f => some (copyBits f 0xC0)
  | .wGlz _ f => some (glzBits f 0xC1)
  | .wRarm _ f => some (fxBits f 0xC2)
  | .tWait _ f => some (talBits f 0xE0)
  | .tUpd _ f => some (talBits f 0xE1)
  | .tRupd _ f => some (talBits f 0xE2)
  | .sOpen _ f => some (sluBits f 0xE8)
  | .sClose _ f => some (sluBits f 0xE9)
  | _ => none

/-- The core an Edpervo command runs on; none for the other commands. -/
def cmdCore (i : Instr) : Option (Fin 32) :=
  match i with
  | .nop c _ => some c
  | .movi c _ => some c
  | .mov c _ => some c
  | .add c _ => some c
  | .sub c _ => some c
  | .mul c _ => some c
  | .mada c _ => some c
  | .andS c _ => some c
  | .orS c _ => some c
  | .xorS c _ => some c
  | .shl c _ => some c
  | .shr c _ => some c
  | .sra c _ => some c
  | .minS c _ => some c
  | .maxS c _ => some c
  | .slt c _ => some c
  | .cshr c _ => some c
  | .rtime c _ => some c
  | .unitId c _ => some c
  | .endItem c _ => some c
  | .br c _ => some c
  | .bc c _ => some c
  | .loop c _ => some c
  | .drain c _ => some c
  | .fCopy c _ => some c
  | .fHop c _ => some c
  | .fWgt c _ => some c
  | .fRqt c _ => some c
  | .fImem c _ => some c
  | .fPad c _ => some c
  | .fRarm c _ => some c
  | .xConv c _ => some c
  | .xWlds c _ => some c
  | .xWflip c => some c
  | .xPool c _ => some c
  | .vld c _ => some c
  | .vst c _ => some c
  | .vbc c _ => some c
  | .vadd c _ => some c
  | .vsub c _ => some c
  | .vadds c _ => some c
  | .vsubs c _ => some c
  | .vmul c _ => some c
  | .vmin c _ => some c
  | .vmax c _ => some c
  | .vabs c _ => some c
  | .vand c _ => some c
  | .vor c _ => some c
  | .vxor c _ => some c
  | .vshl c _ => some c
  | .vshra c _ => some c
  | .vshrr c _ => some c
  | .vcmp c _ => some c
  | .vsel c _ => some c
  | .vrq c _ => some c
  | .vsumr c _ => some c
  | .vmaxr c _ => some c
  | .vminr c _ => some c
  | .vmov c _ => some c
  | .vaddf c _ => some c
  | .vsubf c _ => some c
  | .vmulf c _ => some c
  | .vfmaf c _ => some c
  | .vminf c _ => some c
  | .vmaxf c _ => some c
  | .vrcpf c _ => some c
  | .vdivf c _ => some c
  | .vsqrtf c _ => some c
  | .vrsqf c _ => some c
  | .vexpf c _ => some c
  | .vlogf c _ => some c
  | .vtanhf c _ => some c
  | .vsigf c _ => some c
  | .vgeluf c _ => some c
  | .vsumrf c _ => some c
  | .vmaxrf c _ => some c
  | .vminrf c _ => some c
  | .vcvtif c _ => some c
  | .vcvtfi c _ => some c
  | .vcvtfb c _ => some c
  | .wCopy c _ => some c
  | .wGlz c _ => some c
  | .wRarm c _ => some c
  | .tWait c _ => some c
  | .tUpd c _ => some c
  | .tRupd c _ => some c
  | .sOpen c _ => some c
  | .sClose c _ => some c
  | _ => none

end Sys2Proof
end

