-- ==== Sys2Proof/Config.lean ====
section
/-! DEFINITION. What the spec leaves open: free values. Each is an opaque constant with no body, so a claim that is
proved holds whatever the value is. -/
namespace Sys2Proof.Config

/-- The byte an LPDDR5X address holds after start number `epoch` until it is written (R378). Log entry 5. -/
opaque lpddrInit : (epoch addr : Nat) → Byte

/-- An LPDDR5X word that no agent has written since start number `epoch` reads as uncorrectable under inline SECDED (R378). Log entry 60. -/
opaque lpddrBad : (epoch word : Nat) → Bool

/-- The value an accumulator place that the kept tile does not have holds when ACCIN adds into it (R132).
`n` is the free-value counter, `place` the accumulator. Log entry 3. -/
opaque accLeft : (n place : Nat) → Int

/-- A binary32 function whose result the spec bounds but does not fix (R84): how far, in units of the last place,
the device's result lies from the nearest value. It is used only when the result stays within the bound.
`f` numbers the function, `a` and `b` are its operands: R75 makes the result a function of these alone. Log entry 7. -/
opaque ulpPick : (f a b : Nat) → Int

/-- FAIL_WORD of a directory entry whose check is under way or has passed: Table 6.4 gives it a value only for a failed check (R114, R118).
Log entry 25. -/
opaque failWord : (n : Nat) → BitVec 11

/-- The word a glaze unit reads at an address of another device, to see whether a slot there is FULL (R237): what other devices
hold is outside this model. Log entry 26. -/
opaque remoteWord : (n : Nat) → W32

/-- The frame number that a frame of another stream takes before the numbering stream has had a frame (R61). Log entry 34. -/
opaque frameBefore : (n : Nat) → W32

/-- The asymmetry trim of a link port in 1/16 ns, which the firing measures (R51, Table 19.6). Log entry 36. -/
opaque asymTrim : (port : Nat) → Int

/-- Milliseconds from the release of PORST_n to READY (R348): how long a start takes is outside this model. Log entry 37. -/
opaque bootMs : (n : Nat) → BitVec 16

/-- Serial number in the fuses (Table 16.3). Log entry 20. -/
opaque serial : W64

/-- SHAKE256 (FIPS 202): output of `n` bytes for a message (R324, R325). Log entry 8. -/
opaque shake256 : (msg : List Byte) → (n : Nat) → List Byte

/-- ML-DSA-65 (FIPS 204) verification, pure mode, empty context: public key, message, signature (R325). Log entry 8. -/
opaque mldsaVerify : (pk msg sig : List Byte) → Bool

/-- ML-DSA-65 signature of an attestation report with the identity key (R340). Log entry 8. -/
opaque mldsaSign : (msg : List Byte) → List Byte

/-- The public identity key that an attestation report carries (R324, Table 18.6). Log entry 8. -/
opaque identityKey : List Byte

/-- The data that a register of a mode-register read returns where only the standard defines it (R254). Log entry 9. -/
opaque standardMr : (ch : Nat) → (mr : Nat) → Byte

/-- Version of the trim format of a firmware version (R243). Log entry 70. -/
opaque trimVersion : (fw : W32) → Nat

/-- How far tracking may move the trims of a memory channel either way (R244), in steps of a trim. Log entry 70. -/
opaque trimRange : (chan : Nat) → Nat

/-- The ten parity bytes of a codeword of 150 data bytes (R275): of the Reed-Solomon code over GF(2^8) the spec gives neither the field's
polynomial nor the generator. Log entry 71. -/
opaque fecParity : (data : List Byte) → List Byte

/-- The dynamic address that an address assignment gives a sensor (R32): the spec does not say which. Log entry 66. -/
opaque dynAddr : (n : Nat) → BitVec 7

/-- Rate of an I3C or I2C bus in kHz, of which R29 gives the upper bound only. Log entry 66. -/
opaque busRate : (i2c : Bool) → Nat

/-- Slots that the receive buffer of a far end has for a buffer class when its port enters UP (R281): the spec gives no size. Log entry 68. -/
opaque linkCredit : (cls : Nat) → Nat

end Sys2Proof.Config
end

