-- ==== Sys2Proof/Machine/Bits.lean ====
section
/-! DEFINITION. Bit fields, exact rounding and byte order: the small functions the rules are written with. -/
namespace Sys2Proof.Machine

/-- Field [hi:lo] of a word, as a number (R8). -/
def fld {n : Nat} (w : BitVec n) (hi lo : Nat) : Nat := (w.toNat >>> lo) % 2 ^ (hi - lo + 1)

/-- Bit i of a word. -/
def bit {n : Nat} (w : BitVec n) (i : Nat) : Bool := w.toNat.testBit i

/-- A word with field [hi:lo] replaced. -/
def setFld {n : Nat} (w : BitVec n) (hi lo : Nat) (v : Nat) : BitVec n :=
  let m := (2 ^ (hi - lo + 1) - 1) <<< lo
  BitVec.ofNat n ((w.toNat - (w.toNat &&& m)) + ((v <<< lo) &&& m))

/-- A word with bit i replaced. -/
def setBit {n : Nat} (w : BitVec n) (i : Nat) (b : Bool) : BitVec n := setFld w i i b.toNat

/-- Field [hi:lo] of a word, read as a signed number. -/
def sfld {n : Nat} (w : BitVec n) (hi lo : Nat) : Int :=
  let v := fld w hi lo
  if v ≥ 2 ^ (hi - lo) then (v : Int) - 2 ^ (hi - lo + 1) else v

/-- A counter that saturates at 0xFFFF_FFFF. -/
def satInc (w : W32) (by_ : Nat := 1) : W32 := BitVec.ofNat 32 (min (w.toNat + by_) 0xFFFFFFFF)

/-- min(max(x, lo), hi) (04_arithmetic.md). -/
def sat (x lo hi : Int) : Int := min (max x lo) hi

/-- rhe(a, s): a / 2^s rounded to the nearest integer, ties to even (R35). -/
def rhe (a : Int) (s : Nat) : Int :=
  let q := a.fdiv (2 ^ s)
  let r := a - q * 2 ^ s
  if 2 * r > 2 ^ s ∨ (2 * r = 2 ^ s ∧ q.fmod 2 = 1) then q + 1 else q

/-- rdiv(a, n) for n > 0, rounded to nearest, ties to even (R65). -/
def rdiv (a : Int) (n : Nat) : Int :=
  let q := a.fdiv n
  let r := a - q * n
  if 2 * r > n ∨ (2 * r = n ∧ q.fmod 2 = 1) then q + 1 else q

/-- isqrt by bits: `isqrtAux k t r` tries bit k - 1, k - 2, ... on top of r. -/
def isqrtAux : Nat → Nat → Nat → Nat
  | 0, _, r => r
  | k + 1, t, r => isqrtAux k t (if (r + 2 ^ k) * (r + 2 ^ k) ≤ t then r + 2 ^ k else r)

/-- isqrt(t): the largest integer whose square does not exceed t (R35). -/
def isqrt (t : Nat) : Nat := isqrtAux (t.log2 / 2 + 1) t 0

/-- ceil(a / b). -/
def ceilDiv (a b : Nat) : Nat := (a + b - 1) / b

/-- The n low bytes of a number, little-endian (R8). -/
def leBytes : Nat → Nat → List Byte
  | 0, _ => []
  | n + 1, v => BitVec.ofNat 8 v :: leBytes n (v / 256)

/-- The number that bytes hold, little-endian (R8). -/
def ofBytes : List Byte → Nat
  | [] => 0
  | b :: bs => b.toNat + 256 * ofBytes bs

/-- A number as a signed value of n bits. -/
def toSigned (n : Nat) (v : Nat) : Int :=
  let u := v % 2 ^ n
  if u ≥ 2 ^ (n - 1) then (u : Int) - 2 ^ n else u

/-- An integer reduced modulo 2^n (R74, R93). -/
def wrapTo (n : Nat) (x : Int) : Nat := (x.emod (2 ^ n)).toNat

/-- An integer reduced to the signed range of n bits (R74). -/
def wrapSigned (n : Nat) (x : Int) : Int := toSigned n (wrapTo n x)

/-- Four-byte groups of a list as 32-bit words. -/
def words32 : List Byte → List W32
  | a :: b :: c :: d :: r => BitVec.ofNat 32 (ofBytes [a, b, c, d]) :: words32 r
  | _ => []

/-- List update: element i replaced by f of it, the rest kept. -/
def modNth {α : Type} (f : α → α) : List α → Nat → List α
  | [], _ => []
  | x :: xs, 0 => f x :: xs
  | x :: xs, i + 1 => x :: modNth f xs i

/-- The first element that satisfies p replaced by f of it. -/
def modFirst {α : Type} (p : α → Bool) (f : α → α) : List α → List α
  | [] => []
  | x :: xs => if p x then f x :: xs else x :: modFirst p f xs

/-- Every element that satisfies p replaced by f of it. -/
def modAll {α : Type} (p : α → Bool) (f : α → α) (l : List α) : List α := l.map fun x => if p x then f x else x

/-- Serial comparison of 32-bit numbers: a is not later than b. -/
def serialLe (a b : W32) : Bool := (b - a).toNat < 2 ^ 31

end Sys2Proof.Machine
end

