-- ==== Sys2Proof/Machine/SMap.lean ====
section
/-! DEFINITION. Sparse maps: a list of (key, value) pairs with strictly rising keys. An unlisted key reads as its
default, and a map in canonical form lists no default value, so that equal maps are equal lists. -/
namespace Sys2Proof.Machine

abbrev SMap (α : Type) := List (Nat × α)

/-- The listed value of a key. -/
def SMap.find {α : Type} : SMap α → Nat → Option α
  | [], _ => none
  | (j, v) :: r, k => if j = k then some v else SMap.find r k

/-- The value of a key, its default where it is not listed. -/
def SMap.get {α : Type} (d : Nat → α) (m : SMap α) (k : Nat) : α := (SMap.find m k).getD (d k)

/-- A map with a key listed. -/
def SMap.put {α : Type} : SMap α → Nat → α → SMap α
  | [], k, v => [(k, v)]
  | (j, w) :: r, k, v => if k < j then (k, v) :: (j, w) :: r else if k = j then (k, v) :: r else (j, w) :: SMap.put r k v

/-- A key taken off the list. -/
def SMap.drop {α : Type} (m : SMap α) (k : Nat) : SMap α := m.filter fun p => !decide (p.1 = k)

/-- A write: the key is listed, or taken off the list when the value is its default. -/
def SMap.set {α : Type} [DecidableEq α] (d : Nat → α) : SMap α → Nat → α → SMap α
  | [], k, v => if v = d k then [] else [(k, v)]
  | (j, w) :: r, k, v =>
    if k < j then (if v = d k then SMap.drop ((j, w) :: r) k else (k, v) :: (j, w) :: r)
    else if k = j then (if v = d k then SMap.drop r k else (k, v) :: r)
    else (j, w) :: SMap.set d r k v

/-- Every key of the list lies above `lo`, and the keys rise strictly. -/
def SMap.rising {α : Type} : Nat → SMap α → Bool
  | _, [] => true
  | lo, (j, _) :: r => decide (lo ≤ j) && SMap.rising (j + 1) r

/-- Canonical form: keys strictly rising and no entry equal to its default. -/
def SMap.wf {α : Type} [DecidableEq α] (d : Nat → α) (m : SMap α) : Bool :=
  SMap.rising 0 m && m.all fun p => decide (p.2 ≠ d p.1)

/-- The keys from lo to hi - 1 taken off the list. -/
def SMap.clear {α : Type} (m : SMap α) (lo hi : Nat) : SMap α := m.filter fun p => decide (p.1 < lo ∨ hi ≤ p.1)

end Sys2Proof.Machine
end

