-- ==== Sys2Proof/Machine/CoreTypes.lean ====
section
/-! DEFINITION. What a core, a job, a tally wait and a race lane hold (01, 05, 06, 07, 08, 09). -/
namespace Sys2Proof.Machine

/-- Core states (Table 5.7). -/
inductive CoreSt where
  | off | idle | run | out
deriving DecidableEq, Repr

/-- Sluice window states (Table 8.1). -/
inductive WinSt where
  | closed | opened | closing
deriving DecidableEq, Repr

/-- Lane states (Table 9.2). -/
inductive LaneSt where
  | free | opened | bound | ended
deriving DecidableEq, Repr

/-- A registered tally wait (R149): the local tally, the value, wait = or wait >=, the STRICT attribute it was
registered under, the rig time of registration, and whether it has been released. -/
structure WaitReg where
  tally : Nat
  value : W32
  eq : Bool
  at_ : W64
  released : Bool
deriving DecidableEq, Repr

/-- How far a queue entry has come: placed, started, or its operation completed and its retirement pending. -/
inductive EntSt where
  | queued | started | done
deriving DecidableEq, Repr

/-- An entry of FQ, XQ or WQ (R95, R96, R111): its command, the item that placed it, its program-relative word, the
registers and the layer entry as they stood at issue, its wait, and the state of its transfer. -/
structure QEntry where
  key : Nat
  op : Instr
  item : Nat
  word : Nat
  sr : List W32
  ar : List W48
  layer : W128 := 0
  wait : Option WaitReg := none
  st : EntSt := .queued
  /-- place in the order in which entries started (the model's own, log entry 4) -/
  startNo : Nat := 0
  /-- scratchpad rows that a gate has not granted yet: (1024 * destination + line, row of the line) -/
  pend : List (Nat × Nat) := []
  /-- the race the transfer uses, PORT_REL applied (R178) -/
  race : Option Nat := none
  /-- fetch pad pattern in force when the entry started (R130) -/
  pad : W32 := 0
  /-- refused under the terms of R127 (R100, R129, R138, R169, R180, R234): retires without its effect -/
  refused : Bool := false
  /-- the entry's own outcome failed its item: it makes no tally update (R374) -/
  noUpd : Bool := false
  /-- of a T.RUPD: its update has gone with the write before it (R287) -/
  fused : Bool := false
  /-- receivers that have not answered yet: device and core of each -/
  acks : List (Nat × Nat) := []
  /-- transfer number of a W.COPY to other devices (Table 15.5), first column of a W.GLZ in its band (R232) -/
  xfer : Nat := 0
  /-- since when a multicast stripe or a glaze band is held (R190, R233, R237) -/
  held : Option W64 := none
  /-- rig time at which a transfer started or its last row was granted (log entry 42) -/
  movedAt : W64 := 0
deriving DecidableEq, Repr

/-- One level of LOOP (R124). -/
structure LoopFrame where
  first : Nat
  last : Nat
  left : Nat
  i : W32
  idx : Nat
deriving DecidableEq, Repr

/-- An item's claim on hopper lines (R38, R39, R119): the attached frame, the lines first to last (clipped to the
image), and how far REL has released it: the lines from `rel` on are still claimed. -/
structure Claim where
  port : Nat
  stream : Nat
  frame : W32
  first : Nat
  last : Nat
  rel : Nat
deriving DecidableEq, Repr

/-- How far a work item has come: accepted, read by the sequencer, or its reading ended. -/
inductive ItemPh where
  | accepted | running | ended
deriving DecidableEq, Repr

/-- A work item of a core (R25, R94, R99, R310, R374): the descriptor words, the program header words it runs under,
and what decides its record. `fail` is the status code and DETAIL of the failure detected first. -/
structure Item where
  key : Nat
  job : Nat
  quantum : Nat
  assigner : Nat
  desc : List W32
  hdr : List W32
  claim : Option Claim
  ready : Option (Nat × W64)
  phase : ItemPh := .accepted
  start : W64 := 0
  prog : Nat := 0
  fail : Option (Nat × Nat) := none
  reissued : Bool := false
  shared : Bool := false
  mcast : Bool := false
  /-- a lost line of its claim was logged after it had failed with another code (R7) -/
  dropLogged : Bool := false
deriving DecidableEq, Repr

/-- The sender of a sluice transfer: an entry of a core of this device, or a transfer of another device's core. -/
inductive LandSrc where
  | here (core key : Nat)
  | remote (dev core xfer : Nat) (seq : W16)
deriving DecidableEq, Repr

/-- A transfer accepted into a window (R172, R173): its sender, the bytes still to come over a link, and whether a part of it
was not applied because it would partly write an uncorrectable word. -/
structure Landing where
  src : LandSrc
  rows : Nat
  err : Bool
deriving DecidableEq, Repr

/-- A sluice window (R168 to R173). -/
structure Win where
  st : WinSt := .closed
  first : Nat := 0
  rows : Nat := 0
  tally : Option Nat := none
  item : Nat := 0
  landing : List Landing := []
deriving DecidableEq, Repr

/-- A core (Table 5.1). Instruction memory is held as 32-bit words, bank b word w at 8192 b + w; vector register v lane
l at 64 v + l; a kept accumulator of output line l, position x and channel index c at 128 (1024 l + x) + c. -/
structure Core where
  st : CoreSt
  cause : Nat
  sreg : List W32
  areg : List W48
  vreg : SMap W32
  imem : SMap W32
  active : Bool
  swap : Bool
  /-- items with keys from here on were accepted while the present swap was pending (R102) -/
  swapKey : Nat
  half : Bool
  pad : W32
  /-- the item whose F.PAD set `pad`: for every other item the pattern is 0 (R130) -/
  padItem : Nat
  cur : Option Nat
  pc : Nat
  loops : List LoopFrame
  seqWait : Option WaitReg
  stalled : Bool
  items : List Item
  fq : List QEntry
  xq : List QEntry
  wq : List QEntry
  acc : SMap W48
  kept : Bool
  /-- the weight tile of the array's working registers and of its shadow registers, 4,096 bytes in weight-store order (R103, R201); [] stands
  for registers no tile has filled (log entry 1) -/
  work : List Byte
  shadow : List Byte
  wins : List Win
  scrub : Nat
  /-- rig time at which the scrub pass began (R167) -/
  scrubAt : W64
  /-- the pass has been counted in SCRUB_LATE_CNT -/
  scrubLate : Bool
deriving DecidableEq, Repr

/-- A core at a cold reset: OFF, every queue empty, every window CLOSED (R107, R168). Register contents: log entry 1. -/
def Core.reset : Core :=
  { st := .off, cause := 0, sreg := List.replicate 16 0, areg := List.replicate 8 0, vreg := [], imem := [],
    active := false, swap := false, swapKey := 0, half := false, pad := 0, padItem := 0, cur := none, pc := 0, loops := [], seqWait := none,
    stalled := false, items := [], fq := [], xq := [], wq := [], acc := [], kept := false, work := [], shadow := [],
    wins := List.replicate 8 {}, scrub := 0, scrubAt := 0, scrubLate := false }

/-- A lane of the weir (R181, R182). -/
structure Lane where
  st : LaneSt := .free
  granted : Nat := 0
  p0 : W32 := 0
  base : W48 := 0
  count : W32 := 0
  item : Nat := 0
deriving DecidableEq, Repr

/-- A multicast stripe (R189, R190): its race, core, item and frame, the members that admitted it, and the members it is
held for with the rig time since when. -/
structure Stripe where
  race : Nat
  core : Nat
  item : Nat
  frame : W32
  dests : List Nat
  held : List (Nat × W64)
deriving DecidableEq, Repr

/-- An entry of the miss list (R192). -/
structure Miss where
  tally : Nat
  frame : W32
  dev : Nat
  race : Nat
deriving DecidableEq, Repr

/-- Where a quantum of a job stands (R25, R99, R309, R314): held by its unit for a core without room, accepted by a core,
sent to a member on another device, or ended with a status code. -/
inductive QuantumSt where
  | held (core : Nat)
  | onCore (core : Nat)
  | remote (dev : Nat)
  | ended (code : Nat)
deriving DecidableEq, Repr

/-- A quantum: its index, the unit that assigned it (unit ID), where it stands, and, once its input lines are available,
when that was (R26); the key that its item takes, given when its check round accepted it (R102), and whether it is re-issued
(R310). -/
structure Quantum where
  idx : Nat
  assigner : Nat
  st : QuantumSt
  ready : Option (Nat × W64) := none
  key : Nat := 0
  reissued : Bool := false
deriving DecidableEq, Repr

/-- Where a job's descriptor came from (R20): a command ring or a launch entry with its completion ring, or a JOB message
of the parent's device. -/
inductive JobSrc where
  | ring (n : Nat)
  | launch (ring : Nat)
  | parent (dev : Nat) (pjob : W32)
deriving DecidableEq, Repr

/-- How far a job has come: taken, in its check round with answers of other devices outstanding, checked for the device that
leads it and not yet told to run, or running. -/
inductive JobPh where
  | taken | checking | checked | running
deriving DecidableEq, Repr

/-- What the walk over units in split order meets (R18): a refusal, a core with its quanta, a member on another device with its
quanta and the level of the span above it. -/
inductive WalkItem where
  | refuse (unit code : Nat)
  | core (c assigner : Nat) (qs : List Nat)
  | remote (unit assigner level : Nat) (qs : List Nat)
deriving DecidableEq, Repr

/-- A member on another device that a JOB was sent to: unit ID, device, the quanta assigned to it, when the JOB was
sent, and its answer once it has come: a status code and DETAIL. `out`: it answered that it is not in service. -/
structure Member where
  unit : Nat
  dev : Nat
  quanta : List Nat
  assigner : Nat
  order : Nat
  sent : W64
  cores : Nat := 0
  answer : Option (Nat × Nat) := none
  out : Bool := false
deriving DecidableEq, Repr

/-- A job this device leads or runs a part of (R15 to R21, R314). `mine` are the quanta a JOB message assigns; `fail` is the
child failure detected first; `local_` the refusal found on this device, if any. Of its check round: the level of the span above its
target, the quanta, the walk, the span entries it reached (header and members), the members found not in service, and the first of
the keys of its items. -/
structure Job where
  key : Nat
  desc : List W32
  src : JobSrc
  ph : JobPh
  only : Option (List Nat)
  refusedFrame : Bool
  members : List Member
  local_ : Option (Nat × Nat × Nat)
  quanta : List Quantum
  fail : Option (Nat × Nat)
  done : Nat
  failed : Nat
  lines : Nat
  level : Nat := 9
  qs : List Nat := []
  walk : List WalkItem := []
  spans : List (Nat × List W32) := []
  absent : List Nat := []
  base : Nat := 0
deriving DecidableEq, Repr

end Sys2Proof.Machine
end

