-- ==== Sys2Proof/Machine/IoTypes.lean ====
section
/-! DEFINITION. What a glaze unit, a host channel, a completion ring and a link port hold (12, 14, 15). -/
namespace Sys2Proof.Machine

/-- A band (R232): context, S[LINE] it starts at, the item and core that opened it and its job's FRAME, the entry that opened it and the one
that brought its latest transfer, the input columns its transfers cover so far, the pixels passed so far at 8192 * line + column (three channels
each), its lines so far, and how many of its output lines have been written. -/
structure Band where
  ctx : Nat
  line : Nat
  core : Nat
  item : Nat
  frame : W32
  opener : Nat
  entry : Nat
  col : Nat
  nl : Nat
  px : SMap (Int × Int × Int)
  out : Nat
  /-- since when it waits for its slot (R237), none once its slots are its own -/
  since : Option W64
  /-- every pixel up to IN_WIDTH has been passed: it is closed and its lines are still to be written -/
  closed : Bool
deriving DecidableEq, Repr

/-- A slot of a context's ring (R236, R237): the group that owns it (FRAME, group) and the output lines completed. -/
structure GSlot where
  frame : W32
  group : Nat
  done : List Nat
deriving DecidableEq, Repr

/-- A glaze unit (R232 to R239): open bands, slots at 16 context + slot, armed contexts, scaling coefficients at
512 context + index. -/
structure Glz where
  bands : List Band := []
  slots : SMap GSlot := []
  armed : List Nat := []
  coefs : SMap (BitVec 10) := []
deriving DecidableEq, Repr

/-- Host channel states (R257). -/
inductive HcSt where
  | off | wait | train | run | sref | pdn
deriving DecidableEq, Repr

/-- A host channel (R254 to R265): state, mode registers, the settings in force, the high word captured for this channel
(R54, R262), the write bursts that have reached the pins and are not applied, a control write the first of them (channel address, bytes
under their mask), the training FIFO. -/
structure Chan where
  st : HcSt := .off
  mr : SMap Byte := []
  mode : HcMode := ⟨0, 0, 0, false, false, false, false⟩
  capHi : W32 := 0
  ctl : List (Nat × List (Option Byte)) := []
  fifo : List (List Byte) := []
deriving DecidableEq, Repr

/-- A completion record (Table 1.4) as its eight words. -/
structure Rec where
  words : List W32
deriving DecidableEq, Repr

/-- Link port states (Table 15.2). -/
inductive LinkSt where
  | off | down | training | up | reneg
deriving DecidableEq, Repr

/-- A flit kept in the replay buffer (R276): its FSEQ, its messages, how often it was replayed, and the credit it returned (R275, R281):
buffer class and slots. -/
structure TxFlit where
  seq : BitVec 12
  msgs : List Msg
  replays : Nat
  cls : Nat := 0
  cnt : Nat := 0
deriving DecidableEq, Repr

/-- A flit that is sent and not kept (R275, R276, R286). -/
inductive CtlFlit where
  | idle (h : Fhdr)
  | replayRequest (h : Fhdr)
  | marker (h : Fhdr) (m : Marker)
deriving DecidableEq, Repr

/-- A link port (R272 to R278, R286). `mode` is the next mode to try or the mode in force, 0 to 8; `retryAt` the rig time from which a
DOWN port may train again; `markDep` and `markArr` the far end's last marker, `markSent` the departure of the last one sent and `markFrom`
that of the first since the port came UP, in 1/256 period; `ctl` the last flit sent that is not kept. Of the messages (R281, R288): `fwd`
wait at the DL gate, `txq` to leave; `credit` are the slots left at the far end by buffer class, `owe` those freed here and not yet
returned. -/
structure LinkPort where
  st : LinkSt := .off
  mode : Nat := 0
  lanes : BitVec 4 := 0
  far : Option FarCaps := none
  level : Nat := 0
  peerLvl : Nat := 0
  peerDev : Nat := 0
  conflict : Bool := false
  txNext : BitVec 12 := 0
  rxNext : BitVec 12 := 0
  replay : List TxFlit := []
  rx : List Msg := []
  lastFlit : W64 := 0
  retryAt : W64 := 0
  delays : List Nat := []
  markDep : Nat := 0
  markArr : Nat := 0
  markSent : Nat := 0
  markFrom : Option Nat := none
  ctl : Option CtlFlit := none
  credit : List Nat := List.replicate 32 0
  owe : List Nat := List.replicate 32 0
  fwd : List Msg := []
  txq : List Msg := []
  adv : List AdvEntry := []
deriving DecidableEq, Repr

/-- A stream message that waits for its acknowledgement (R280): when it first and last left (until it has left, when it was made), and the
work it belongs to (core, item key and queue entry key, `noWork` where there is none). -/
structure HeldMsg where
  msg : Msg
  first : W64
  last : W64
  core : Nat
  item : Nat
  entry : Nat
  /-- of an RD_REQ: the line of the transfer and the row of that line it reads -/
  row : Nat × Nat := (0, 0)
  /-- it has left this device -/
  left : Bool := false
deriving DecidableEq, Repr

/-- No core, item or entry: a message that no work item issued. -/
abbrev noWork : Nat := 0x100000000

/-- The delivery stream from this device to another (R279, R280); `wait` are messages that the delivery store or the limit of 4,096
keeps from having a SEQ. -/
structure OutStream where
  next : W16 := 0
  held : List HeldMsg := []
  wait : List HeldMsg := []
deriving DecidableEq, Repr

/-- The delivery stream from another device (R279): the SEQ expected next, whether an ACK is owed, the messages refused among the last
4,096 (SEQ, status, DETAIL), the SEQ up to which refusals have been reported, and the messages that wait at a MEM gate or behind one that
does (R184), duplicate reads marked false. -/
structure InStream where
  expect : W16 := 0
  owed : Bool := false
  refused : List (W16 × Nat × Nat) := []
  from_ : W16 := 0
  queue : List (Msg × Bool) := []
deriving DecidableEq, Repr

/-- The link side of the device (15): ports, streams to and from each device, the rig time of the last route change, for a device
without a usable route the rig time since when, messages of this device that wait for a route (R282), and devices whose route was lost and
is withdrawn (R283). -/
structure Links where
  ports : List LinkPort
  out : SMap OutStream
  inn : SMap InStream
  lastChange : W64
  noRoute : SMap W64
  wait : List Msg := []
  gone : List Nat := []
deriving DecidableEq, Repr

/-- The links at a cold reset. -/
def Links.reset : Links := { ports := List.replicate 8 {}, out := [], inn := [], lastChange := 0, noRoute := [] }

end Sys2Proof.Machine
end

