-- ==== Sys2Proof/Machine/PortTypes.lean ====
section
/-! DEFINITION. What a sensor port, an I3C bus, rig time and the launch table hold (02, 03), and a sensor profile (R331). -/
namespace Sys2Proof.Machine

/-- Port states (Table 2.3). -/
inductive PortSt where
  | off | idle | probing | training | ready | stream | stopping | lost
deriving DecidableEq, Repr

/-- A mode of a profile (Table 18.7). -/
structure SMode where
  phy : Nat
  lanes : Nat
  dt : Nat
  vc : Nat
  rate : Nat
  height : Nat
  width : Nat
  pixRate : Nat
  pack : Nat
  start : Nat
  stop : Nat
deriving DecidableEq, Repr

/-- A script step (R331): op 1 WRITE, 2 WAIT, 3 END. -/
structure SStep where
  op : Nat
  bytes : Nat
  addr : Nat
  data : W32
deriving DecidableEq, Repr

/-- A sensor profile (Table 18.7): addressing on the bus (static address, I2C, 16-bit ID register, its address, provisioned ID)
and what R32, R62 and R377 take from it. `images` holds the 17 correction register images in the order of the table. -/
structure Profile where
  id : Nat
  static : Nat
  i2c : Bool
  wideId : Bool
  idReg : Nat
  provId : Option Nat
  latency : Nat
  initStep : Nat
  idValue : W32
  idMask : W32
  colours : List Nat
  expMap : List W32
  images : List W32
  modes : List SMode
  knots : List Nat
  gains : List Nat
  defects : List Nat
  steps : List SStep
deriving DecidableEq, Repr

/-- The scripts of a profile that a port runs (R32, Table 2.3): init; the start and stop scripts around the training of a
mode; the start script at START; the stop script of a STOPPING port. -/
inductive Script where
  | init
  | trainStart (m : Nat)
  | trainStop (m : Nat) (ok : Bool)
  | streamStart
  | streamStop
deriving DecidableEq, Repr

/-- Where a port's probe, training or script procedure stands (R32). -/
inductive Proc where
  | none
  | idRead (c : Nat)
  | assign (c : Nat) (by_ : Ccc)
  | script (c : Nat) (k : Script) (step : Nat) (wait : Option W64)
  | train (c m : Nat) (deadline : W64) (clean : Nat)
deriving DecidableEq, Repr

/-- One copy of the correction registers and tables of a port (R44): registers 0 to 16 in the order CFA, BLACK0-3,
LIN_CTRL, GAIN_CTRL, DEF_CTRL, VST_CTRL, VST_A0-3, VST_B0-3; table words at 16,384 TBL + index. `ver` is the version of the set whose images and tables
it holds unchanged (R335). -/
structure CorrCopy where
  regs : SMap W32
  tbl : SMap W32
  ver : Option W32 := none
deriving DecidableEq, Repr

/-- Statistics of a frame so far (R65): histogram counts at 256 channel + bin, counts per channel, zone sums and counts at
4 zone + channel, defect pixels, the taps of the line before (for Y), embedded data. -/
structure Stats where
  hist : SMap Nat := []
  cnt : SMap Nat := []
  zsum : SMap Int := []
  zcnt : SMap Nat := []
  defects : Nat := 0
  prev : List (Option Int) := []
  sat : Bool := false
  emb : List Byte := []
  embTrunc : Bool := false
deriving DecidableEq, Repr

/-- A frame of a stream (R40, R41, R61, R64): its numbers, whether it was admitted, lines taken in, where it was cut, and
what its statistics record will hold; `lost` are lines of a frame not admitted that arrived and were not taken in. -/
structure Frame where
  num : W32
  csi : W16
  admitted : Bool
  cause : Nat
  lines : Nat
  cut : Option (Nat × Nat)
  ended : Bool
  recorded : Bool
  statEn : Bool
  fsTime : W64
  feTime : W64
  tag : W16
  carried : Bool
  late : Bool
  stats : Stats
  lost : Nat := 0
deriving DecidableEq, Repr

/-- A line in the receiver's holding lines (R28). -/
structure RxLine where
  frame : W32
  line : Nat
  pixels : List (BitVec 20)
  crcOk : Bool
deriving DecidableEq, Repr

/-- A line held in the hopper (R37): frame, line and slot. -/
structure HopLine where
  frame : W32
  line : Nat
  slot : Nat
deriving DecidableEq, Repr

/-- An intake stream (R27, R37). `cur` is the number of the frame in progress, `last` that of the latest frame start. -/
structure Stream where
  frames : List Frame := []
  cur : Option W32 := none
  last : Option W32 := none
  rx : List RxLine := []
  held : List HopLine := []
deriving DecidableEq, Repr

/-- An exposure request (R62); once it is issued, the register writes that the profile's map makes of its values (Table 18.7). -/
structure ExpReq where
  frame : W32
  tag : W16
  vals : List W32
  writes : List (Nat × List Byte) := []
deriving DecidableEq, Repr

/-- A sensor port. `tags` holds the tag recorded for frames to come (R64): frame, tag, carried; `lateFor` frames whose
write came late. -/
structure Port where
  st : PortSt
  proc : Proc
  profile : Option Profile
  act : CorrCopy
  stby : CorrCopy
  swapPend : Bool
  streams : List Stream
  next : W32
  cur : Option W32
  lastFs : W64
  fsyncEnd : Option W64
  expQ : List ExpReq
  /-- exposure writes on their way to the sensor, the first in progress, with the times it was not acknowledged (R63) -/
  expOut : List (ExpReq × Nat)
  expLast : Option W32
  tagNow : W16
  tagFresh : Bool
  tags : List (W32 × W16 × Bool)
  lateFor : List W32
  /-- no frame has taken a number since a START loaded one (R61, R64) -/
  loaded : Bool := false
  /-- packets of other data types discarded (Table 2.1) -/
  discarded : Nat
deriving DecidableEq, Repr

/-- A port at a cold reset: OFF (Table 2.3). Tables, frame number and tags: log entry 1. -/
def Port.reset : Port :=
  { st := .off, proc := .none, profile := none, act := ⟨[], [], none⟩, stby := ⟨[], [], none⟩, swapPend := false,
    streams := List.replicate 4 {}, next := 0, cur := none, lastFs := 0, fsyncEnd := none, expQ := [], expOut := [],
    expLast := none, tagNow := 0, tagFresh := false, tags := [], lateFor := [], discarded := 0 }

/-- A transfer of a bus (R30): the next step of a port's procedure, a port's exposure write, or one in progress that a port has given up. -/
inductive Xfer where
  | proc (port : Nat)
  | exposure (port : Nat)
  | stale (port : Nat)
deriving DecidableEq, Repr

/-- An I3C/I2C bus (R29, R30): the transfer in progress and those that wait, exposure writes apart; and what its page reports (R298): whether
its latest transfer was I2C, the dynamic addresses assigned, port by port, transfers, those not acknowledged, the port of the latest in-band
interrupt. -/
structure Bus where
  cur : Option Xfer := none
  waiting : List Nat := []
  exps : List Nat := []
  i2c : Bool := false
  addrs : SMap Nat := []
  xfers : Nat := 0
  nacks : Nat := 0
  ibiFrom : Option Nat := none
deriving DecidableEq, Repr

/-- Rig time states (Table 3.1). -/
inductive TimeSt where
  | free | locking | sync | holdover | slew
deriving DecidableEq, Repr

/-- Rig time (R48 to R53): the count, whether it counts yet (first lock), the count a held rig time waits for, the value LOAD asked
for and the next period boundary loads (R50), the offset
still to be removed by slew in 1/256 period, periods since the last omitted increment, the rig time HOLDOVER began; the fraction of a period
in 1/256 at which an offset last set the count (R52), and the count at which the launch table last ceased to fire (R53). -/
structure Rig where
  st : TimeSt := .free
  t : W64 := 0
  counting : Bool := false
  hold : Option W64 := none
  load : Option W64 := none
  slew : Nat := 0
  slewDiv : Nat := 0
  holdStart : W64 := 0
  frac : Nat := 0
  stopAt : W64 := 0
deriving DecidableEq, Repr

/-- Launch entries fire in this state (R49). -/
def TimeSt.fires (t : TimeSt) : Bool := t == .sync || t == .slew || t == .holdover

/-- A launch entry (Table 3.2); `lateDue`: it fell due in FREE or LOCKING (R53); `begun`: its STARTs were handled with those of another entry
due at the same rig time (R34). -/
structure LEntry where
  time : W64 := 0
  act : Nat := 0
  latePol : Bool := false
  ffp : Bool := false
  arg0 : Nat := 0
  arg1 : W32 := 0
  period : W32 := 0
  num : Nat := 0
  den : Nat := 0
  count : Nat := 0
  armed : Bool := false
  acc : Nat := 0
  lateDue : Bool := false
  begun : Bool := false
deriving DecidableEq, Repr

/-- The launch table and the descriptor store (R55, R59). -/
structure Launch where
  entries : SMap LEntry := []
  desc : SMap W32 := []
deriving DecidableEq, Repr

end Sys2Proof.Machine
end

