-- ==== Sys2Proof/Machine/MgmtTypes.lean ====
section
/-! DEFINITION. What the management controller, the event log, MRAM, flash, the fuses and the power side hold (17, 18, 19). -/
namespace Sys2Proof.Machine

/-- A 32-bit word of an ECC-guarded store (R165, R248, R306, Table 17.2): a word of the local map or of ring SRAM by its word
address, a word of an instruction bank, a queue entry, a register, an accumulator, a launch entry, a descriptor slot, a held
message, a kept flit. -/
inductive EccLoc where
  | mem (word : Nat)
  | ringMem (word : Nat)
  | imem (core idx : Nat)
  | queue (core : Nat) (q : Queue) (idx : Nat)
  | sreg (core i : Nat)
  | areg (core i : Nat)
  | vreg (core i : Nat)
  | acc (core place : Nat)
  | entry (i : Nat)
  | descSlot (i : Nat)
  | store (dev seq : Nat)
  | replay (dl seq : Nat)
deriving DecidableEq, Repr

/-- An event for the log (Table 18.3) before its SEQ is given; `lostRec`: it reports a lost completion record; `no` is its place in the
order in which events were taken. -/
structure LogEnt where
  page : Nat
  bit : Nat
  code : Nat
  time : W64
  unit : Nat
  detail : W32
  arg : W64
  lostRec : Bool := false
  no : Nat := 0
deriving DecidableEq, Repr

/-- The event log (R323): the ring in MRAM at slot SEQ mod 32,768 (eight words each), HEAD, the buffer of 512 entries and the
reserve of 2,048, both oldest first; `taken` counts the events so far. -/
structure LogSt where
  ring : SMap (List W32) := []
  head : W32 := 1
  buf : List LogEnt := []
  reserve : List LogEnt := []
  taken : Nat := 0
deriving DecidableEq, Repr

/-- A configuration set in use (R330): version, candidate profile IDs of the 24 ports, profiles, bank images with their core
masks, DATA extents with their bytes, the first 32 bytes of its BODY_DIGEST. -/
structure CfgSet where
  version : W32
  portmap : List (List Nat)
  profiles : List Profile
  banks : List (W32 × List W32)
  data : List (Nat × List Byte)
  digest : List Byte
deriving DecidableEq, Repr

/-- The boot record (R316, R327, R332): primary image slot (true: B), TRY and its count, the set slots in their roles. -/
structure BootRec where
  primary : Bool := false
  tryFlag : Bool := false
  tryCount : Nat := 0
  setActive : Option Nat := none
  setPrev : Option Nat := none
  setStaged : Option Nat := none
deriving DecidableEq, Repr

/-- The external flash (Table 18.1): image slots, set slots, the boot record. -/
structure Flash where
  imgA : List Byte := []
  imgB : List Byte := []
  sets : List (List Byte) := [[], [], []]
  boot : BootRec := {}
deriving DecidableEq, Repr

/-- A stored training record of a memory channel (R243): trims, MR5 to MR8, rate in MT/s, version of the trim format, temperature band. -/
structure TrimRec where
  trims : List Byte
  ids : List Byte
  rate : Nat
  version : Nat
  band : Nat
deriving DecidableEq, Repr

/-- MRAM apart from the log (R243, R325, R326, R351, R354). `last` lists the items with a LAST record of the firing. -/
structure Mram where
  fwFloor : W32 := 0
  setFloor : W32 := 0
  ownerFp : List Byte := List.replicate 32 0
  idkeyFp : List Byte := List.replicate 32 0
  forceFull : Bool := false
  autoWarm : Bool := false
  fireCnt : W32 := 0
  trims : SMap TrimRec := []
  last : List CalItem := []
deriving DecidableEq, Repr

/-- What the management controller is doing (R327, R329): off until a start, running, restarting, in recovery mode. -/
inductive McRun where
  | off | running | restarting | recovery
deriving DecidableEq, Repr

/-- Configuration states (Table 18.8). -/
inductive CfgSt where
  | idle | loading | staged | applying
deriving DecidableEq, Repr

/-- What a LOAD in progress is for: a new set, or the previous set after READY (R332, R349). -/
inductive CfgLoad where
  | set | prev
deriving DecidableEq, Repr

/-- The management controller (18). `image` is the running image's container; `paceAt` the last control step. -/
structure Mgmt where
  run : McRun := .off
  slotB : Bool := false
  tryRun : Bool := false
  otherOk : Bool := false
  image : List Byte := []
  imgLoad : Bool := false
  cfg : CfgSt := .idle
  load : Option CfgLoad := none
  active : Option CfgSet := none
  prev : Option CfgSet := none
  staged : Option CfgSet := none
  stagedSrc : List Byte := []
  prevValid : Bool := false
  covered : List Nat := []
  report : Bool := false
  lag : Nat := 0
  lagCore : Nat := 0
  paceAt : W64 := 0
deriving DecidableEq, Repr

/-- The power side (19): powered domains, whether the firing runs or has ended, its cones, items it failed, READY, whether PORST_n is held
low, whether this start was a cold one. -/
structure Power where
  pd : BitVec 40 := 0
  running : Bool := false
  fired : Bool := false
  cones : BitVec 6 := 0
  failed : List CalItem := []
  ready : Bool := false
  porst : Bool := true
  cold : Bool := true
deriving DecidableEq, Repr

/-- A memory channel's own state (R240, R243, R244, R250, R252), what its MCk page reports among it: MR5 to MR8, the part's type and
rank count, the trims in use and how far tracking has moved them, tracking corrections, when the last tracking was (none since the
firing), corrected and uncorrectable words, refreshes and the refresh multiplier MR4 gave last, and the next sector the scrubber reads. -/
structure MemChan where
  ids : List Byte := []
  lp5x : Bool := false
  twoRanks : Bool := false
  trims : List Byte := []
  moved : Int := 0
  track : W32 := 0
  trackAt : Option W64 := none
  ce : W32 := 0
  ueCnt : W32 := 0
  refresh : Nat := 0
  mr4 : Byte := 0
  scrub : Nat := 0
deriving DecidableEq, Repr

/-- A pass of the memory scrubber (R250): the rig time at which it began and whether it has been counted as late. -/
structure ScrubPass where
  since : W64 := 0
  late : Bool := false
deriving DecidableEq, Repr

end Sys2Proof.Machine
end

