-- ==== Sys2Proof/Machine/RegMap.lean ====
section
/-! DEFINITION. The register field maps of the block chapters: for each register of each page its offset, the masks
of its access types (RW, W1C, W1S, WO, RO; R10) and its reset value. Bits in no mask are RSV. -/
namespace Sys2Proof.Machine

/-- One register of a field map. -/
structure RegDef where
  off : Nat
  rw : Nat := 0
  w1c : Nat := 0
  w1s : Nat := 0
  wo : Nat := 0
  ro : Nat := 0
  reset : Nat := 0
deriving DecidableEq, Repr

abbrev Off.DEV.DEV_INFO : Nat := 0x100
abbrev Off.DEV.DEV_ID : Nat := 0x104
abbrev Off.DEV.SERIAL_LO : Nat := 0x108
abbrev Off.DEV.SERIAL_HI : Nat := 0x10C
abbrev Off.DEV.DEV_STATE : Nat := 0x110
abbrev Off.DEV.CORE_INSVC : Nat := 0x114
abbrev Off.DEV.FAULT_KINDS : Nat := 0x118
abbrev Off.DEV.FAULT_CORES : Nat := 0x11C
abbrev Off.DEV.FAULT_SPS : Nat := 0x120
abbrev Off.DEV.REC_CNT : Nat := 0x124
abbrev Off.DEV.REFUSE_CNT : Nat := 0x128
abbrev Off.GRP.GRP_STATE : Nat := 0x100
abbrev Off.GRP.ITEM_CNT : Nat := 0x104
abbrev Off.GRP.DONE_CNT : Nat := 0x108
abbrev Off.GRP.FAIL_CNT : Nat := 0x10C
abbrev Off.GRP.REFUSE_CNT : Nat := 0x110
abbrev Off.CORE.CORE_STATE : Nat := 0x100
abbrev Off.CORE.CORE_CMD : Nat := 0x104
abbrev Off.CORE.IMEM_CTRL : Nat := 0x108
abbrev Off.CORE.IMEM_SEL : Nat := 0x10C
abbrev Off.CORE.IMEM_DATA : Nat := 0x110
abbrev Off.CORE.SP_RESERVE : Nat := 0x114
abbrev Off.CORE.ARITH_FLAGS : Nat := 0x118
abbrev Off.CORE.SCRUB_CTRL : Nat := 0x11C
abbrev Off.CORE.SLUICE_STATE : Nat := 0x120
abbrev Off.CORE.QUEUE_LEVEL : Nat := 0x124
abbrev Off.CORE.ECC_CE_CNT : Nat := 0x128
abbrev Off.CORE.ECC_UE_CNT : Nat := 0x12C
abbrev Off.CORE.SCRUB_LATE_CNT : Nat := 0x130
abbrev Off.CORE.BOUNDS_CNT : Nat := 0x134
abbrev Off.CORE.STEP_CNT_LO : Nat := 0x138
abbrev Off.CORE.STEP_CNT_HI : Nat := 0x13C
abbrev Off.CORE.STALL_CNT : Nat := 0x140
abbrev Off.CORE.XFER_CNT : Nat := 0x144
abbrev Off.CORE.ITEM_CNT : Nat := 0x148
abbrev Off.CORE.ITEM_FAIL_CNT : Nat := 0x14C
abbrev Off.CORE.REFUSE_CNT : Nat := 0x150
abbrev Off.SP.INTAKE_CTRL : Nat := 0x100
abbrev Off.SP.PORT_STATE : Nat := 0x104
abbrev Off.SP.LINK_RATE : Nat := 0x108
abbrev Off.SP.PHY_CFG : Nat := 0x10C
abbrev Off.SP.STREAM0 : Nat := 0x110
abbrev Off.SP.STREAM1 : Nat := 0x114
abbrev Off.SP.STREAM2 : Nat := 0x118
abbrev Off.SP.STREAM3 : Nat := 0x11C
abbrev Off.SP.FRAME_GEOM : Nat := 0x120
abbrev Off.SP.CFA : Nat := 0x124
abbrev Off.SP.PIX_RATE : Nat := 0x128
abbrev Off.SP.LOSS_TIMEOUT : Nat := 0x12C
abbrev Off.SP.BLACK0 : Nat := 0x130
abbrev Off.SP.BLACK1 : Nat := 0x134
abbrev Off.SP.BLACK2 : Nat := 0x138
abbrev Off.SP.BLACK3 : Nat := 0x13C
abbrev Off.SP.LIN_CTRL : Nat := 0x140
abbrev Off.SP.GAIN_CTRL : Nat := 0x144
abbrev Off.SP.DEF_CTRL : Nat := 0x148
abbrev Off.SP.VST_CTRL : Nat := 0x14C
abbrev Off.SP.VST_A0 : Nat := 0x150
abbrev Off.SP.VST_A1 : Nat := 0x154
abbrev Off.SP.VST_A2 : Nat := 0x158
abbrev Off.SP.VST_A3 : Nat := 0x15C
abbrev Off.SP.VST_B0 : Nat := 0x160
abbrev Off.SP.VST_B1 : Nat := 0x164
abbrev Off.SP.VST_B2 : Nat := 0x168
abbrev Off.SP.VST_B3 : Nat := 0x16C
abbrev Off.SP.TBL_SEL : Nat := 0x170
abbrev Off.SP.TBL_DATA : Nat := 0x174
abbrev Off.SP.ADMIT : Nat := 0x178
abbrev Off.SP.FRAME_CNT : Nat := 0x17C
abbrev Off.SP.DROP_CNT : Nat := 0x180
abbrev Off.SP.CRC_CNT : Nat := 0x184
abbrev Off.SP.ECC_CNT : Nat := 0x188
abbrev Off.SP.HOP_LEVEL : Nat := 0x18C
abbrev Off.SP.IBI : Nat := 0x190
abbrev Off.SP.MCLK_CTRL : Nat := 0x194
abbrev Off.SP.FSYNC_CTRL : Nat := 0x198
abbrev Off.WEIR.SHED_CTRL : Nat := 0x100
abbrev Off.WEIR.SHED_CLASS0 : Nat := 0x104
abbrev Off.WEIR.SHED_CLASS1 : Nat := 0x108
abbrev Off.WEIR.SHED_STATE : Nat := 0x10C
abbrev Off.WEIR.SHED_CNT : Nat := 0x110
abbrev Off.WEIR.RACE_ERR : Nat := 0x114
abbrev Off.WEIR.LANE_SEL : Nat := 0x118
abbrev Off.WEIR.LANE_STATE : Nat := 0x11C
abbrev Off.WEIR.LANE_GRANTED : Nat := 0x120
abbrev Off.WEIR.LANE_BASE_LO : Nat := 0x124
abbrev Off.WEIR.LANE_BASE_HI : Nat := 0x128
abbrev Off.WEIR.LANE_COUNT : Nat := 0x12C
abbrev Off.WEIR.DLK_LAST : Nat := 0x130
abbrev Off.WEIR.DLK_CNT : Nat := 0x134
abbrev Off.WEIR.MC_HOLD : Nat := 0x138
abbrev Off.WEIR.MISS_IDX : Nat := 0x13C
abbrev Off.WEIR.MISS_ENT : Nat := 0x140
abbrev Off.WEIR.MISS_FRAME : Nat := 0x144
abbrev Off.RACE.RD_CTRL : Nat := 0x000
abbrev Off.RACE.RD_DRAIN : Nat := 0x004
abbrev Off.RACE.RD_SPACE : Nat := 0x008
abbrev Off.RACE.RD_PITCH : Nat := 0x00C
abbrev Off.RACE.RD_MCAST : Nat := 0x010
abbrev Off.RACE.RD_MEMB0 : Nat := 0x014
abbrev Off.RACE.RD_MEMB1 : Nat := 0x018
abbrev Off.RACE.RD_MEMB2 : Nat := 0x01C
abbrev Off.RACE.RD_MEMB3 : Nat := 0x020
abbrev Off.RACE.RD_MEMB4 : Nat := 0x024
abbrev Off.RACE.RD_MEMB5 : Nat := 0x028
abbrev Off.RACE.RD_MEMB6 : Nat := 0x02C
abbrev Off.RACE.RD_MEMB7 : Nat := 0x030
abbrev Off.RACE.RD_MEMB8 : Nat := 0x034
abbrev Off.RACE.RD_MEMB9 : Nat := 0x038
abbrev Off.RACE.RD_MEMB10 : Nat := 0x03C
abbrev Off.RACE.RD_MEMB11 : Nat := 0x040
abbrev Off.RACE.RD_MEMB12 : Nat := 0x044
abbrev Off.RACE.RD_MEMB13 : Nat := 0x048
abbrev Off.RACE.RD_MEMB14 : Nat := 0x04C
abbrev Off.RACE.RD_MEMB15 : Nat := 0x050
abbrev Off.RACE.RS_STATE : Nat := 0x054
abbrev Off.RACE.RS_PRUNE : Nat := 0x058
abbrev Off.RACE.RS_PRUNE_FRAME : Nat := 0x05C
abbrev Off.RACE.RS_GRANT_CNT : Nat := 0x060
abbrev Off.RACE.RS_BLOCK_CNT : Nat := 0x064
abbrev Off.RACE.RS_MISS_CNT : Nat := 0x068
abbrev Off.RACE.RS_REFUSE_CNT : Nat := 0x06C
abbrev Off.TALLY.T_IDX : Nat := 0x100
abbrev Off.TALLY.T_SET : Nat := 0x104
abbrev Off.TALLY.T_ADD : Nat := 0x108
abbrev Off.TALLY.T_VAL : Nat := 0x10C
abbrev Off.TALLY.T_ATTR : Nat := 0x110
abbrev Off.TALLY.T_CODE : Nat := 0x114
abbrev Off.TALLY.WAIT_LIMIT : Nat := 0x118
abbrev Off.TALLY.WAITERS : Nat := 0x11C
abbrev Off.TALLY.UPD_CNT : Nat := 0x120
abbrev Off.TALLY.REFUSE_CNT : Nat := 0x124
abbrev Off.TALLY.LIMIT_CNT : Nat := 0x128
abbrev Off.LCH.TIME_CTRL : Nat := 0x100
abbrev Off.LCH.TIME_STATE : Nat := 0x104
abbrev Off.LCH.RIG_TIME_LO : Nat := 0x108
abbrev Off.LCH.RIG_TIME_HI : Nat := 0x10C
abbrev Off.LCH.TIME_LOAD_LO : Nat := 0x110
abbrev Off.LCH.TIME_LOAD_HI : Nat := 0x114
abbrev Off.LCH.HOP_DELAY : Nat := 0x118
abbrev Off.LCH.LCH_CTRL : Nat := 0x11C
abbrev Off.LCH.ENT_IDX : Nat := 0x120
abbrev Off.LCH.ENT_TIME_LO : Nat := 0x124
abbrev Off.LCH.ENT_TIME_HI : Nat := 0x128
abbrev Off.LCH.ENT_ACT : Nat := 0x12C
abbrev Off.LCH.ENT_ARG : Nat := 0x130
abbrev Off.LCH.ENT_PERIOD : Nat := 0x134
abbrev Off.LCH.ENT_REPEAT : Nat := 0x138
abbrev Off.LCH.ENT_CMD : Nat := 0x13C
abbrev Off.LCH.DESC_SEL : Nat := 0x140
abbrev Off.LCH.DESC_DATA : Nat := 0x144
abbrev Off.LCH.FRAME_LOAD : Nat := 0x148
abbrev Off.LCH.EXP_SEL : Nat := 0x14C
abbrev Off.LCH.EXP_FRAME : Nat := 0x150
abbrev Off.LCH.EXP_TAG : Nat := 0x154
abbrev Off.LCH.EXP_VAL0 : Nat := 0x158
abbrev Off.LCH.EXP_VAL1 : Nat := 0x15C
abbrev Off.LCH.EXP_VAL2 : Nat := 0x160
abbrev Off.LCH.EXP_VAL3 : Nat := 0x164
abbrev Off.LCH.EXP_CMD : Nat := 0x168
abbrev Off.LCH.EXP_STATE : Nat := 0x16C
abbrev Off.LCH.PORT_FRAME : Nat := 0x170
abbrev Off.LCH.LATE_CNT : Nat := 0x174
abbrev Off.LCH.SKIP_CNT : Nat := 0x178
abbrev Off.LCH.FIRE_CNT : Nat := 0x17C
abbrev Off.STAT.STAT_SEL : Nat := 0x100
abbrev Off.STAT.STAT_CFG : Nat := 0x104
abbrev Off.STAT.RING_BASE_LO : Nat := 0x108
abbrev Off.STAT.RING_BASE_HI : Nat := 0x10C
abbrev Off.STAT.RING_DEPTH : Nat := 0x110
abbrev Off.STAT.STAT_SEQ : Nat := 0x114
abbrev Off.STAT.STAT_CODE : Nat := 0x118
abbrev Off.STAT.REC_CNT : Nat := 0x11C
abbrev Off.MEM.MEM_CFG : Nat := 0x100
abbrev Off.MEM.MEM_TOP : Nat := 0x104
abbrev Off.MEM.TRAIN_STATE : Nat := 0x108
abbrev Off.MEM.TRAIN_CTRL : Nat := 0x10C
abbrev Off.MEM.SCRUB_CTRL : Nat := 0x110
abbrev Off.MEM.ECC_CE_CNT : Nat := 0x114
abbrev Off.MEM.ECC_UE_CNT : Nat := 0x118
abbrev Off.MEM.SCRUB_LATE_CNT : Nat := 0x11C
abbrev Off.MEM.TRACK_CNT : Nat := 0x120
abbrev Off.HP.HP_CFG : Nat := 0x100
abbrev Off.HP.HP_STATE : Nat := 0x104
abbrev Off.HP.VMR_CFG : Nat := 0x108
abbrev Off.HP.INT_CTRL : Nat := 0x10C
abbrev Off.HP.INT_STATE : Nat := 0x110
abbrev Off.HC.HC_STATE : Nat := 0x100
abbrev Off.HC.WR_SEQ : Nat := 0x104
abbrev Off.HC.MARKER_CNT : Nat := 0x108
abbrev Off.HC.LAST_MARK : Nat := 0x10C
abbrev Off.HC.IGNORED_CNT : Nat := 0x110
abbrev Off.HC.LATE_CNT : Nat := 0x114
abbrev Off.HC.ECC_CE_CNT : Nat := 0x118
abbrev Off.HC.ECC_UE_CNT : Nat := 0x11C
abbrev Off.HC.LINK_ECC_CNT : Nat := 0x120
abbrev Off.HC.REF_CNT : Nat := 0x124
abbrev Off.HC.TRAIN_CNT : Nat := 0x128
abbrev Off.HC.RING_CTRL0 : Nat := 0x130
abbrev Off.HC.RING_STATE0 : Nat := 0x134
abbrev Off.HC.CPL_LOST0 : Nat := 0x138
abbrev Off.HC.CMD_REFUSE0 : Nat := 0x13C
abbrev Off.HC.RING_CTRL1 : Nat := 0x140
abbrev Off.HC.RING_STATE1 : Nat := 0x144
abbrev Off.HC.CPL_LOST1 : Nat := 0x148
abbrev Off.HC.CMD_REFUSE1 : Nat := 0x14C
abbrev Off.HC.RING_CTRL2 : Nat := 0x150
abbrev Off.HC.RING_STATE2 : Nat := 0x154
abbrev Off.HC.CPL_LOST2 : Nat := 0x158
abbrev Off.HC.CMD_REFUSE2 : Nat := 0x15C
abbrev Off.HC.RING_CTRL3 : Nat := 0x160
abbrev Off.HC.RING_STATE3 : Nat := 0x164
abbrev Off.HC.CPL_LOST3 : Nat := 0x168
abbrev Off.HC.CMD_REFUSE3 : Nat := 0x16C
abbrev Off.LNK.LNK_CFG : Nat := 0x100
abbrev Off.LNK.E2E_CTRL : Nat := 0x104
abbrev Off.LNK.DISC_STATE : Nat := 0x108
abbrev Off.LNK.STORE_LEVEL : Nat := 0x10C
abbrev Off.LNK.LNK_ERR : Nat := 0x110
abbrev Off.LNK.RESEND_CNT : Nat := 0x114
abbrev Off.LNK.LOST_CNT : Nat := 0x118
abbrev Off.LNK.DUP_CNT : Nat := 0x11C
abbrev Off.LNK.NOROUTE_CNT : Nat := 0x120
abbrev Off.LNK.HOP_DROP_CNT : Nat := 0x124
abbrev Off.LNK.BAD_CNT : Nat := 0x128
abbrev Off.LNK.ROUTE_CHG_CNT : Nat := 0x12C
abbrev Off.DL.DL_CFG : Nat := 0x100
abbrev Off.DL.DL_CMD : Nat := 0x104
abbrev Off.DL.DL_STATE : Nat := 0x108
abbrev Off.DL.LINK_DELAY : Nat := 0x10C
abbrev Off.DL.LOSS_CTRL : Nat := 0x110
abbrev Off.DL.FEC_CE_CNT : Nat := 0x114
abbrev Off.DL.FEC_UE_CNT : Nat := 0x118
abbrev Off.DL.REPLAY_CNT : Nat := 0x11C
abbrev Off.DL.DOWN_CNT : Nat := 0x120
abbrev Off.DL.TRAIN_CNT : Nat := 0x124
abbrev Off.DL.TX_FLIT_CNT : Nat := 0x128
abbrev Off.DL.RX_FLIT_CNT : Nat := 0x12C
abbrev Off.DL.FALLBACK_CNT : Nat := 0x130
abbrev Off.ROUTE.ROUTE_ENTRY : Nat := 0x000
abbrev Off.SPAN.SPAN_HDR : Nat := 0x000
abbrev Off.SPAN.SPAN_CORES : Nat := 0x004
abbrev Off.SPAN.SPAN_MEMB0 : Nat := 0x008
abbrev Off.SPAN.SPAN_MEMB1 : Nat := 0x00C
abbrev Off.SPAN.SPAN_MEMB2 : Nat := 0x010
abbrev Off.SPAN.SPAN_MEMB3 : Nat := 0x014
abbrev Off.SPAN.SPAN_MEMB4 : Nat := 0x018
abbrev Off.SPAN.SPAN_MEMB5 : Nat := 0x01C
abbrev Off.SPAN.SPAN_MEMB6 : Nat := 0x020
abbrev Off.SPAN.SPAN_MEMB7 : Nat := 0x024
abbrev Off.SPAN.SPAN_MEMB8 : Nat := 0x028
abbrev Off.SPAN.SPAN_MEMB9 : Nat := 0x02C
abbrev Off.SPAN.SPAN_MEMB10 : Nat := 0x030
abbrev Off.SPAN.SPAN_MEMB11 : Nat := 0x034
abbrev Off.SPAN.SPAN_MEMB12 : Nat := 0x038
abbrev Off.SPAN.SPAN_MEMB13 : Nat := 0x03C
abbrev Off.SPAN.SPAN_TBL : Nat := 0x100
abbrev Off.SPAN.SPAN_ERR : Nat := 0x104
abbrev Off.GLZ.CTX_SEL : Nat := 0x100
abbrev Off.GLZ.CTX_CMD : Nat := 0x104
abbrev Off.GLZ.C_IN : Nat := 0x108
abbrev Off.GLZ.C_OFS : Nat := 0x10C
abbrev Off.GLZ.C_SIZE : Nat := 0x110
abbrev Off.GLZ.C_FMT : Nat := 0x114
abbrev Off.GLZ.C_MAT0 : Nat := 0x118
abbrev Off.GLZ.C_MAT1 : Nat := 0x11C
abbrev Off.GLZ.C_MAT2 : Nat := 0x120
abbrev Off.GLZ.C_MAT3 : Nat := 0x124
abbrev Off.GLZ.C_MAT4 : Nat := 0x128
abbrev Off.GLZ.C_OFF0 : Nat := 0x12C
abbrev Off.GLZ.C_OFF1 : Nat := 0x130
abbrev Off.GLZ.C_OFF2 : Nat := 0x134
abbrev Off.GLZ.C_BASE_LO : Nat := 0x138
abbrev Off.GLZ.C_BASE_HI : Nat := 0x13C
abbrev Off.GLZ.C_PITCH : Nat := 0x140
abbrev Off.GLZ.C_RING : Nat := 0x144
abbrev Off.GLZ.C_HOLD : Nat := 0x148
abbrev Off.GLZ.COEF_SEL : Nat := 0x14C
abbrev Off.GLZ.COEF_DATA : Nat := 0x150
abbrev Off.GLZ.GLZ_STATE : Nat := 0x154
abbrev Off.GLZ.PIX_CNT : Nat := 0x158
abbrev Off.GLZ.OVR_CNT : Nat := 0x15C
abbrev Off.GLZ.ABANDON_CNT : Nat := 0x160
abbrev Off.GLZ.REFUSE_CNT : Nat := 0x164
abbrev Off.MGT.PACE_CTRL : Nat := 0x100
abbrev Off.MGT.PACE_LAG : Nat := 0x104
abbrev Off.MGT.VLIMIT : Nat := 0x108
abbrev Off.MGT.VSET : Nat := 0x10C
abbrev Off.MGT.VNOW : Nat := 0x110
abbrev Off.MGT.LAG_NOW : Nat := 0x114
abbrev Off.MGT.THERM : Nat := 0x118
abbrev Off.MGT.POWER : Nat := 0x11C
abbrev Off.MGT.FW_STATE : Nat := 0x120
abbrev Off.MGT.FW_VER : Nat := 0x124
abbrev Off.MGT.FW_FLOOR : Nat := 0x128
abbrev Off.MGT.FW_SRC_LO : Nat := 0x12C
abbrev Off.MGT.FW_SRC_HI : Nat := 0x130
abbrev Off.MGT.MGT_CMD : Nat := 0x134
abbrev Off.CFG.CFG_STATE : Nat := 0x100
abbrev Off.CFG.ACTIVE_VER : Nat := 0x104
abbrev Off.CFG.PREV_VER : Nat := 0x108
abbrev Off.CFG.STAGED_VER : Nat := 0x10C
abbrev Off.CFG.SET_FLOOR : Nat := 0x110
abbrev Off.CFG.CFG_SRC_LO : Nat := 0x114
abbrev Off.CFG.CFG_SRC_HI : Nat := 0x118
abbrev Off.CFG.CFG_CMD : Nat := 0x11C
abbrev Off.CFG.COVERED : Nat := 0x120
abbrev Off.CFG.APPLY_TIME_LO : Nat := 0x124
abbrev Off.CFG.APPLY_TIME_HI : Nat := 0x128
abbrev Off.CFG.APPLY_CNT : Nat := 0x12C
abbrev Off.PWR.PD_REQ_LO : Nat := 0x100
abbrev Off.PWR.PD_REQ_HI : Nat := 0x104
abbrev Off.PWR.PD_ON_LO : Nat := 0x108
abbrev Off.PWR.PD_ON_HI : Nat := 0x10C
abbrev Off.PWR.PD_FAIL_LO : Nat := 0x110
abbrev Off.PWR.PD_FAIL_HI : Nat := 0x114
abbrev Off.PWR.PWR_CMD : Nat := 0x118
abbrev Off.PWR.RST_CAUSE : Nat := 0x11C
abbrev Off.PWR.BOOT_TIME : Nat := 0x120
abbrev Off.PWR.SWITCH_CNT : Nat := 0x124
abbrev Off.CAL.CAL_STATE : Nat := 0x100
abbrev Off.CAL.CAL_CTRL : Nat := 0x104
abbrev Off.CAL.FIRE_TIME : Nat := 0x108
abbrev Off.CAL.FIRE_CNT : Nat := 0x10C
abbrev Off.DB.CMD_TAIL : Nat := 0x000
abbrev Off.DB.CMD_HEAD : Nat := 0x004
abbrev Off.DB.CPL_TAIL : Nat := 0x008
abbrev Off.DB.CPL_HEAD : Nat := 0x00C
abbrev Off.DB.SEQ : Nat := 0x010
abbrev Off.DB.CODE : Nat := 0x014
abbrev Off.HDR.PAGE_ID : Nat := 0x000
abbrev Off.HDR.PAGE_VER : Nat := 0x004
abbrev Off.HDR.CAPS0 : Nat := 0x008
abbrev Off.HDR.CAPS1 : Nat := 0x00C
abbrev Off.HDR.CTRL : Nat := 0x010
abbrev Off.HDR.STATUS : Nat := 0x014
abbrev Off.HDR.FAULT_SUM : Nat := 0x018
abbrev Off.HDR.FAULT_EN : Nat := 0x01C
abbrev Off.HDR.FAULT_ADDR_LO : Nat := 0x020
abbrev Off.HDR.FAULT_ADDR_HI : Nat := 0x024
abbrev Off.HDR.EVENT_CNT : Nat := 0x028
abbrev Off.HDR.SCALE : Nat := 0x02C
abbrev Off.LOG.HEAD : Nat := 0x100
abbrev Off.LOG.IDX : Nat := 0x104
abbrev Off.LOG.LOST_CNT : Nat := 0x108
abbrev Off.LOG.LOSTREC_CNT : Nat := 0x10C
abbrev Off.LOG.ENTRY0 : Nat := 0x120
abbrev Off.LOG.ENTRY1 : Nat := 0x124
abbrev Off.LOG.ENTRY2 : Nat := 0x128
abbrev Off.LOG.ENTRY3 : Nat := 0x12C
abbrev Off.LOG.ENTRY4 : Nat := 0x130
abbrev Off.LOG.ENTRY5 : Nat := 0x134
abbrev Off.LOG.ENTRY6 : Nat := 0x138
abbrev Off.LOG.ENTRY7 : Nat := 0x13C
abbrev Off.SEC.IDKEY_FP0 : Nat := 0x100
abbrev Off.SEC.IDKEY_FP1 : Nat := 0x104
abbrev Off.SEC.IDKEY_FP2 : Nat := 0x108
abbrev Off.SEC.IDKEY_FP3 : Nat := 0x10C
abbrev Off.SEC.IDKEY_FP4 : Nat := 0x110
abbrev Off.SEC.IDKEY_FP5 : Nat := 0x114
abbrev Off.SEC.IDKEY_FP6 : Nat := 0x118
abbrev Off.SEC.IDKEY_FP7 : Nat := 0x11C
abbrev Off.SEC.OWNER_FP0 : Nat := 0x120
abbrev Off.SEC.OWNER_FP1 : Nat := 0x124
abbrev Off.SEC.OWNER_FP2 : Nat := 0x128
abbrev Off.SEC.OWNER_FP3 : Nat := 0x12C
abbrev Off.SEC.OWNER_FP4 : Nat := 0x130
abbrev Off.SEC.OWNER_FP5 : Nat := 0x134
abbrev Off.SEC.OWNER_FP6 : Nat := 0x138
abbrev Off.SEC.OWNER_FP7 : Nat := 0x13C
abbrev Off.SEC.NONCE0 : Nat := 0x140
abbrev Off.SEC.NONCE1 : Nat := 0x144
abbrev Off.SEC.NONCE2 : Nat := 0x148
abbrev Off.SEC.NONCE3 : Nat := 0x14C
abbrev Off.SEC.NONCE4 : Nat := 0x150
abbrev Off.SEC.NONCE5 : Nat := 0x154
abbrev Off.SEC.NONCE6 : Nat := 0x158
abbrev Off.SEC.NONCE7 : Nat := 0x15C
abbrev Off.SEC.ATT_DST_LO : Nat := 0x160
abbrev Off.SEC.ATT_DST_HI : Nat := 0x164
abbrev Off.SEC.ATT_CMD : Nat := 0x168
abbrev Off.SEC.OWNER_SRC_LO : Nat := 0x16C
abbrev Off.SEC.OWNER_SRC_HI : Nat := 0x170
abbrev Off.SEC.OWNER_CMD : Nat := 0x174
abbrev Off.MON.TEMP0 : Nat := 0x100
abbrev Off.MON.VOLT0 : Nat := 0x1A0
abbrev Off.MON.WINDOW0 : Nat := 0x1E0

/-- Registers of DEV page (R299, Table 16.3). -/
def RegMap.dev : List RegDef :=
  [{ off := Off.DEV.DEV_INFO, ro := 0xFFFFFF00, reset := 0x2432B000 },
   { off := Off.DEV.DEV_ID, ro := 0x1FF },
   { off := Off.DEV.SERIAL_LO, ro := 0xFFFFFFFF },
   { off := Off.DEV.SERIAL_HI, ro := 0xFFFFFFFF },
   { off := Off.DEV.DEV_STATE, ro := 0x8000003F },
   { off := Off.DEV.CORE_INSVC, ro := 0xFFFFFFFF },
   { off := Off.DEV.FAULT_KINDS, ro := 0x7FFFFFE },
   { off := Off.DEV.FAULT_CORES, ro := 0xFFFFFFFF },
   { off := Off.DEV.FAULT_SPS, ro := 0xFFFFFF },
   { off := Off.DEV.REC_CNT, ro := 0xFFFFFFFF },
   { off := Off.DEV.REFUSE_CNT, ro := 0xFFFFFFFF }]

/-- Registers of GRP pages (R300, Table 16.4). -/
def RegMap.grp : List RegDef :=
  [{ off := Off.GRP.GRP_STATE, ro := 0xF00FFFF },
   { off := Off.GRP.ITEM_CNT, ro := 0xFFFFFFFF },
   { off := Off.GRP.DONE_CNT, ro := 0xFFFFFFFF },
   { off := Off.GRP.FAIL_CNT, ro := 0xFFFFFFFF },
   { off := Off.GRP.REFUSE_CNT, ro := 0xFFFFFFFF }]

/-- Registers of CORE pages (R301, Table 16.5; ARITH_FLAGS R87, Table 4.6). -/
def RegMap.core : List RegDef :=
  [{ off := Off.CORE.CORE_STATE, ro := 0xE0FF007F },
   { off := Off.CORE.CORE_CMD, wo := 0x3 },
   { off := Off.CORE.IMEM_CTRL, w1s := 0x80000000, ro := 0xFF0001 },
   { off := Off.CORE.IMEM_SEL, rw := 0x3FFF },
   { off := Off.CORE.IMEM_DATA, rw := 0xFFFFFFFF },
   { off := Off.CORE.SP_RESERVE, rw := 0x7FFF },
   { off := Off.CORE.ARITH_FLAGS, w1c := 0xFF },
   { off := Off.CORE.SCRUB_CTRL, rw := 0x8000FFFF, reset := 0x80000064 },
   { off := Off.CORE.SLUICE_STATE, ro := 0xFFFF },
   { off := Off.CORE.QUEUE_LEVEL, ro := 0xFFFFFF },
   { off := Off.CORE.ECC_CE_CNT, ro := 0xFFFFFFFF },
   { off := Off.CORE.ECC_UE_CNT, ro := 0xFFFFFFFF },
   { off := Off.CORE.SCRUB_LATE_CNT, ro := 0xFFFFFFFF },
   { off := Off.CORE.BOUNDS_CNT, ro := 0xFFFFFFFF },
   { off := Off.CORE.STEP_CNT_LO, ro := 0xFFFFFFFF },
   { off := Off.CORE.STEP_CNT_HI, ro := 0xFFFFFFFF },
   { off := Off.CORE.STALL_CNT, ro := 0xFFFFFFFF },
   { off := Off.CORE.XFER_CNT, ro := 0xFFFFFFFF },
   { off := Off.CORE.ITEM_CNT, ro := 0xFFFFFFFF },
   { off := Off.CORE.ITEM_FAIL_CNT, ro := 0xFFFFFFFF },
   { off := Off.CORE.REFUSE_CNT, ro := 0xFFFFFFFF }]

/-- Registers of SP pages (R44, Table 2.8; R61 to R64 registers lie on LCH). -/
def RegMap.sp : List RegDef :=
  [{ off := Off.SP.INTAKE_CTRL, rw := 0xA0000000, w1s := 0x40000000, wo := 0xF },
   { off := Off.SP.PORT_STATE, ro := 0xE0FFFFC7, reset := 0xF000 },
   { off := Off.SP.LINK_RATE, ro := 0xFFFF },
   { off := Off.SP.PHY_CFG, rw := 0x71F00FF, reset := 0x40000E4 },
   { off := Off.SP.STREAM0, rw := 0xFFFC1F0F },
   { off := Off.SP.STREAM1, rw := 0xFFFC1F0F },
   { off := Off.SP.STREAM2, rw := 0xFFFC1F0F },
   { off := Off.SP.STREAM3, rw := 0xFFFC1F0F },
   { off := Off.SP.FRAME_GEOM, rw := 0x3FFF3FFF },
   { off := Off.SP.CFA, rw := 0x3 },
   { off := Off.SP.PIX_RATE, ro := 0xFFFF },
   { off := Off.SP.LOSS_TIMEOUT, rw := 0xFFFFFFFF },
   { off := Off.SP.BLACK0, rw := 0xFFFFF },
   { off := Off.SP.BLACK1, rw := 0xFFFFF },
   { off := Off.SP.BLACK2, rw := 0xFFFFF },
   { off := Off.SP.BLACK3, rw := 0xFFFFF },
   { off := Off.SP.LIN_CTRL, rw := 0x8000000F },
   { off := Off.SP.GAIN_CTRL, rw := 0xFF7F0F0F },
   { off := Off.SP.DEF_CTRL, rw := 0x80003FFF },
   { off := Off.SP.VST_CTRL, rw := 0x8000000F },
   { off := Off.SP.VST_A0, rw := 0xFFFF },
   { off := Off.SP.VST_A1, rw := 0xFFFF },
   { off := Off.SP.VST_A2, rw := 0xFFFF },
   { off := Off.SP.VST_A3, rw := 0xFFFF },
   { off := Off.SP.VST_B0, rw := 0xFFFFFFFF },
   { off := Off.SP.VST_B1, rw := 0xFFFFFFFF },
   { off := Off.SP.VST_B2, rw := 0xFFFFFFFF },
   { off := Off.SP.VST_B3, rw := 0xFFFFFFFF },
   { off := Off.SP.TBL_SEL, rw := 0xC0003FFF },
   { off := Off.SP.TBL_DATA, rw := 0xFFFFFFFF },
   { off := Off.SP.ADMIT, rw := 0xFF },
   { off := Off.SP.FRAME_CNT, ro := 0xFFFFFFFF },
   { off := Off.SP.DROP_CNT, ro := 0xFFFFFFFF },
   { off := Off.SP.CRC_CNT, ro := 0xFFFFFFFF },
   { off := Off.SP.ECC_CNT, ro := 0xFFFFFFFF },
   { off := Off.SP.HOP_LEVEL, ro := 0xFFFFFFFF },
   { off := Off.SP.IBI, ro := 0xFFFFFFFF },
   { off := Off.SP.MCLK_CTRL, rw := 0x800001FF, reset := 0x64 },
   { off := Off.SP.FSYNC_CTRL, rw := 0xC000FFFF, reset := 0x1 }]

/-- Registers of WEIR page (R195, Table 9.7). -/
def RegMap.weir : List RegDef :=
  [{ off := Off.WEIR.SHED_CTRL, rw := 0x8000FFFF, reset := 0xFFFF },
   { off := Off.WEIR.SHED_CLASS0, rw := 0xFFFFFFFF },
   { off := Off.WEIR.SHED_CLASS1, rw := 0xFFFF },
   { off := Off.WEIR.SHED_STATE, ro := 0xFFFF001F, reset := 0x1F },
   { off := Off.WEIR.SHED_CNT, ro := 0xFFFFFFFF },
   { off := Off.WEIR.RACE_ERR, ro := 0xFF00003F },
   { off := Off.WEIR.LANE_SEL, rw := 0x3F1F },
   { off := Off.WEIR.LANE_STATE, ro := 0xF0FFFFFF, reset := 0xFFFFFF },
   { off := Off.WEIR.LANE_GRANTED, ro := 0xFFFFFFFF },
   { off := Off.WEIR.LANE_BASE_LO, ro := 0xFFFFFFFF },
   { off := Off.WEIR.LANE_BASE_HI, ro := 0xFFFF },
   { off := Off.WEIR.LANE_COUNT, ro := 0xFFFFFFFF },
   { off := Off.WEIR.DLK_LAST, ro := 0xFFFFE000 },
   { off := Off.WEIR.DLK_CNT, ro := 0xFFFFFFFF },
   { off := Off.WEIR.MC_HOLD, rw := 0xFFFFFFFF, reset := 0x186A0 },
   { off := Off.WEIR.MISS_IDX, rw := 0xF },
   { off := Off.WEIR.MISS_ENT, ro := 0xFFFF3FFF },
   { off := Off.WEIR.MISS_FRAME, ro := 0xFFFFFFFF }]

/-- Registers of a race descriptor (R194, Table 9.6), offsets from its entry. -/
def RegMap.raceEntry : List RegDef :=
  [{ off := Off.RACE.RD_CTRL, rw := 0xFFFFFC00 },
   { off := Off.RACE.RD_DRAIN, rw := 0xFFFFF },
   { off := Off.RACE.RD_SPACE, rw := 0xFFFF7FFF },
   { off := Off.RACE.RD_PITCH, rw := 0xFFFFFFFF },
   { off := Off.RACE.RD_MCAST, rw := 0xFF003FFF },
   { off := Off.RACE.RD_MEMB0, rw := 0xFFC03FFF },
   { off := Off.RACE.RD_MEMB1, rw := 0xFFC03FFF },
   { off := Off.RACE.RD_MEMB2, rw := 0xFFC03FFF },
   { off := Off.RACE.RD_MEMB3, rw := 0xFFC03FFF },
   { off := Off.RACE.RD_MEMB4, rw := 0xFFC03FFF },
   { off := Off.RACE.RD_MEMB5, rw := 0xFFC03FFF },
   { off := Off.RACE.RD_MEMB6, rw := 0xFFC03FFF },
   { off := Off.RACE.RD_MEMB7, rw := 0xFFC03FFF },
   { off := Off.RACE.RD_MEMB8, rw := 0xFFC03FFF },
   { off := Off.RACE.RD_MEMB9, rw := 0xFFC03FFF },
   { off := Off.RACE.RD_MEMB10, rw := 0xFFC03FFF },
   { off := Off.RACE.RD_MEMB11, rw := 0xFFC03FFF },
   { off := Off.RACE.RD_MEMB12, rw := 0xFFC03FFF },
   { off := Off.RACE.RD_MEMB13, rw := 0xFFC03FFF },
   { off := Off.RACE.RD_MEMB14, rw := 0xFFC03FFF },
   { off := Off.RACE.RD_MEMB15, rw := 0xFFC03FFF },
   { off := Off.RACE.RS_STATE, ro := 0xFFFFFFFF, reset := 0xFFFFFF },
   { off := Off.RACE.RS_PRUNE, ro := 0xFFFF },
   { off := Off.RACE.RS_PRUNE_FRAME, ro := 0xFFFFFFFF },
   { off := Off.RACE.RS_GRANT_CNT, ro := 0xFFFFFFFF },
   { off := Off.RACE.RS_BLOCK_CNT, ro := 0xFFFFFFFF },
   { off := Off.RACE.RS_MISS_CNT, ro := 0xFFFFFFFF },
   { off := Off.RACE.RS_REFUSE_CNT, ro := 0xFFFFFFFF }]

/-- Registers of TALLY pages (R159, Table 7.5). -/
def RegMap.tally : List RegDef :=
  [{ off := Off.TALLY.T_IDX, rw := 0xC00003FF },
   { off := Off.TALLY.T_SET, wo := 0xFFFFFFFF },
   { off := Off.TALLY.T_ADD, wo := 0xFFFFFFFF },
   { off := Off.TALLY.T_VAL, ro := 0xFFFFFFFF },
   { off := Off.TALLY.T_ATTR, rw := 0x1 },
   { off := Off.TALLY.T_CODE, ro := 0xFF0003FF },
   { off := Off.TALLY.WAIT_LIMIT, rw := 0xFFFFFFFF, reset := 0x989680 },
   { off := Off.TALLY.WAITERS, ro := 0xFF },
   { off := Off.TALLY.UPD_CNT, ro := 0xFFFFFFFF },
   { off := Off.TALLY.REFUSE_CNT, ro := 0xFFFFFFFF },
   { off := Off.TALLY.LIMIT_CNT, ro := 0xFFFFFFFF }]

/-- Registers of LCH page (R68, Table 3.6). -/
def RegMap.lch : List RegDef :=
  [{ off := Off.LCH.TIME_CTRL, rw := 0xC7F000FF, wo := 0x10000, reset := 0xA },
   { off := Off.LCH.TIME_STATE, ro := 0xFF00FFFF },
   { off := Off.LCH.RIG_TIME_LO, ro := 0xFFFFFFFF },
   { off := Off.LCH.RIG_TIME_HI, ro := 0xFFFFFFFF },
   { off := Off.LCH.TIME_LOAD_LO, rw := 0xFFFFFFFF },
   { off := Off.LCH.TIME_LOAD_HI, rw := 0xFFFFFFFF },
   { off := Off.LCH.HOP_DELAY, ro := 0xFFFFF },
   { off := Off.LCH.LCH_CTRL, rw := 0x80000000 },
   { off := Off.LCH.ENT_IDX, rw := 0xFF },
   { off := Off.LCH.ENT_TIME_LO, rw := 0xFFFFFFFF },
   { off := Off.LCH.ENT_TIME_HI, rw := 0xFFFFFFFF },
   { off := Off.LCH.ENT_ACT, rw := 0xFCFFFFFF },
   { off := Off.LCH.ENT_ARG, rw := 0xFFFFFFFF },
   { off := Off.LCH.ENT_PERIOD, rw := 0xFFFFFFFF },
   { off := Off.LCH.ENT_REPEAT, rw := 0xFFFFFFFF },
   { off := Off.LCH.ENT_CMD, wo := 0x7, ro := 0x80FF0000 },
   { off := Off.LCH.DESC_SEL, rw := 0xFFF },
   { off := Off.LCH.DESC_DATA, rw := 0xFFFFFFFF },
   { off := Off.LCH.FRAME_LOAD, rw := 0xFFFFFFFF },
   { off := Off.LCH.EXP_SEL, rw := 0x1F },
   { off := Off.LCH.EXP_FRAME, rw := 0xFFFFFFFF },
   { off := Off.LCH.EXP_TAG, rw := 0xFFFF },
   { off := Off.LCH.EXP_VAL0, rw := 0xFFFFFFFF },
   { off := Off.LCH.EXP_VAL1, rw := 0xFFFFFFFF },
   { off := Off.LCH.EXP_VAL2, rw := 0xFFFFFFFF },
   { off := Off.LCH.EXP_VAL3, rw := 0xFFFFFFFF },
   { off := Off.LCH.EXP_CMD, wo := 0x80000000, ro := 0xFF000F },
   { off := Off.LCH.EXP_STATE, ro := 0xFFFFFFFF },
   { off := Off.LCH.PORT_FRAME, ro := 0xFFFFFFFF },
   { off := Off.LCH.LATE_CNT, ro := 0xFFFFFFFF },
   { off := Off.LCH.SKIP_CNT, ro := 0xFFFFFFFF },
   { off := Off.LCH.FIRE_CNT, ro := 0xFFFFFFFF }]

/-- Registers of STAT page (R302, Table 16.6). -/
def RegMap.stat : List RegDef :=
  [{ off := Off.STAT.STAT_SEL, rw := 0x7F },
   { off := Off.STAT.STAT_CFG, rw := 0xC01F3FFF },
   { off := Off.STAT.RING_BASE_LO, rw := 0xFFFFFFFF },
   { off := Off.STAT.RING_BASE_HI, rw := 0x7F },
   { off := Off.STAT.RING_DEPTH, rw := 0xFFF },
   { off := Off.STAT.STAT_SEQ, ro := 0xFFFFFFFF, reset := 0x1 },
   { off := Off.STAT.STAT_CODE, ro := 0xFF00007F },
   { off := Off.STAT.REC_CNT, ro := 0xFFFFFFFF }]

/-- Registers of MEM page (R252, Table 13.5). -/
def RegMap.mem : List RegDef :=
  [{ off := Off.MEM.MEM_CFG, ro := 0xFB00FFFF },
   { off := Off.MEM.MEM_TOP, ro := 0xFFFFFFFF },
   { off := Off.MEM.TRAIN_STATE, ro := 0xFFFF000F },
   { off := Off.MEM.TRAIN_CTRL, rw := 0x80000000 },
   { off := Off.MEM.SCRUB_CTRL, rw := 0x8000FFFF, reset := 0x80000028 },
   { off := Off.MEM.ECC_CE_CNT, ro := 0xFFFFFFFF },
   { off := Off.MEM.ECC_UE_CNT, ro := 0xFFFFFFFF },
   { off := Off.MEM.SCRUB_LATE_CNT, ro := 0xFFFFFFFF },
   { off := Off.MEM.TRACK_CNT, ro := 0xFFFFFFFF }]

/-- Registers of HP page (R270, Table 14.10). -/
def RegMap.hp : List RegDef :=
  [{ off := Off.HP.HP_CFG, rw := 0xCFFFFFFF },
   { off := Off.HP.HP_STATE, ro := 0x8F000000 },
   { off := Off.HP.VMR_CFG, rw := 0x7F, reset := 0x7C },
   { off := Off.HP.INT_CTRL, rw := 0x8000FFFF },
   { off := Off.HP.INT_STATE, ro := 0xFFFF }]

/-- Registers of HC pages (R271, Table 14.11). -/
def RegMap.hc : List RegDef :=
  [{ off := Off.HC.HC_STATE, ro := 0xFFFFFF07 },
   { off := Off.HC.WR_SEQ, ro := 0xFFFFFFFF },
   { off := Off.HC.MARKER_CNT, ro := 0xFFFFFFFF },
   { off := Off.HC.LAST_MARK, ro := 0x1FFFFFFF },
   { off := Off.HC.IGNORED_CNT, ro := 0xFFFFFFFF },
   { off := Off.HC.LATE_CNT, ro := 0xFFFFFFFF },
   { off := Off.HC.ECC_CE_CNT, ro := 0xFFFFFFFF },
   { off := Off.HC.ECC_UE_CNT, ro := 0xFFFFFFFF },
   { off := Off.HC.LINK_ECC_CNT, ro := 0xFFFFFFFF },
   { off := Off.HC.REF_CNT, ro := 0xFFFFFFFF },
   { off := Off.HC.TRAIN_CNT, ro := 0xFFFFFFFF },
   { off := Off.HC.RING_CTRL0, rw := 0x80000000 },
   { off := Off.HC.RING_STATE0, w1c := 0x80000000, ro := 0x7F },
   { off := Off.HC.CPL_LOST0, ro := 0xFFFFFFFF },
   { off := Off.HC.CMD_REFUSE0, ro := 0xFFFFFFFF },
   { off := Off.HC.RING_CTRL1, rw := 0x80000000 },
   { off := Off.HC.RING_STATE1, w1c := 0x80000000, ro := 0x7F },
   { off := Off.HC.CPL_LOST1, ro := 0xFFFFFFFF },
   { off := Off.HC.CMD_REFUSE1, ro := 0xFFFFFFFF },
   { off := Off.HC.RING_CTRL2, rw := 0x80000000 },
   { off := Off.HC.RING_STATE2, w1c := 0x80000000, ro := 0x7F },
   { off := Off.HC.CPL_LOST2, ro := 0xFFFFFFFF },
   { off := Off.HC.CMD_REFUSE2, ro := 0xFFFFFFFF },
   { off := Off.HC.RING_CTRL3, rw := 0x80000000 },
   { off := Off.HC.RING_STATE3, w1c := 0x80000000, ro := 0x7F },
   { off := Off.HC.CPL_LOST3, ro := 0xFFFFFFFF },
   { off := Off.HC.CMD_REFUSE3, ro := 0xFFFFFFFF }]

/-- Registers of LNK page (R289, Table 15.8). -/
def RegMap.lnk : List RegDef :=
  [{ off := Off.LNK.LNK_CFG, rw := 0x800001FF, reset := 0x80000000 },
   { off := Off.LNK.E2E_CTRL, rw := 0xFFFFFFFF, reset := 0x138803E8 },
   { off := Off.LNK.DISC_STATE, ro := 0x83FF000F },
   { off := Off.LNK.STORE_LEVEL, ro := 0xFFFFFFFF },
   { off := Off.LNK.LNK_ERR, ro := 0xFF0001FF },
   { off := Off.LNK.RESEND_CNT, ro := 0xFFFFFFFF },
   { off := Off.LNK.LOST_CNT, ro := 0xFFFFFFFF },
   { off := Off.LNK.DUP_CNT, ro := 0xFFFFFFFF },
   { off := Off.LNK.NOROUTE_CNT, ro := 0xFFFFFFFF },
   { off := Off.LNK.HOP_DROP_CNT, ro := 0xFFFFFFFF },
   { off := Off.LNK.BAD_CNT, ro := 0xFFFFFFFF },
   { off := Off.LNK.ROUTE_CHG_CNT, ro := 0xFFFFFFFF }]

/-- Registers of DL pages (R290, Table 15.9). -/
def RegMap.dl : List RegDef :=
  [{ off := Off.DL.DL_CFG, rw := 0xFFC00000, reset := 0x57800000 },
   { off := Off.DL.DL_CMD, wo := 0xF, ro := 0xFF0000 },
   { off := Off.DL.DL_STATE, ro := 0xFFFC01FF },
   { off := Off.DL.LINK_DELAY, ro := 0xFFFFF },
   { off := Off.DL.LOSS_CTRL, rw := 0xFF00FFFF, reset := 0x80000C8 },
   { off := Off.DL.FEC_CE_CNT, ro := 0xFFFFFFFF },
   { off := Off.DL.FEC_UE_CNT, ro := 0xFFFFFFFF },
   { off := Off.DL.REPLAY_CNT, ro := 0xFFFFFFFF },
   { off := Off.DL.DOWN_CNT, ro := 0xFFFFFFFF },
   { off := Off.DL.TRAIN_CNT, ro := 0xFFFFFFFF },
   { off := Off.DL.TX_FLIT_CNT, ro := 0xFFFFFFFF },
   { off := Off.DL.RX_FLIT_CNT, ro := 0xFFFFFFFF },
   { off := Off.DL.FALLBACK_CNT, ro := 0xFFFFFFFF }]

/-- Registers of a ROUTE entry (R291, Table 15.10), offset from its entry. -/
def RegMap.route : List RegDef :=
  [{ off := Off.ROUTE.ROUTE_ENTRY, rw := 0xE3FF0000, ro := 0x1C000000 }]

/-- Registers of a span entry (R22, Tables 1.5 to 1.7), offsets from its entry. -/
def RegMap.spanEntry : List RegDef :=
  [{ off := Off.SPAN.SPAN_HDR, rw := 0x8FF00000 },
   { off := Off.SPAN.SPAN_CORES, ro := 0x7FFF },
   { off := Off.SPAN.SPAN_MEMB0, rw := 0xFFFFFFFF },
   { off := Off.SPAN.SPAN_MEMB1, rw := 0xFFFFFFFF },
   { off := Off.SPAN.SPAN_MEMB2, rw := 0xFFFFFFFF },
   { off := Off.SPAN.SPAN_MEMB3, rw := 0xFFFFFFFF },
   { off := Off.SPAN.SPAN_MEMB4, rw := 0xFFFFFFFF },
   { off := Off.SPAN.SPAN_MEMB5, rw := 0xFFFFFFFF },
   { off := Off.SPAN.SPAN_MEMB6, rw := 0xFFFFFFFF },
   { off := Off.SPAN.SPAN_MEMB7, rw := 0xFFFFFFFF },
   { off := Off.SPAN.SPAN_MEMB8, rw := 0xFFFFFFFF },
   { off := Off.SPAN.SPAN_MEMB9, rw := 0xFFFFFFFF },
   { off := Off.SPAN.SPAN_MEMB10, rw := 0xFFFFFFFF },
   { off := Off.SPAN.SPAN_MEMB11, rw := 0xFFFFFFFF },
   { off := Off.SPAN.SPAN_MEMB12, rw := 0xFFFFFFFF },
   { off := Off.SPAN.SPAN_MEMB13, rw := 0xFFFFFFFF }]

/-- Registers of SPAN0 (R22, Table 1.8). -/
def RegMap.span0 : List RegDef :=
  [{ off := Off.SPAN.SPAN_TBL, ro := 0xFF, reset := 0xF0 },
   { off := Off.SPAN.SPAN_ERR, ro := 0xFF0000FF }]

/-- Registers of GLZ pages (R239, Table 12.6). -/
def RegMap.glz : List RegDef :=
  [{ off := Off.GLZ.CTX_SEL, rw := 0xF },
   { off := Off.GLZ.CTX_CMD, wo := 0x3, ro := 0x80FF0000 },
   { off := Off.GLZ.C_IN, rw := 0xFFFFFF00 },
   { off := Off.GLZ.C_OFS, rw := 0x7FFFFFF },
   { off := Off.GLZ.C_SIZE, rw := 0x3FFF3FFF },
   { off := Off.GLZ.C_FMT, rw := 0xFF003FFF },
   { off := Off.GLZ.C_MAT0, rw := 0xFFFFFFFF },
   { off := Off.GLZ.C_MAT1, rw := 0xFFFFFFFF },
   { off := Off.GLZ.C_MAT2, rw := 0xFFFFFFFF },
   { off := Off.GLZ.C_MAT3, rw := 0xFFFFFFFF },
   { off := Off.GLZ.C_MAT4, rw := 0xFFFF },
   { off := Off.GLZ.C_OFF0, rw := 0x1FFFF },
   { off := Off.GLZ.C_OFF1, rw := 0x1FFFF },
   { off := Off.GLZ.C_OFF2, rw := 0x1FFFF },
   { off := Off.GLZ.C_BASE_LO, rw := 0xFFFFFFFF },
   { off := Off.GLZ.C_BASE_HI, rw := 0xFFFF },
   { off := Off.GLZ.C_PITCH, rw := 0xFFFFFFFF },
   { off := Off.GLZ.C_RING, rw := 0xF00000FF },
   { off := Off.GLZ.C_HOLD, rw := 0xFFFFFFFF, reset := 0x186A0 },
   { off := Off.GLZ.COEF_SEL, rw := 0x1FF },
   { off := Off.GLZ.COEF_DATA, rw := 0x3FF },
   { off := Off.GLZ.GLZ_STATE, ro := 0xFFFFFF },
   { off := Off.GLZ.PIX_CNT, ro := 0xFFFFFFFF },
   { off := Off.GLZ.OVR_CNT, ro := 0xFFFFFFFF },
   { off := Off.GLZ.ABANDON_CNT, ro := 0xFFFFFFFF },
   { off := Off.GLZ.REFUSE_CNT, ro := 0xFFFFFFFF }]

/-- Registers of MGT page (R322, Table 18.2). -/
def RegMap.mgt : List RegDef :=
  [{ off := Off.MGT.PACE_CTRL, rw := 0x80FFFFFF, reset := 0x52710 },
   { off := Off.MGT.PACE_LAG, rw := 0xFFFFFFFF, reset := 0x177007D0 },
   { off := Off.MGT.VLIMIT, rw := 0xFFFFFFFF, reset := 0x3700258 },
   { off := Off.MGT.VSET, rw := 0xFFFF, reset := 0x2EE },
   { off := Off.MGT.VNOW, ro := 0xFFFFFFFF, reset := 0x2EE },
   { off := Off.MGT.LAG_NOW, ro := 0x1FFFFF },
   { off := Off.MGT.THERM, rw := 0xFFFF, reset := 0x6469 },
   { off := Off.MGT.POWER, rw := 0xFF000000, ro := 0xFFFF, reset := 0x55000000 },
   { off := Off.MGT.FW_STATE, ro := 0xE0000000 },
   { off := Off.MGT.FW_VER, ro := 0xFFFFFFFF },
   { off := Off.MGT.FW_FLOOR, ro := 0xFFFFFFFF },
   { off := Off.MGT.FW_SRC_LO, rw := 0xFFFFFFFF },
   { off := Off.MGT.FW_SRC_HI, rw := 0x7F },
   { off := Off.MGT.MGT_CMD, wo := 0x3, ro := 0xFF0000 }]

/-- Registers of CFG page (R339, Table 18.8). -/
def RegMap.cfg : List RegDef :=
  [{ off := Off.CFG.CFG_STATE, ro := 0xE0FF0000 },
   { off := Off.CFG.ACTIVE_VER, ro := 0xFFFFFFFF },
   { off := Off.CFG.PREV_VER, ro := 0xFFFFFFFF },
   { off := Off.CFG.STAGED_VER, ro := 0xFFFFFFFF },
   { off := Off.CFG.SET_FLOOR, ro := 0xFFFFFFFF },
   { off := Off.CFG.CFG_SRC_LO, rw := 0xFFFFFFFF },
   { off := Off.CFG.CFG_SRC_HI, rw := 0x7F },
   { off := Off.CFG.CFG_CMD, wo := 0x3 },
   { off := Off.CFG.COVERED, ro := 0xFFFFFF },
   { off := Off.CFG.APPLY_TIME_LO, ro := 0xFFFFFFFF },
   { off := Off.CFG.APPLY_TIME_HI, ro := 0xFFFFFFFF },
   { off := Off.CFG.APPLY_CNT, ro := 0xFFFFFFFF }]

/-- Registers of PWR page (R353, Table 19.8). -/
def RegMap.pwr : List RegDef :=
  [{ off := Off.PWR.PD_REQ_LO, rw := 0xFFFFFFFF },
   { off := Off.PWR.PD_REQ_HI, rw := 0xFF },
   { off := Off.PWR.PD_ON_LO, ro := 0xFFFFFFFF },
   { off := Off.PWR.PD_ON_HI, ro := 0xFF },
   { off := Off.PWR.PD_FAIL_LO, w1c := 0xFFFFFFFF },
   { off := Off.PWR.PD_FAIL_HI, w1c := 0xFF },
   { off := Off.PWR.PWR_CMD, wo := 0x3, ro := 0xFF0000 },
   { off := Off.PWR.RST_CAUSE, ro := 0x7 },
   { off := Off.PWR.BOOT_TIME, ro := 0xFFFF },
   { off := Off.PWR.SWITCH_CNT, ro := 0xFFFFFFFF }]

/-- Registers of CAL page (R354, Table 19.9). -/
def RegMap.cal : List RegDef :=
  [{ off := Off.CAL.CAL_STATE, ro := 0xC000003F },
   { off := Off.CAL.CAL_CTRL, rw := 0x1 },
   { off := Off.CAL.FIRE_TIME, ro := 0xFFFF },
   { off := Off.CAL.FIRE_CNT, ro := 0xFFFFFFFF }]

/-- Registers of a doorbell block (R266, Table 14.7). -/
def RegMap.doorbell : List RegDef :=
  [{ off := Off.DB.CMD_TAIL, rw := 0xFFFFFFFF },
   { off := Off.DB.CMD_HEAD, ro := 0xFFFFFFFF },
   { off := Off.DB.CPL_TAIL, ro := 0xFFFFFFFF },
   { off := Off.DB.CPL_HEAD, rw := 0xFFFFFFFF },
   { off := Off.DB.SEQ, ro := 0xFFFFFFFF },
   { off := Off.DB.CODE, ro := 0xFF000001 }]

/-- Registers of the common header (R296, Table 16.1). -/
def RegMap.header : List RegDef :=
  [{ off := Off.HDR.PAGE_ID, ro := 0xFF000FFF },
   { off := Off.HDR.PAGE_VER, ro := 0xFFFF, reset := 0x100 },
   { off := Off.HDR.CAPS0, ro := 0xFFFFFFFF },
   { off := Off.HDR.CAPS1, ro := 0xFFFFFFFF },
   { off := Off.HDR.CTRL, rw := 0x1, reset := 0x1 },
   { off := Off.HDR.STATUS, ro := 0xC0000000 },
   { off := Off.HDR.FAULT_SUM, w1c := 0xFFFFFFFF },
   { off := Off.HDR.FAULT_EN, rw := 0xFFFFFFFF, reset := 0xFFFFFFFF },
   { off := Off.HDR.FAULT_ADDR_LO, ro := 0xFFFFFFFF },
   { off := Off.HDR.FAULT_ADDR_HI, w1c := 0x80000000, ro := 0xFFFF },
   { off := Off.HDR.EVENT_CNT, ro := 0xFFFFFFFF },
   { off := Off.HDR.SCALE, ro := 0xFFFFFFFF }]

/-- Registers of the LOG page (list after R323). -/
def RegMap.log : List RegDef :=
  [{ off := Off.LOG.HEAD, ro := 0xFFFFFFFF, reset := 1 },
   { off := Off.LOG.IDX, rw := 0xFFFFFFFF },
   { off := Off.LOG.LOST_CNT, ro := 0xFFFFFFFF },
   { off := Off.LOG.LOSTREC_CNT, ro := 0xFFFFFFFF },
   { off := Off.LOG.ENTRY0, ro := 0xFFFFFFFF },
   { off := Off.LOG.ENTRY1, ro := 0xFFFFFFFF },
   { off := Off.LOG.ENTRY2, ro := 0xFFFFFFFF },
   { off := Off.LOG.ENTRY3, ro := 0xFFFFFFFF },
   { off := Off.LOG.ENTRY4, ro := 0xFFFFFFFF },
   { off := Off.LOG.ENTRY5, ro := 0xFFFFFFFF },
   { off := Off.LOG.ENTRY6, ro := 0xFFFFFFFF },
   { off := Off.LOG.ENTRY7, ro := 0xFFFFFFFF }]

/-- Registers of the SEC page (list after R340; places of bits inside the command registers: log entry 6). -/
def RegMap.sec : List RegDef :=
  [{ off := Off.SEC.IDKEY_FP0, ro := 0xFFFFFFFF },
   { off := Off.SEC.IDKEY_FP1, ro := 0xFFFFFFFF },
   { off := Off.SEC.IDKEY_FP2, ro := 0xFFFFFFFF },
   { off := Off.SEC.IDKEY_FP3, ro := 0xFFFFFFFF },
   { off := Off.SEC.IDKEY_FP4, ro := 0xFFFFFFFF },
   { off := Off.SEC.IDKEY_FP5, ro := 0xFFFFFFFF },
   { off := Off.SEC.IDKEY_FP6, ro := 0xFFFFFFFF },
   { off := Off.SEC.IDKEY_FP7, ro := 0xFFFFFFFF },
   { off := Off.SEC.OWNER_FP0, ro := 0xFFFFFFFF },
   { off := Off.SEC.OWNER_FP1, ro := 0xFFFFFFFF },
   { off := Off.SEC.OWNER_FP2, ro := 0xFFFFFFFF },
   { off := Off.SEC.OWNER_FP3, ro := 0xFFFFFFFF },
   { off := Off.SEC.OWNER_FP4, ro := 0xFFFFFFFF },
   { off := Off.SEC.OWNER_FP5, ro := 0xFFFFFFFF },
   { off := Off.SEC.OWNER_FP6, ro := 0xFFFFFFFF },
   { off := Off.SEC.OWNER_FP7, ro := 0xFFFFFFFF },
   { off := Off.SEC.NONCE0, rw := 0xFFFFFFFF },
   { off := Off.SEC.NONCE1, rw := 0xFFFFFFFF },
   { off := Off.SEC.NONCE2, rw := 0xFFFFFFFF },
   { off := Off.SEC.NONCE3, rw := 0xFFFFFFFF },
   { off := Off.SEC.NONCE4, rw := 0xFFFFFFFF },
   { off := Off.SEC.NONCE5, rw := 0xFFFFFFFF },
   { off := Off.SEC.NONCE6, rw := 0xFFFFFFFF },
   { off := Off.SEC.NONCE7, rw := 0xFFFFFFFF },
   { off := Off.SEC.ATT_DST_LO, rw := 0xFFFFFFFF },
   { off := Off.SEC.ATT_DST_HI, rw := 0x7F },
   { off := Off.SEC.ATT_CMD, wo := 0x3, ro := 0x80FF0000 },
   { off := Off.SEC.OWNER_SRC_LO, rw := 0xFFFFFFFF },
   { off := Off.SEC.OWNER_SRC_HI, rw := 0x7F },
   { off := Off.SEC.OWNER_CMD, wo := 0x3, ro := 0xFF0000 }]

/-- Registers of the MON page (R317; window layout and reset: log entry 6). -/
def RegMap.mon : List RegDef :=
  (List.range 40).map (fun n => { off := Off.MON.TEMP0 + 4 * n, ro := 0xFFFF }) ++
  ((List.range 16).map (fun m => { off := Off.MON.VOLT0 + 4 * m, ro := 0xFFFF }) ++
   (List.range 16).map (fun m => { off := Off.MON.WINDOW0 + 4 * m, rw := 0xFFFFFFFF, reset := 0xFFFF0000 }))

/-- Kind code (Table 16.2) of a page index, with its number of instances and the instance; doorbell blocks (R266)
are kept at pseudo-pages 0x400 + n, which no page index of Table 16.2 uses. -/
def RegMap.kindOf (p : Nat) : Option (Nat × Nat × Nat) :=
  if p = 0 then some (1, 1, 0)
  else if p ≤ 8 then some (2, 8, p - 1)
  else if 0x010 ≤ p ∧ p ≤ 0x02F then some (3, 32, p - 0x010)
  else if 0x040 ≤ p ∧ p ≤ 0x057 then some (4, 24, p - 0x040)
  else if p = 0x060 then some (5, 1, 0)
  else if 0x061 ≤ p ∧ p ≤ 0x064 then some (6, 4, p - 0x061)
  else if 0x070 ≤ p ∧ p ≤ 0x07F then some (7, 16, p - 0x070)
  else if p = 0x080 then some (8, 1, 0)
  else if p = 0x081 then some (9, 1, 0)
  else if p = 0x090 then some (0x0A, 1, 0)
  else if 0x091 ≤ p ∧ p ≤ 0x098 then some (0x0B, 8, p - 0x091)
  else if p = 0x0A0 then some (0x0C, 1, 0)
  else if 0x0A1 ≤ p ∧ p ≤ 0x0A4 then some (0x0D, 4, p - 0x0A1)
  else if p = 0x0B0 then some (0x0E, 1, 0)
  else if 0x0B1 ≤ p ∧ p ≤ 0x0B8 then some (0x0F, 8, p - 0x0B1)
  else if p = 0x0B9 then some (0x10, 1, 0)
  else if 0x0C0 ≤ p ∧ p ≤ 0x0C4 then some (0x11, 5, p - 0x0C0)
  else if 0x0D0 ≤ p ∧ p ≤ 0x0D7 then some (0x12, 8, p - 0x0D0)
  else if p = 0x0E0 then some (0x13, 1, 0)
  else if p = 0x0E1 then some (0x14, 1, 0)
  else if p = 0x0E2 then some (0x15, 1, 0)
  else if p = 0x0E3 then some (0x16, 1, 0)
  else if p = 0x0E4 then some (0x17, 1, 0)
  else if p = 0x0F0 then some (0x18, 1, 0)
  else if p = 0x0F1 then some (0x19, 1, 0)
  else if 0x100 ≤ p ∧ p ≤ 0x10B then some (0x1A, 12, p - 0x100)
  else none

/-- Every page index of Table 16.2. -/
def RegMap.pages : List Nat := (List.range 0x10C).filter fun p => (RegMap.kindOf p).isSome

/-- The register definition at an offset of a list. -/
def RegMap.at (l : List RegDef) (off : Nat) : Option RegDef := l.find? fun d => d.off == off

/-- The definition of the register at an offset of a page: the common header below 0x100 (R296), the page's own map
above it. Race entries lie 128 bytes apart (R194), span entries 64 bytes apart (R22), route entries 4 (R291). -/
def RegMap.lookup (p off : Nat) : Option RegDef :=
  if 0x400 ≤ p ∧ p < 0x410 then RegMap.at RegMap.doorbell off
  else match RegMap.kindOf p with
  | none => none
  | some (k, _, i) =>
    if off < 0x100 then RegMap.at RegMap.header off
    else match k with
    | 1 => RegMap.at RegMap.dev off
    | 2 => RegMap.at RegMap.grp off
    | 3 => RegMap.at RegMap.core off
    | 4 => RegMap.at RegMap.sp off
    | 5 => RegMap.at RegMap.weir off
    | 6 => if off < 0x900 then RegMap.at RegMap.raceEntry ((off - 0x100) % 128) else none
    | 7 => RegMap.at RegMap.tally off
    | 8 => RegMap.at RegMap.lch off
    | 9 => RegMap.at RegMap.stat off
    | 0x0A => RegMap.at RegMap.mem off
    | 0x0C => RegMap.at RegMap.hp off
    | 0x0D => RegMap.at RegMap.hc off
    | 0x0E => RegMap.at RegMap.lnk off
    | 0x0F => RegMap.at RegMap.dl off
    | 0x10 => if off < 0x900 then RegMap.at RegMap.route ((off - 0x100) % 4) else none
    | 0x11 => if i = 0 then RegMap.at RegMap.span0 off
              else RegMap.at RegMap.spanEntry ((off - 0x100) % 64)
    | 0x12 => RegMap.at RegMap.glz off
    | 0x13 => RegMap.at RegMap.mgt off
    | 0x14 => RegMap.at RegMap.mon off
    | 0x15 => RegMap.at RegMap.log off
    | 0x16 => RegMap.at RegMap.sec off
    | 0x17 => RegMap.at RegMap.cfg off
    | 0x18 => RegMap.at RegMap.pwr off
    | 0x19 => RegMap.at RegMap.cal off
    | _ => none

/-- Key of register `off` of page `p`, copy `bank` (a glaze context, a statistics stream, an exposure port; else 0). -/
def RegMap.key (p off : Nat) (bank : Nat := 0) : Nat := bank * 2 ^ 24 + p * 0x1000 + off

/-- Reset value of the header words that differ from page to page (R296, Table 16.2; DEV and CORE state their CAPS). -/
def RegMap.headerReset (p off : Nat) : Option Nat :=
  match RegMap.kindOf p with
  | none => none
  | some (k, n, i) =>
    if off = Off.HDR.PAGE_ID then some (k * 2 ^ 24 + p)
    else if off = Off.HDR.SCALE then some (n * 2 ^ 16 + i)
    else if off = Off.HDR.CAPS0 then some (if k = 1 then 0x20180808 else if k = 3 then 0x40000820 else 0)
    else if off = Off.HDR.CAPS1 then some (if k = 1 then 0x40004008 else if k = 3 then 0x0400060F else 0)
    else none

/-- Reset value of a register (the field maps of the block chapters). -/
def RegMap.resetOf (key : Nat) : W32 :=
  let p := key / 0x1000 % 0x1000
  let off := key % 0x1000
  match RegMap.headerReset p off with
  | some v => BitVec.ofNat 32 v
  | none => match RegMap.lookup p off with
    | some d => BitVec.ofNat 32 d.reset
    | none => 0

end Sys2Proof.Machine
end

