-- ==== Sys2Proof/Machine/State.lean ====
section
/-! DEFINITION. The state of the device, what stops a command, and the device right after a cold reset. -/
namespace Sys2Proof.Machine

/-- The device stops with a fault. -/
inductive Fault where
  /-- A command names an address that Table 1.2 reserves and to which the spec gives no outcome. Raised by no command of this
  model at present: every access is checked first and refused as its rule says. Safe. -/
  | reservedAddress
deriving DecidableEq, Repr

/-- No meaning for a command. -/
inductive Refusal where
  /-- Raised by Dispatch alone for a command that has no meaning yet. Safe. -/
  | notModelled (mnemonic : String)
deriving DecidableEq, Repr

/-- The state of one AZ2432. -/
structure State where
  /-- commands that wait, first in, first out (the model's own) -/
  pending : List Instr
  /-- the register file: values of page registers at `RegMap.key`, at their reset value where not listed (R9) -/
  regs : SMap W32
  /-- bytes of the local address map (R14) -/
  mem : List Host.Cell
  /-- bytes of ring SRAM of HC0 to HC3 at channel * 0x10_0000 + offset from channel address 0x0100_0000 (R260) -/
  ringMem : List Host.Cell
  /-- uncorrectable words -/
  ue : List EccLoc
  /-- correctable words -/
  ce : List EccLoc
  /-- counter of free values (the model's own, log entry 3) -/
  free : Nat
  /-- answer of the last read (the model's own, log entry 4) -/
  out : List W32
  /-- next key for jobs, items, queue entries and transfers (the model's own, log entry 4) -/
  nextKey : Nat
  /-- number of the start that unwritten LPDDR5X contents belong to (the model's own, log entry 5) -/
  memEpoch : Nat
  /-- order in which quanta became ready (R26) (the model's own, log entry 4) -/
  readySeq : Nat
  rig : Rig
  launch : Launch
  ports : List Port
  buses : List Bus
  cores : List Core
  /-- tally values and STRICT attributes (R145) -/
  tval : SMap W32
  tstrict : SMap Bool
  /-- lanes at 32 race + core (R181) -/
  lanes : SMap Lane
  /-- multicast: sent count at 16 race + member, and the frame up to which a member is pruned (R189, R190) -/
  mcSent : SMap W32
  mcPruned : SMap (Option W32)
  stripes : List Stripe
  miss : List (Option Miss)
  /-- races that are blocked now (R188) -/
  blocked : List Nat
  jobs : List Job
  /-- records waiting for ring space, per ring (R267) -/
  cplPend : SMap (List Rec)
  glz : List Glz
  memChans : List MemChan
  memPass : ScrubPass
  chans : List Chan
  links : Links
  mgmt : Mgmt
  log : LogSt
  mram : Mram
  flash : Flash
  /-- fuses: fingerprint of the tray key, none while blank (Table 18.6) -/
  trayFp : Option (List Byte)
  power : Power
deriving DecidableEq, Repr

/-- The device right after a cold reset, PORST_n low (R346): every register at its reset value, every domain off, rig time FREE
at 0. Values that no rule gives: log entries 1 and 2. Nothing runs until PORST_N_RELEASE and MC_BOOT (log entry 10). -/
def State.reset : State :=
  { pending := [], regs := [], mem := [], ringMem := [], ue := [], ce := [], free := 0, out := [], nextKey := 0,
    memEpoch := 0, readySeq := 0, rig := {}, launch := {}, ports := List.replicate 24 Port.reset,
    buses := List.replicate 12 {}, cores := List.replicate 32 Core.reset, tval := [], tstrict := [], lanes := [],
    mcSent := [], mcPruned := [], stripes := [], miss := List.replicate 16 none, blocked := [], jobs := [],
    cplPend := [], glz := List.replicate 8 {}, memChans := List.replicate 8 {}, memPass := {}, chans := List.replicate 4 {},
    links := Links.reset, mgmt := {}, log := {}, mram := {}, flash := {}, trayFp := none, power := {} }

end Sys2Proof.Machine
end

