-- ==== Sys2Proof/Machine/Ops.lean ====
section
/-! DEFINITION. The named operations over registers, memory, faults, the event log, rig time and the parts of State. Every
meaning is written with them. -/
namespace Sys2Proof.Machine

/-- The outcome of a command. -/
abbrev Out := Host.Outcome State Fault Refusal

/-! ## Page indices (Table 16.2) -/

abbrev Pg.DEV : Nat := 0x000
abbrev Pg.GRP (g : Nat) : Nat := 0x001 + g
abbrev Pg.CORE (c : Nat) : Nat := 0x010 + c
abbrev Pg.SP (n : Nat) : Nat := 0x040 + n
abbrev Pg.WEIR : Nat := 0x060
abbrev Pg.RACE (r : Nat) : Nat := 0x061 + r / 16
abbrev Pg.TALLY (t : Nat) : Nat := 0x070 + t / 1024
abbrev Pg.LCH : Nat := 0x080
abbrev Pg.STAT : Nat := 0x081
abbrev Pg.MEM : Nat := 0x090
abbrev Pg.HP : Nat := 0x0A0
abbrev Pg.HC (h : Nat) : Nat := 0x0A1 + h
abbrev Pg.LNK : Nat := 0x0B0
abbrev Pg.DL (d : Nat) : Nat := 0x0B1 + d
abbrev Pg.ROUTE : Nat := 0x0B9
abbrev Pg.SPAN0 : Nat := 0x0C0
abbrev Pg.SPAN (e : Nat) : Nat := 0x0C1 + e / 60
abbrev Pg.GLZ (g : Nat) : Nat := 0x0D0 + g
abbrev Pg.MGT : Nat := 0x0E0
abbrev Pg.MON : Nat := 0x0E1
abbrev Pg.LOG : Nat := 0x0E2
abbrev Pg.SEC : Nat := 0x0E3
abbrev Pg.CFG : Nat := 0x0E4
abbrev Pg.PWR : Nat := 0x0F0
abbrev Pg.CAL : Nat := 0x0F1
/-- Doorbell block of ring n (Table 14.7). -/
abbrev Pg.DB (n : Nat) : Nat := 0x400 + n

/-- Block offset of register `o` of race r (R178). -/
def raceOff (r o : Nat) : Nat := 0x100 + 128 * (r % 16) + o
/-- Block offset of register `o` of span entry e. -/
def spanOff (e o : Nat) : Nat := 0x100 + 64 * (e % 60) + o

/-! ## Registers -/

/-- The value a page register holds. -/
def State.rd (s : State) (p off : Nat) (bank : Nat := 0) : W32 := SMap.get RegMap.resetOf s.regs (RegMap.key p off bank)

/-- A page register given a value. -/
def State.wr (s : State) (p off : Nat) (v : W32) (bank : Nat := 0) : State :=
  { s with regs := SMap.set RegMap.resetOf s.regs (RegMap.key p off bank) v }

/-- Field [hi:lo] of a page register. -/
def State.rdF (s : State) (p off hi lo : Nat) (bank : Nat := 0) : Nat := fld (s.rd p off bank) hi lo

/-- Bit i of a page register. -/
def State.rdB (s : State) (p off i : Nat) (bank : Nat := 0) : Bool := bit (s.rd p off bank) i

/-- Field [hi:lo] of a page register given a value. -/
def State.wrF (s : State) (p off hi lo v : Nat) (bank : Nat := 0) : State := s.wr p off (setFld (s.rd p off bank) hi lo v) bank

/-- A counter raised, saturating at 0xFFFF_FFFF. -/
def State.bump (s : State) (p off : Nat) (by_ : Nat := 1) : State := s.wr p off (satInc (s.rd p off) by_)

/-- Register `o` of the descriptor of race r (R194). -/
def State.rdRace (s : State) (r o : Nat) : W32 := s.rd (Pg.RACE r) (raceOff r o)
def State.wrRace (s : State) (r o : Nat) (v : W32) : State := s.wr (Pg.RACE r) (raceOff r o) v
def State.bumpRace (s : State) (r o : Nat) (by_ : Nat := 1) : State := s.bump (Pg.RACE r) (raceOff r o) by_

/-! ## Parts of the state -/

def State.core (s : State) (c : Nat) : Core := s.cores.getD c Core.reset
def State.modCore (s : State) (c : Nat) (f : Core → Core) : State := { s with cores := modNth f s.cores c }
def State.port (s : State) (n : Nat) : Port := s.ports.getD n Port.reset
def State.modPort (s : State) (n : Nat) (f : Port → Port) : State := { s with ports := modNth f s.ports n }
def State.bus (s : State) (k : Nat) : Bus := s.buses.getD k {}
def State.modBus (s : State) (k : Nat) (f : Bus → Bus) : State := { s with buses := modNth f s.buses k }
def State.chan (s : State) (h : Nat) : Chan := s.chans.getD h {}
def State.modChan (s : State) (h : Nat) (f : Chan → Chan) : State := { s with chans := modNth f s.chans h }
def State.link (s : State) (d : Nat) : LinkPort := s.links.ports.getD d {}
def State.modLink (s : State) (d : Nat) (f : LinkPort → LinkPort) : State :=
  { s with links := { s.links with ports := modNth f s.links.ports d } }
def State.glaze (s : State) (g : Nat) : Glz := s.glz.getD g {}
def State.modGlaze (s : State) (g : Nat) (f : Glz → Glz) : State := { s with glz := modNth f s.glz g }
def Port.stream (p : Port) (i : Nat) : Stream := p.streams.getD i {}
def Port.modStream (p : Port) (i : Nat) (f : Stream → Stream) : Port := { p with streams := modNth f p.streams i }
def State.lane (s : State) (r c : Nat) : Lane := SMap.get (fun _ => {}) s.lanes (32 * r + c)
def State.setLane (s : State) (r c : Nat) (l : Lane) : State := { s with lanes := SMap.set (fun _ => {}) s.lanes (32 * r + c) l }
def State.outStream (s : State) (d : Nat) : OutStream := SMap.get (fun _ => {}) s.links.out d
def State.setOutStream (s : State) (d : Nat) (o : OutStream) : State :=
  { s with links := { s.links with out := SMap.set (fun _ => {}) s.links.out d o } }
def State.inStream (s : State) (d : Nat) : InStream := SMap.get (fun _ => {}) s.links.inn d
def State.setInStream (s : State) (d : Nat) (o : InStream) : State :=
  { s with links := { s.links with inn := SMap.set (fun _ => {}) s.links.inn d o } }
/-- The value of a tally (R145). -/
def State.tally (s : State) (t : Nat) : W32 := SMap.get (fun _ => 0) s.tval t
def State.setTally (s : State) (t : Nat) (v : W32) : State := { s with tval := SMap.set (fun _ => 0) s.tval t v }
/-- STRICT of a tally (R155). -/
def State.strict (s : State) (t : Nat) : Bool := SMap.get (fun _ => false) s.tstrict t
def State.setStrict (s : State) (t : Nat) (b : Bool) : State := { s with tstrict := SMap.set (fun _ => false) s.tstrict t b }

/-- This device's ID. -/
def State.devId (s : State) : Nat := s.rdF Pg.LNK Off.LNK.LNK_CFG 8 0

/-- Unit ID (Table 1.1). -/
def unitIdOf (kind dev idx : Nat) : Nat := kind * 2 ^ 22 + dev * 2 ^ 13 + idx
def State.coreUnit (s : State) (c : Nat) : Nat := unitIdOf 0 s.devId c
def unitKind (u : Nat) : Nat := u / 2 ^ 22 % 4
def unitDev (u : Nat) : Nat := u / 2 ^ 13 % 512
def unitIdx (u : Nat) : Nat := u % 2 ^ 13
/-- A unit ID names a unit when its index is in the range of its kind (R12). -/
def unitNamed (u : Nat) : Bool :=
  decide (u < 2 ^ 24) &&
  match unitKind u with
  | 0 => decide (unitIdx u < 32)
  | 1 => decide (unitIdx u < 8)
  | 2 => decide (unitIdx u = 0)
  | _ => decide (unitIdx u < 240)

/-- A core in IDLE or RUN is in service (R107). -/
def Core.inService (k : Core) : Bool := k.st == .idle || k.st == .run

/-- Encoding of a core state (Table 5.7). -/
def CoreSt.code : CoreSt → Nat
  | .off => 0 | .idle => 1 | .run => 2 | .out => 3

/-- Encoding of a port state (Table 2.3). -/
def PortSt.code : PortSt → Nat
  | .off => 0 | .idle => 1 | .probing => 2 | .training => 3 | .ready => 4 | .stream => 5 | .stopping => 6 | .lost => 7

/-- Encoding of a lane state (Table 9.2). -/
def LaneSt.code : LaneSt → Nat
  | .free => 0 | .opened => 1 | .bound => 2 | .ended => 3

/-- Encoding of a window state (Table 8.1). -/
def WinSt.code : WinSt → Nat
  | .closed => 0 | .opened => 1 | .closing => 2

/-- Encoding of a link port state (Table 15.2). -/
def LinkSt.code : LinkSt → Nat
  | .off => 0 | .down => 1 | .training => 2 | .up => 3 | .reneg => 4

/-- Encoding of a host channel state (Table 14.11). -/
def HcSt.code : HcSt → Nat
  | .off => 0 | .wait => 1 | .train => 2 | .run => 3 | .sref => 4 | .pdn => 5

/-- Encoding of a rig time state (Table 3.1). -/
def TimeSt.code : TimeSt → Nat
  | .free => 0 | .locking => 1 | .sync => 2 | .holdover => 3 | .slew => 4

/-- Encoding of a configuration state (Table 18.8). -/
def CfgSt.code : CfgSt → Nat
  | .idle => 0 | .loading => 1 | .staged => 2 | .applying => 3

/-! ## Status codes (Table 0.5) -/

abbrev ST.OK : Nat := 0x00
abbrev ST.ZERO : Nat := 0x01
abbrev ST.STATE : Nat := 0x10
abbrev ST.SHAPE_OVER : Nat := 0x11
abbrev ST.CAPACITY : Nat := 0x12
abbrev ST.BAD_DESC : Nat := 0x13
abbrev ST.ECC_UNCORR : Nat := 0x20
abbrev ST.DEADLOCK : Nat := 0x21
abbrev ST.RACE_DEADLOCK : Nat := 0x22
abbrev ST.MISSED : Nat := 0x23
abbrev ST.LINK_LOST : Nat := 0x24
abbrev ST.BOUNDS : Nat := 0x25
abbrev ST.DROPPED_FRAME : Nat := 0x26
abbrev ST.CORE_LOST : Nat := 0x27
abbrev ST.AUTH_FAIL : Nat := 0x30
abbrev ST.VERSION : Nat := 0x31

/-! ## Keys, free values, answers (the model's own) -/

/-- A fresh key. -/
def State.newKey (s : State) : Nat × State := (s.nextKey, { s with nextKey := s.nextKey + 1 })

/-- The number of the next free value. -/
def State.newFree (s : State) : Nat × State := (s.free, { s with free := s.free + 1 })

/-! ## Rig time (R48) -/

def State.now (s : State) : W64 := s.rig.t

/-- An event at rig time `t` (log entry 11): rig time has moved on to `t`. None where `t` has passed already, or where the
count is held or has not begun. -/
def State.advanceTo (s : State) (t : W64) : Option State :=
  if t = s.rig.t then some s
  else if !s.rig.counting then none
  else match s.rig.load with
  | some v => if s.rig.t < v ∧ v ≤ t then some { s with rig := { s.rig with t := t, hold := none, load := none } } else none
  | none => if s.rig.t < t ∧ s.rig.hold = none then some { s with rig := { s.rig with t := t } } else none

/-- A command whose event occurs at rig time `t`: `f` on the device at that time, nothing where the time cannot be. -/
def State.atTime (s : State) (t : W64) (f : State → State) : State :=
  match s.advanceTo t with
  | some s' => f s'
  | none => s

/-- More than `n` periods of rig time since `t0`. -/
def State.later (s : State) (t0 : W64) (n : Nat) : Bool := decide (s.rig.t.toNat > t0.toNat + n)

/-! ## Memory (R8, R14) -/

/-- First address after the LPDDR5X range of Table 1.2. -/
abbrev lpddrEnd : Nat := 0x1000000000
abbrev spBase : Nat := 0x4000000000
abbrev wsBase : Nat := 0x4800000000
abbrev hopBase : Nat := 0x5000000000
abbrev hwBase : Nat := 0x5800000000
abbrev pageBase : Nat := 0x7F00000000

/-- What an unlisted address reads as: an LPDDR5X byte not written since the start is a free value (R378); every other
store reads 0 (R161, R378; hoppers: log entry 5). -/
def memDefault (epoch a : Nat) : Byte := if a < lpddrEnd then Config.lpddrInit epoch a else 0

/-- One byte of the local map. -/
def memGet (m : List Host.Cell) (epoch a : Nat) : Byte := SMap.get (memDefault epoch) m a

/-- One byte written: LPDDR5X bytes written since the start are always listed, elsewhere a 0 is not. -/
def memPut (m : List Host.Cell) (a : Nat) (v : Byte) : List Host.Cell :=
  if a < lpddrEnd then SMap.put m a v else SMap.set (fun _ => 0) m a v

/-- Canonical form: addresses strictly rising, no listed 0 outside LPDDR5X. -/
def memWf (m : List Host.Cell) : Bool :=
  SMap.rising 0 m && m.all fun p => decide (p.1 < lpddrEnd) || decide (p.2 ≠ 0)

def State.byte (s : State) (a : Nat) : Byte := memGet s.mem s.memEpoch a

/-- n bytes from address a on. -/
def State.bytes (s : State) (a : Nat) : Nat → List Byte
  | 0 => []
  | n + 1 => s.byte a :: s.bytes (a + 1) n

/-- Bytes written from address a on. -/
def memPutAll (m : List Host.Cell) : Nat → List Byte → List Host.Cell
  | _, [] => m
  | a, b :: bs => memPutAll (memPut m a b) (a + 1) bs

def State.putBytes (s : State) (a : Nat) (bs : List Byte) : State := { s with mem := memPutAll s.mem a bs }

/-- Bytes written under a mask: none leaves a byte as it is. -/
def memPutMask (m : List Host.Cell) : Nat → List (Option Byte) → List Host.Cell
  | _, [] => m
  | a, none :: bs => memPutMask m (a + 1) bs
  | a, some b :: bs => memPutMask (memPut m a b) (a + 1) bs

/-- A 32-bit word of the local map. -/
def State.word (s : State) (a : Nat) : W32 := BitVec.ofNat 32 (ofBytes (s.bytes a 4))

/-- Byte address of row r of core c's scratchpad (R160); row numbers wrap at 16,384. -/
def rowAddr (c r : Nat) : Nat := spBase + c * 0x400000 + 256 * (r % 16384)

/-- Byte address of row r of half h of core c's weight store (R175). -/
def wsAddr (c h r : Nat) : Nat := wsBase + c * 0x80000 + h * 0x40000 + 256 * r

/-- Ring SRAM: byte at channel h, offset o from channel address 0x0100_0000. -/
def State.ringByte (s : State) (h o : Nat) : Byte := SMap.get (fun _ => 0) s.ringMem (h * 0x100000 + o)
def State.ringBytes (s : State) (h o : Nat) : Nat → List Byte
  | 0 => []
  | n + 1 => s.ringByte h o :: s.ringBytes h (o + 1) n
def ringPutMask (m : List Host.Cell) : Nat → List (Option Byte) → List Host.Cell
  | _, [] => m
  | a, none :: bs => ringPutMask m (a + 1) bs
  | a, some b :: bs => ringPutMask (SMap.set (fun _ => 0) m a b) (a + 1) bs
def State.putRing (s : State) (h o : Nat) (bs : List (Option Byte)) : State :=
  { s with ringMem := ringPutMask s.ringMem (h * 0x100000 + o) bs }

/-! ## Memory channels (R245) -/

def State.modMem (s : State) (k : Nat) (f : MemChan → MemChan) : State := { s with memChans := modNth f s.memChans k }

/-- FITTED of MEM_CFG: bit 0 the low half, bit 1 the high half. -/
def State.fitted (s : State) : Nat := s.rdF Pg.MEM Off.MEM.MEM_CFG 31 30

/-- Channel and channel address of a local address (R245). -/
def State.chanOf (s : State) (a : Nat) : Nat × Nat :=
  if s.fitted = 3 then
    ((a / 2 ^ 8 % 8) ^^^ (a / 2 ^ 13 % 8) ^^^ (a / 2 ^ 18 % 8), a / 2 ^ 11 * 2 ^ 8 + a % 2 ^ 8)
  else
    ((if s.fitted = 2 then 4 else 0) + ((a / 2 ^ 8 % 4) ^^^ (a / 2 ^ 12 % 4) ^^^ (a / 2 ^ 16 % 4)), a / 2 ^ 10 * 2 ^ 8 + a % 2 ^ 8)

/-- The error counters that a channel's own page reports (R252): a corrected word, or an uncorrectable one. -/
def State.chanErr (s : State) (a : Nat) (lost : Bool) : State :=
  if a < lpddrEnd then
    s.modMem (s.chanOf a).1 fun k => if lost then { k with ueCnt := satInc k.ueCnt } else { k with ce := satInc k.ce }
  else s

/-! ## Error correction (R165, R166, R248, R306) -/

/-- Inline SECDED of the LPDDR5X region is on (R247). -/
def State.memEcc (s : State) : Bool := s.rdB Pg.MEM Off.MEM.MEM_CFG 29

/-- Words of a list of faults that n bytes from a on meet: those of LPDDR5X are found only with inline SECDED on (R247). -/
def State.faultWords (s : State) (l : List EccLoc) (a n : Nat) : List Nat :=
  l.filterMap fun e => match e with
    | .mem w => if a / 4 ≤ w ∧ w ≤ (a + n - 1) / 4 ∧ (lpddrEnd ≤ 4 * w ∨ s.memEcc) then some w else none
    | _ => none

/-- Some byte of a word has been written since the start. -/
def State.wordWritten (s : State) (w : Nat) : Bool := (List.range 4).any fun i => (SMap.find s.mem (4 * w + i)).isSome

/-- Words of LPDDR5X that n bytes from a on meet, that nothing has written since the start and that read uncorrectable (R378). -/
def State.freshBad (s : State) (a n : Nat) : List Nat :=
  if a < lpddrEnd ∧ s.memEcc then
    ((List.range ((a + n - 1) / 4 + 1 - a / 4)).map (a / 4 + ·)).filter fun w => !(s.wordWritten w) && Config.lpddrBad s.memEpoch w
  else []

/-- The word addresses of n bytes from a on that are uncorrectable. -/
def State.ueWords (s : State) (a n : Nat) : List Nat := if n = 0 then [] else s.faultWords s.ue a n ++ s.freshBad a n

/-- The same for words with a correctable error. -/
def State.ceWords (s : State) (a n : Nat) : List Nat := if n = 0 then [] else s.faultWords s.ce a n

/-- The counters a word of the local map belongs to: corrected and uncorrectable words (R165, R248, R263). -/
def eccCounters (a : Nat) : Option (Nat × Nat × Nat) :=
  if a < lpddrEnd then some (Pg.MEM, Off.MEM.ECC_CE_CNT, Off.MEM.ECC_UE_CNT)
  else if spBase ≤ a ∧ a < spBase + 32 * 0x400000 then some (Pg.CORE ((a - spBase) / 0x400000), Off.CORE.ECC_CE_CNT, Off.CORE.ECC_UE_CNT)
  else if wsBase ≤ a ∧ a < wsBase + 32 * 0x80000 then some (Pg.CORE ((a - wsBase) / 0x80000), Off.CORE.ECC_CE_CNT, Off.CORE.ECC_UE_CNT)
  else if hwBase ≤ a ∧ a < hwBase + 4 * 0x800000 then some (Pg.HC ((a - hwBase) / 0x800000), Off.HC.ECC_CE_CNT, Off.HC.ECC_UE_CNT)
  else none

/-- A read of n bytes corrects the single-bit errors it meets: each is counted and written back. -/
def State.correct (s : State) (a n : Nat) : State :=
  (s.ceWords a n).foldl (fun s w =>
    let s := { s with ce := s.ce.filter fun e => e ≠ .mem w }
    match eccCounters (4 * w) with
    | some (p, ce, _) => (s.chanErr (4 * w) false).bump p ce
    | none => s) s

/-- A masked write from address a on covers all four bytes of a word. -/
def writeCovers (a : Nat) (bs : List (Option Byte)) (w : Nat) : Bool :=
  decide (a ≤ 4 * w ∧ 4 * w + 4 ≤ a + bs.length) && ((List.range 4).all fun i => (bs.getD (4 * w + i - a) none).isSome)

/-- It writes some byte of a word. -/
def writeTouches (a : Nat) (bs : List (Option Byte)) (w : Nat) : Bool :=
  (List.range 4).any fun i => decide (a ≤ 4 * w + i) && (bs.getD (4 * w + i - a) none).isSome

/-- A write that covers part of a word reads the word first (R106, R248): a single-bit error there is corrected and counted. -/
def State.readPart (s : State) (a : Nat) (bs : List (Option Byte)) : State :=
  ((s.ceWords a bs.length).filter fun w => writeTouches a bs w && !writeCovers a bs w).foldl (fun s w => s.correct (4 * w) 4) s

/-- A masked write from address a on (R166, R248): a word that is uncorrectable is written only when all four of its bytes
are, and is sound then; otherwise its bytes stay. The second answer tells whether a part was not applied. -/
def State.store (s : State) (a : Nat) (bs : List (Option Byte)) : State × Bool :=
  let kept := (s.ueWords a bs.length).filter fun w => !writeCovers a bs w
  let bs' := if kept.isEmpty then bs
    else (List.range bs.length).map fun i => if kept.contains ((a + i) / 4) then none else bs.getD i none
  let whole := fun e => match e with
    | EccLoc.mem w => writeCovers a bs w
    | _ => false
  let s' := s.readPart a bs
  ({ s' with mem := memPutMask s.mem a bs', ue := s.ue.filter fun e => !whole e, ce := s'.ce.filter fun e => !whole e },
   kept.any (writeTouches a bs))

/-! ## The event log (R323) -/

/-- Drops the newest entry that reports no lost record, none where every entry reports one. -/
def dropNewest : List LogEnt → Option (List LogEnt)
  | [] => none
  | e :: r => match dropNewest r with
    | some r' => some (e :: r')
    | none => if e.lostRec then none else some r

/-- An event enters the log buffer or the reserve (R323). -/
def State.logPut (s : State) (e : LogEnt) : State :=
  let e := { e with no := s.log.taken }
  let s := { s with log := { s.log with taken := s.log.taken + 1 } }
  if s.log.buf.length < 512 then { s with log := { s.log with buf := s.log.buf ++ [e] } }
  else match dropNewest s.log.buf with
    | some b => { s with log := { s.log with buf := b ++ [e] } }.bump Pg.LOG Off.LOG.LOST_CNT
    | none =>
      if !e.lostRec then s.bump Pg.LOG Off.LOG.LOST_CNT
      else if s.log.reserve.length < 2048 then { s with log := { s.log with reserve := s.log.reserve ++ [e] } }
      else s.bump Pg.LOG Off.LOG.LOSTREC_CNT

/-- An event logged with no FAULT_SUM bit. -/
def State.logEvent (s : State) (page code unit detail : Nat) (arg : Nat := 0) : State :=
  s.logPut { page := page, bit := 0x3F, code := code, time := s.now, unit := unit, detail := BitVec.ofNat 32 detail,
             arg := BitVec.ofNat 64 arg }

/-- A register write or command refused with STATE is logged (Table 0.5). DETAIL is the register's offset (log entry 64). -/
def State.logState (s : State) (page code unit detail : Nat) : State :=
  if code = ST.STATE then s.logEvent page code unit detail else s

/-! ## Faults (R296, R297, R305) -/

/-- The domain that holds what a page of this index describes is on (R295): of CORE, SP, MEM, HP, HC, LNK and DL pages, every other page
has none (Table 19.1). -/
def State.pagePowered (s : State) (p : Nat) : Bool :=
  if 0x010 ≤ p ∧ p < 0x030 then bit s.power.pd (p - 0x010)
  else if 0x040 ≤ p ∧ p < 0x058 then bit s.power.pd (32 + (p - 0x040) / 6)
  else if 0x0A0 ≤ p ∧ p < 0x0A5 then bit s.power.pd 39
  else if 0x0B0 ≤ p ∧ p < 0x0B9 then bit s.power.pd 38
  else if p = 0x090 then bit s.power.pd 36 || bit s.power.pd 37
  else true

/-- A counter of a page counts an event; it does not count while the domain is off (R295). -/
def State.count (s : State) (p off : Nat) (by_ : Nat := 1) : State := if s.pagePowered p then s.bump p off by_ else s

/-- STATUS.FAULT of a page: FAULT_SUM AND FAULT_EN is not 0. -/
def State.pageFault (s : State) (p : Nat) : Bool := (s.rd p Off.HDR.FAULT_SUM &&& s.rd p Off.HDR.FAULT_EN) != 0

/-- FAULT_SUM bit of a page set, with its log entry where LOG_EN is 1. Pages of SP count FSYNC overlaps in EVENT_CNT instead
(R42, R46). -/
def State.setFault (s : State) (p b code unit detail : Nat) (arg : Nat := 0) : State :=
  let s := s.wr p Off.HDR.FAULT_SUM (setBit (s.rd p Off.HDR.FAULT_SUM) b true)
  let s := if 0x040 ≤ p ∧ p ≤ 0x057 then s else s.count p Off.HDR.EVENT_CNT
  if s.rdB p Off.HDR.CTRL 0 then
    s.logPut { page := p, bit := b, code := code, time := s.now, unit := unit, detail := BitVec.ofNat 32 detail,
               arg := BitVec.ofNat 64 arg }
  else s

/-- When STATUS.FAULT of a CORE page has become 1, the bit of its group's page is set (16_register_pages.md, GRP pages). -/
def State.groupFault (before s : State) (p code unit detail : Nat) : State :=
  if 0x010 ≤ p ∧ p ≤ 0x02F ∧ before.pageFault p = false ∧ s.pageFault p = true then
    s.setFault (Pg.GRP ((p - 0x010) / 4)) ((p - 0x010) % 4) code unit detail
  else s

/-- A fault event of a page: its bit, its log entry, and what follows on the group's page. -/
def State.raise (s : State) (p b code unit detail : Nat) (arg : Nat := 0) : State :=
  State.groupFault s (s.setFault p b code unit detail arg) p code unit detail

/-- A fault event that carries an address (R297). -/
def State.faultAddr (s : State) (p a : Nat) : State :=
  (s.wr p Off.HDR.FAULT_ADDR_LO (BitVec.ofNat 32 a)).wr p Off.HDR.FAULT_ADDR_HI (BitVec.ofNat 32 (0x80000000 + a / 2 ^ 32 % 2 ^ 16))

/-- An uncorrectable word of the local map met by a read (R166, R248, R306): counted (of host window SRAM only the sectors answered with
the marker are, Table 14.11), its address recorded, the page's FAULT_SUM bit set. -/
def State.ueMet (s : State) (w : Nat) (unit : Nat) : State :=
  let a := 4 * w
  match eccCounters a with
  | some (p, _, ue) =>
    let b := if p = Pg.MEM then 0 else 1
    ((if hwBase ≤ a then s else (s.chanErr a true).bump p ue).faultAddr p a).raise p b ST.ECC_UNCORR unit 0 a
  | none =>
    if hopBase ≤ a ∧ a < hopBase + 24 * 0x80000 then
      let p := Pg.SP ((a - hopBase) / 0x80000)
      (s.faultAddr p a).raise p 2 ST.ECC_UNCORR unit 0 a
    else s

/-! ## Regions (R14, Table 1.2) -/

/-- Regions of the local map that commands reach. -/
inductive Region where
  | lpddr | scratch (c : Nat) | weights (c : Nat) | hopper (n : Nat) | staging (h : Nat) | pages
deriving DecidableEq, Repr

/-- End of the LPDDR5X region: MEM_TOP in MiB (R245). -/
def State.memTop (s : State) : Nat := (s.rd Pg.MEM Off.MEM.MEM_TOP).toNat * 0x100000

/-- The region that holds one local address. -/
def State.region (s : State) (a : Nat) : Option Region :=
  if a < s.memTop then some .lpddr
  else if spBase ≤ a ∧ a < spBase + 32 * 0x400000 then some (.scratch ((a - spBase) / 0x400000))
  else if wsBase ≤ a ∧ a < wsBase + 32 * 0x80000 then some (.weights ((a - wsBase) / 0x80000))
  else if hopBase ≤ a ∧ a < hopBase + 24 * 0x80000 then some (.hopper ((a - hopBase) / 0x80000))
  else if hwBase ≤ a ∧ a < hwBase + 4 * 0x800000 then some (.staging ((a - hwBase) / 0x800000))
  else if pageBase ≤ a ∧ a < pageBase + 0x10C000 then some .pages
  else none

/-- The one region that holds the n bytes from a on, n at least 1. -/
def State.regionOf (s : State) (a n : Nat) : Option Region :=
  (s.region a).filter fun r => decide (s.region (a + n - 1) = some r)

/-- Domain n is powered (Table 19.1). -/
def State.domainOn (s : State) (n : Nat) : Bool := bit s.power.pd n
/-- Domain of a sensor port. -/
def portDomain (n : Nat) : Nat := 32 + n / 6

/-- The configuration state is LOADING, STAGED or APPLYING (R333). -/
def State.cfgBusy (s : State) : Bool := s.mgmt.cfg != .idle
/-- A write or transfer accepted into a standby bank makes the previous set unusable (R333). -/
def State.prevStale (s : State) : State := { s with mgmt := { s.mgmt with prevValid := false } }
/-- The management controller restarts: writes to its pages are refused (R329). -/
def State.mcAway (s : State) : Bool := s.mgmt.run == .restarting

/-- The value that a write gives a register of its access types: RW bits take the value, W1C bits are cleared and W1S bits set where
the value has 1, the others stay (R10). -/
def RegDef.merge (d : RegDef) (old v : W32) : W32 :=
  let o := old.toNat
  let n := v.toNat
  let kept := o - (o &&& d.rw)
  BitVec.ofNat 32 (((kept ||| (n &&& d.rw)) - ((kept ||| (n &&& d.rw)) &&& (n &&& d.w1c))) ||| (n &&& d.w1s))

/-- A register written under its access types (R9, R10). -/
def State.wrMasked (s : State) (p off : Nat) (v : W32) (bank : Nat := 0) : State :=
  match RegMap.lookup p off with
  | some d => s.wr p off (d.merge (s.rd p off bank) v) bank
  | none => s

/-- Device field and local address of a rig address (R11). -/
def rigDev (a : W48) : Nat := a.toNat / 2 ^ 39
def rigLocal (a : W48) : Nat := a.toNat % 2 ^ 39

end Sys2Proof.Machine
end

