-- ==== Sys2Proof/Machine/Operands.lean ====
section
/-! DEFINITION. Where commands take their operands: descriptor and program header fields, registers of a core, the
registers a queue entry read at issue, scratchpad rows and rig addresses, tally offsets. -/
namespace Sys2Proof.Machine

/-! ## Job descriptor (Table 1.3), held as 16 words -/

/-- Field [hi:lo] of word i of a list of words. -/
def wf (ws : List W32) (i hi lo : Nat) : Nat := fld (ws.getD i 0) hi lo

def descVer (d : List W32) : Nat := wf d 0 31 28
def descNdim (d : List W32) : Nat := wf d 0 27 24
def descLineDim (d : List W32) : Nat := wf d 0 23 21
def descRecordMode (d : List W32) : Bool := bit (d.getD 0 0) 20
def descClass (d : List W32) : Nat := wf d 0 19 16
def descProgram (d : List W32) : Nat := wf d 0 15 0
def descRot (d : List W32) : Nat := wf d 1 31 24
def descTarget (d : List W32) : Nat := wf d 1 23 0
/-- SHAPEk. -/
def descShape (d : List W32) (k : Nat) : Nat := wf d (4 + k / 2) (if k % 2 = 0 then 15 else 31) (if k % 2 = 0 then 0 else 16)
def descFrame (d : List W32) : W32 := d.getD 8 0
def descStripeH (d : List W32) : Nat := wf d 9 23 16
def descTallyBase (d : List W32) : Nat := wf d 9 13 0
/-- BUFk_EXT, in 64 KiB units. -/
def descExt (d : List W32) (k : Nat) : Nat := wf d (11 + 2 * k) 31 16
/-- BUFk_BASE. -/
def descBase (d : List W32) (k : Nat) : W48 := BitVec.ofNat 48 (wf d (11 + 2 * k) 15 0 * 2 ^ 32 + (d.getD (10 + 2 * k) 0).toNat)
/-- Output lines of the job, SHAPE[LINE_DIM]. -/
def descLines (d : List W32) : Nat := descShape d (descLineDim d)
/-- Number of quanta (R25). -/
def descQuanta (d : List W32) : Nat := ceilDiv (descLines d) (descStripeH d)
/-- Valid output lines of quantum j. -/
def quantumLines (d : List W32) (j : Nat) : Nat := min (descStripeH d) (descLines d - j * descStripeH d)

/-! ## Program header (Table 6.5), held as 16 words -/

def hdrSpRows (h : List W32) : Nat := wf h 1 30 16
def hdrNlayer (h : List W32) : Nat := wf h 1 12 8
def hdrSluice (h : List W32) : Nat := wf h 1 7 0
def hdrHaloUp (h : List W32) : Nat := wf h 2 31 24
def hdrHaloDn (h : List W32) : Nat := wf h 2 23 16
def hdrInNum (h : List W32) : Nat := wf h 2 15 12
def hdrInDen (h : List W32) : Nat := wf h 2 11 8
def hdrHopLines (h : List W32) : Nat := wf h 2 7 0
def hdrNpriv (h : List W32) : Nat := wf h 3 15 10
def hdrNshared (h : List W32) : Nat := wf h 3 9 0
def hdrShapeMax (h : List W32) (k : Nat) : Nat := wf h (4 + k / 2) (if k % 2 = 0 then 15 else 31) (if k % 2 = 0 then 0 else 16)
def hdrHstream (h : List W32) : Nat := wf h 8 10 9
def hdrRole (h : List W32) (k : Nat) : Nat := wf h 8 (3 * k + 2) (3 * k)
def hdrMinExt (h : List W32) (k : Nat) : Nat :=
  if k = 0 then wf h 9 15 0 else if k = 1 then wf h 9 31 16 else wf h 10 15 0
/-- IMGx_BASE as a local address. -/
def hdrImgBase (h : List W32) (x : Nat) : Nat := 256 * (h.getD (if x = 0 then 12 else 14) 0).toNat
def hdrImgLen (h : List W32) (x : Nat) : Nat := if x = 0 then wf h 13 15 0 else wf h 13 31 16
/-- The buffer with the hopper role, if there is one. -/
def hdrHopBuf (h : List W32) : Option Nat := (List.range 3).find? fun k => hdrRole h k = 4
/-- The program's tally count (R117). -/
def hdrTallies (h : List W32) : Nat := hdrNshared h + 32 * hdrNpriv h

/-! ## Tallies of an item (R117) -/

/-- The tally that offset o of a program maps to, on core c of a job with that header and descriptor. -/
def tallyOf (h d : List W32) (c o : Nat) : Nat :=
  (if o < hdrNshared h then descTallyBase d + o
   else descTallyBase d + hdrNshared h + c * hdrNpriv h + (o - hdrNshared h)) % 16384

def Item.tally (it : Item) (c o : Nat) : Nat := tallyOf it.hdr it.desc c o

/-- Tally t is private to the item on core c. -/
def Item.private_ (it : Item) (c t : Nat) : Bool :=
  let p0 := descTallyBase it.desc + hdrNshared it.hdr + c * hdrNpriv it.hdr
  decide (p0 ≤ t ∧ t < p0 + hdrNpriv it.hdr)

/-! ## Registers of a core (R93) -/

def Core.s (k : Core) (i : Nat) : W32 := k.sreg.getD i 0
def Core.a (k : Core) (i : Nat) : W48 := k.areg.getD i 0
def Core.setS (k : Core) (i : Nat) (v : W32) : Core := { k with sreg := k.sreg.set i v }
def Core.setA (k : Core) (i : Nat) (v : W48) : Core := { k with areg := k.areg.set i v }

/-- An S value or immediate that meets an A register (R121). -/
def sx48 (v : W32) : W48 := v.signExtend 48

/-- Second operand of an SCL command: IMM32 or register B. -/
def Core.opB (k : Core) (f : SclF) : W32 := if f.bi then f.imm else k.s f.b.toNat

/-- A vector register (R105). -/
def Core.vlane (k : Core) (v l : Nat) : W32 := SMap.get (fun _ => 0) k.vreg (64 * v + l)
def Core.vec (k : Core) (v : Nat) : List W32 := (List.range 64).map (k.vlane v)
def Core.setVec (k : Core) (v : Nat) (ls : List W32) : Core :=
  { k with vreg := (List.range 64).foldl (fun m l => SMap.set (fun _ => 0) m (64 * v + l) (ls.getD l 0)) k.vreg }

/-- Instruction memory: 32-bit word i of bank b, and command word w of bank b (R109). -/
def Core.iword (k : Core) (b : Bool) (i : Nat) : W32 := SMap.get (fun _ => 0) k.imem (8192 * b.toNat + i)
def Core.cword (k : Core) (b : Bool) (w : Nat) : W128 :=
  k.iword b (4 * w + 3) ++ k.iword b (4 * w + 2) ++ k.iword b (4 * w + 1) ++ k.iword b (4 * w)
def Core.setIword (k : Core) (b : Bool) (i : Nat) (v : W32) : Core :=
  { k with imem := SMap.set (fun _ => 0) k.imem (8192 * b.toNat + i) v }

/-- The item with a key. -/
def Core.item (k : Core) (key : Nat) : Option Item := k.items.find? fun it => it.key = key
def Core.modItem (k : Core) (key : Nat) (f : Item → Item) : Core := { k with items := modFirst (fun it => it.key = key) f k.items }
/-- The item the sequencer reads. -/
def Core.curItem (k : Core) : Option Item := k.cur.bind k.item

/-! ## Queues -/

def Core.q (k : Core) : Queue → List QEntry
  | .fq => k.fq
  | .xq => k.xq
  | .wq => k.wq

def Core.setQ (k : Core) (q : Queue) (l : List QEntry) : Core :=
  match q with
  | .fq => { k with fq := l }
  | .xq => { k with xq := l }
  | .wq => { k with wq := l }

def Core.modEntry (k : Core) (q : Queue) (key : Nat) (f : QEntry → QEntry) : Core :=
  k.setQ q (modFirst (fun e => e.key = key) f (k.q q))

/-- An END marker (R122). -/
def QEntry.marker (e : QEntry) : Bool :=
  match e.op with
  | .endItem _ _ => true
  | _ => false

/-- Nothing is kept in the accumulator store. -/
def Core.dropAcc (k : Core) : Core := { k with acc := [], kept := false }

/-- END markers at the front of the queues retire (R122). -/
def Core.dropMarkers (k : Core) : Core :=
  let k' := { k with fq := k.fq.dropWhile QEntry.marker, xq := k.xq.dropWhile QEntry.marker, wq := k.wq.dropWhile QEntry.marker }
  if (k.xq.head?.map QEntry.marker) = some true then k'.dropAcc else k'

/-- Registers a queue entry read at issue (R111). -/
def QEntry.s (e : QEntry) (i : Nat) : W32 := e.sr.getD i 0
def QEntry.a (e : QEntry) (i : Nat) : W48 := e.ar.getD i 0

/-- Scratchpad row S[r] + imm, modulo 16,384. -/
def QEntry.row (e : QEntry) (r : BitVec 4) (imm : BitVec 14) : Nat := ((e.s r.toNat).toNat + imm.toNat) % 16384

/-- Rig address A[ar] + S[ofs], the offset signed (R121). -/
def QEntry.addr (e : QEntry) (ar : BitVec 3) (ofs : BitVec 4) : W48 := e.a ar.toNat + sx48 (e.s ofs.toNat)

/-- The SYNC field of an entry, where its format has one (R112). -/
def syncFieldOf : Instr → Option SyncF
  | .fCopy _ f => some f.sync
  | .wCopy _ f => some f.sync
  | .fHop _ f => some f.sync
  | .fWgt _ f => some f.sync
  | .fRqt _ f => some f.sync
  | .fImem _ f => some f.sync
  | .fPad _ f => some f.sync
  | .fRarm _ f => some f.sync
  | .wRarm _ f => some f.sync
  | .wGlz _ f => some f.sync
  | .sOpen _ f => some f.sync
  | .sClose _ f => some f.sync
  | _ => none

/-- Value of a TAL command: IMM32 or S[VR] (R140). -/
def talValue (sr : List W32) (f : TalF) : W32 := if f.vi then f.imm else sr.getD f.vr.toNat 0

/-- The tally condition an entry waits for: offset, value, wait = (R112, R140). -/
def QEntry.cond (e : QEntry) : Option (Nat × W32 × Bool) :=
  match e.op with
  | .tWait _ f => some (f.t.toNat, talValue e.sr f, f.c)
  | op => match syncFieldOf op with
    | some y => if y.wen then some (y.wt.toNat, e.s y.wv.toNat, y.weq) else none
    | none => none

/-- The tally update an entry makes at its retirement: offset, set, value, and the device of a T.RUPD (R112, R140). -/
def QEntry.upd (e : QEntry) : Option (Nat × Bool × W32 × Option Nat) :=
  match e.op with
  | .tUpd _ f => some (f.t.toNat, f.c, talValue e.sr f, none)
  | .tRupd _ f => some (f.t.toNat, f.c, talValue e.sr f, some ((e.s f.dr.toNat).toNat % 512))
  | op => match syncFieldOf op with
    | some y =>
      if y.sen then some (y.st.toNat, y.sset, if y.sset then e.s y.sv.toNat else BitVec.ofNat 32 (y.sv.toNat + 1), none) else none
    | none => none

/-- A wait condition holds (Table 7.1). -/
def condHolds (eq : Bool) (v w : W32) : Bool := if eq then v == w else decide ((v - w).toNat < 2 ^ 31)

end Sys2Proof.Machine
end

