-- ==== Sys2Proof/Machine/LinkOps.lean ====
section
/-! DEFINITION. Sending over the links: routes, flits, the delivery stream (R276, R279, R280, R282). -/
namespace Sys2Proof.Machine

/-- ROUTE entry of device d (R291): the entry for this device reads VALID = 1 and HOPS = 0. -/
def State.route (s : State) (d : Nat) : W32 :=
  if d = s.devId then 0x80000000 else s.rd Pg.ROUTE (0x100 + 4 * d)

def State.setRoute (s : State) (d : Nat) (v : W32) : State := s.wr Pg.ROUTE (0x100 + 4 * d) v

def State.linkUp (s : State) (p : Nat) : Bool := (s.link p).st == .up

/-- The port is in UP or RENEG. -/
def LinkPort.joined (k : LinkPort) : Bool := k.st == .up || k.st == .reneg

/-- The port a message for device d takes, and whether it is the alternate (R282). A port in RENEG keeps its messages (R288; log entry 68). -/
def State.egress (s : State) (d : Nat) : Option (Nat × Bool) :=
  let e := s.route d
  if bit e 31 ∧ (s.link (fld e 21 19)).joined then some (fld e 21 19, false)
  else if bit e 30 ∧ (s.link (fld e 18 16)).joined then some (fld e 18 16, true)
  else none

/-- The path to device d runs at level 2 (R287). -/
def State.pathL2 (s : State) (d : Nat) : Bool :=
  match s.egress d with
  | some (_, true) => bit (s.route d) 26
  | some (_, false) => bit (s.route d) 27
  | none => false

/-! ## Messages on a port (R276, R278, R281) -/

/-- The class of an opcode (Table 15.4): of the Response class, of the Link class. -/
def opResponse : MsgOp → Bool
  | .rdRsp | .ack | .nak => true
  | _ => false
def opOfLink : MsgOp → Bool
  | .hello | .routeAdv => true
  | _ => false

/-- A message that takes a SEQ of the delivery stream (Table 15.4). -/
def opStream (op : MsgOp) : Bool := !(opResponse op) && !(opOfLink op)

/-- The buffer class of a message (R281): 0 to 15 the requests by HOP, 16 to 31 the responses (log entry 68); none of the Link class. -/
def msgClass (m : Msg) : Option Nat := if opOfLink m.op then none else some (16 * (opResponse m.op).toNat + m.hop.toNat)

/-- Slots of a message (Table 15.4). -/
def msgSlots (m : Msg) : Nat := max 1 m.len.toNat

/-- n slots of a class can be sent now (R276, R281, R288): the port is UP, the replay buffer takes a flit, and the far end has room. -/
def LinkPort.room (k : LinkPort) (cls : Option Nat) (n : Nat) : Bool :=
  k.st == .up && decide (k.replay.length < 512) &&
  match cls with
  | some c => decide (n ≤ k.credit.getD c 0)
  | none => true

/-- The credit that the next flit returns: the lowest class with freed slots, and at most 127 of them (R275, R281). -/
def LinkPort.giveBack (k : LinkPort) : Nat × Nat :=
  match k.owe.findIdx? fun n => n ≠ 0 with
  | some c => (c, min 127 (k.owe.getD c 0))
  | none => (0, 0)

/-- The header of a flit sent now. -/
def LinkPort.hdrNow (k : LinkPort) : Fhdr :=
  { fseq := k.txNext, fack := k.rxNext, crcls := BitVec.ofNat 5 k.giveBack.1, crcnt := BitVec.ofNat 7 k.giveBack.2 }

/-- The credit of the next flit has been returned. -/
def LinkPort.gave (k : LinkPort) : LinkPort := { k with owe := modNth (fun (n : Nat) => n - k.giveBack.2) k.owe k.giveBack.1 }

/-- A message leaves in a data flit, kept until FACK covers it (R276). Each data flit carries one message (log entry 21). -/
def LinkPort.flit (k : LinkPort) (m : Msg) : LinkPort :=
  let left := match msgClass m with
    | some c => modNth (fun n => n - msgSlots m) k.credit c
    | none => k.credit
  { k.gave with txNext := k.txNext + 1, credit := left, replay := k.replay ++ [⟨k.txNext, [m], 0, k.giveBack.1, k.giveBack.2⟩] }

/-- A flit that is not kept leaves (R275, R276). -/
def LinkPort.sendCtl (k : LinkPort) (f : Fhdr → CtlFlit) : LinkPort := { k.gave with ctl := some (f k.hdrNow) }

/-- A held message of this device has left: from the first time on the limits of R280 run. -/
def State.hasLeft (s : State) (m : Msg) : State :=
  if opStream m.op ∧ m.src.toNat = s.devId then
    let o := s.outStream m.dst.toNat
    let leave := fun (h : HeldMsg) => { h with first := if h.left then h.first else s.now, last := s.now, left := true }
    s.setOutStream m.dst.toNat { o with held := modFirst (fun h => h.msg.seq = m.seq) leave o.held }
  else s

/-- One message that waits at port p leaves where there is room for it and no earlier one of its class waits. -/
def State.pumpOne (s : State) (p : Nat) (m : Msg) : State :=
  if (s.link p).room (msgClass m) (msgSlots m) && !((s.link p).txq.any fun x => msgClass x == msgClass m) then
    ((s.modLink p fun k => k.flit m).bump (Pg.DL p) Off.DL.TX_FLIT_CNT).hasLeft m
  else s.modLink p fun k => { k with txq := k.txq ++ [m] }

/-- The messages that wait at port p leave as far as they can. -/
def State.pump (s : State) (p : Nat) : State :=
  (s.link p).txq.foldl (fun s m => s.pumpOne p m) (s.modLink p fun k => { k with txq := [] })

/-- A message leaves on port p, or waits there. -/
def State.emit (s : State) (p : Nat) (m : Msg) : State := s.pumpOne p m

/-- A message takes its route (R282): without one it waits where it is this device's own, and is discarded where it is to be forwarded. -/
def State.emitRouted (s : State) (m : Msg) : State :=
  match s.egress m.dst.toNat with
  | some (p, _) => s.emit p m
  | none =>
    if m.src.toNat = s.devId then { s with links := { s.links with wait := s.links.wait ++ [m] } }
    else s.bump Pg.LNK Off.LNK.NOROUTE_CNT

/-- Messages that wait for a route try again. -/
def State.flushRoutes (s : State) : State :=
  s.links.wait.foldl (fun s m => s.emitRouted m) { s with links := { s.links with wait := [] } }

/-- A message of this device waits to leave. -/
def State.waitsToLeave (s : State) (m : Msg) : Bool :=
  s.links.wait.contains m || s.links.ports.any fun k => k.txq.contains m

/-! ## The delivery stream (R279, R280) -/

/-- Bytes of the delivery store that a held message takes (R280). -/
def heldBytes (h : HeldMsg) : Nat := 32 * msgSlots h.msg

/-- Delivery store used now, in bytes. -/
def State.storeUsed (s : State) : Nat := (s.links.out.flatMap fun p => p.2.held).foldl (fun n h => n + heldBytes h) 0

/-- The stream to device d and the delivery store can take a message of n slots. -/
def State.storeRoom (s : State) (d n : Nat) : Bool :=
  decide (s.storeUsed + 32 * n ≤ 0x400000) && decide ((s.outStream d).held.length < 4096)

/-- A row for device d as a message of n slots can leave now (R183, R280, R282): the store takes it, nothing of the stream waits, its route's
port has room. -/
def State.canSend (s : State) (d n : Nat) : Bool :=
  s.storeRoom d n && (s.outStream d).wait.isEmpty &&
  match s.egress d with
  | some (p, _) => (s.link p).room (some 0) n && !((s.link p).txq.any fun x => msgClass x == some 0)
  | none => false

/-- Most delivery store used, in KiB (Table 15.8). -/
def State.storeHigh (s : State) : State :=
  let kib := s.storeUsed / 1024
  if s.rdF Pg.LNK Off.LNK.STORE_LEVEL 31 16 < kib then s.wrF Pg.LNK Off.LNK.STORE_LEVEL 31 16 kib else s

/-- A message takes the next SEQ of the stream to device d, is held, and leaves. -/
def State.hold (s : State) (d : Nat) (h : HeldMsg) : State :=
  let o := s.outStream d
  let m := { h.msg with seq := o.next }
  ((s.setOutStream d { o with next := o.next + 1, held := o.held ++ [{ h with msg := m }] }).storeHigh).emitRouted m

/-- A stream message for device d: held until acknowledged (R279, R280), once the store and the stream take it. -/
def State.sendStream (s : State) (d : Nat) (m : Msg) (core item entry : Nat) (row : Nat × Nat := (0, 0)) : State :=
  let h : HeldMsg := ⟨{ m with src := BitVec.ofNat 9 s.devId, dst := BitVec.ofNat 9 d }, s.now, s.now, core, item, entry, row, false⟩
  let o := s.outStream d
  if o.wait.isEmpty ∧ s.storeRoom d (msgSlots m) then s.hold d h else s.setOutStream d { o with wait := o.wait ++ [h] }

/-- Messages that wait for the store go on as far as it takes them. -/
def State.pumpStream (s : State) (d : Nat) : State :=
  (s.outStream d).wait.foldl (fun s h =>
    let o := s.outStream d
    if o.wait.head? = some h ∧ s.storeRoom d (msgSlots h.msg) then (s.setOutStream d { o with wait := o.wait.drop 1 }).hold d h else s) s

def State.pumpStreams (s : State) : State := s.links.out.foldl (fun s p => s.pumpStream p.1) s

/-- A message that is no stream message leaves for device d. -/
def State.sendPlain (s : State) (d : Nat) (m : Msg) : State :=
  s.emitRouted { m with src := BitVec.ofNat 9 s.devId, dst := BitVec.ofNat 9 d }

/-- Messages of the stream to one device, those without a SEQ first. -/
def OutStream.all (o : OutStream) : List HeldMsg := o.wait ++ o.held

/-- Messages held for a queue entry of a core. -/
def State.heldFor (s : State) (core entry : Nat) : Bool :=
  s.links.out.any fun p => p.2.all.any fun h => h.core == core && h.entry == entry

/-- Messages held for an item of a core (R144). -/
def State.heldForItem (s : State) (core item : Nat) : Bool :=
  s.links.out.any fun p => p.2.all.any fun h => h.core == core && h.item == item

/-! ## Acknowledgements (R279) -/

/-- SEQ a is not later than b. -/
def seqLe (a b : W16) : Bool := decide ((b - a).toNat < 0x8000)

/-- The highest SEQ applied. -/
def InStream.applied (i : InStream) : W16 := i.expect - 1 - BitVec.ofNat 16 (i.queue.countP (·.2))

/-- Status and DETAIL of the first refused message from SEQ `since` on among those applied. -/
def InStream.refusal (i : InStream) (since : W16) : Nat × Nat :=
  match i.refused.find? fun r => seqLe since r.1 && seqLe r.1 i.applied with
  | some r => r.2
  | none => (0, 0)

/-- An acknowledgement for device d leaves: SEQ applied last, and the status of the first refused message it covers from SEQ `since` on. -/
def State.sendAck (s : State) (d : Nat) (since : W16) : State :=
  let i := s.inStream d
  let r := i.refusal since
  let s := s.setInStream d { i with owed := false, from_ := i.applied + 1 }
  s.sendPlain d { op := .ack, seq := i.applied, status := BitVec.ofNat 8 r.1, detail := BitVec.ofNat 24 r.2 }

/-- An acknowledgement is owed to device d for the message of a SEQ. One that carries a status leaves at once, so that it covers the refused
message last (log entry 22). -/
def State.oweAck (s : State) (d : Nat) (seq : W16) (status detail : Nat) : State :=
  let i := s.inStream d
  if status = 0 then s.setInStream d { i with owed := true }
  else
    let keep := i.refused.filter fun r => decide ((i.expect - r.1).toNat < 4096)
    (s.setInStream d { i with owed := true, refused := keep ++ [(seq, status, detail)] }).sendAck d i.from_

end Sys2Proof.Machine
end

