-- ==== Sys2Proof/Machine/ProgOps.lean ====
section
/-! DEFINITION. Programs in instruction memory: the directory (R113), headers (R115), and what a core in service is
to run (R102). -/
namespace Sys2Proof.Machine

/-- Lower and upper word of directory entry e of bank b (Table 6.4). -/
def Core.dirLo (k : Core) (b : Bool) (e : Nat) : W32 := k.iword b (2 * e)
def Core.dirHi (k : Core) (b : Bool) (e : Nat) : W32 := k.iword b (2 * e + 1)

def dirUsed (hi : W32) : Bool := bit hi 31
def dirLstate (hi : W32) : Nat := fld hi 30 29
def dirFail (hi : W32) : Nat := fld hi 28 18
def dirLen (hi : W32) : Nat := fld hi 10 0
def dirPid (lo : W32) : Nat := fld lo 15 0
def dirHdr (lo : W32) : Nat := fld lo 26 16

/-- The USED entries of bank b that name a program. -/
def Core.entriesOf (k : Core) (b : Bool) (pid : Nat) : List Nat :=
  (List.range 16).filter fun e => dirUsed (k.dirHi b e) && decide (dirPid (k.dirLo b e) = pid)

/-- The bank an item accepted now will start from (R102). -/
def Core.startBank (k : Core) : Bool := if k.swap then !k.active else k.active

/-- The bank that the item of a key starts from (R102): keys are given at the check round. -/
def Core.bankFor (k : Core) (key : Nat) : Bool := if k.swap ∧ k.swapKey ≤ key then !k.active else k.active

/-- The 16 header words at program word 0 to 3 of the program whose header is bank word w. -/
def Core.header (k : Core) (b : Bool) (w : Nat) : List W32 := (List.range 16).map fun i => k.iword b (4 * w + i)

/-- Header of a program in bank b, where the directory names it. -/
def Core.programHeader (k : Core) (b : Bool) (pid : Nat) : Option (List W32) :=
  (k.entriesOf b pid).head?.map fun e => k.header b (dirHdr (k.dirLo b e))

/-- A pending swap is held back: an item accepted before the request has not started and names a program absent from the
standby directory (R102). -/
def Core.swapHeld (k : Core) : Bool :=
  k.items.any fun it => it.phase == .accepted && decide (it.key < k.swapKey) &&
    (k.entriesOf (!k.active) (descProgram it.desc)).isEmpty

/-- The two banks exchange (R101). -/
def Core.doSwap (k : Core) : Core := { k with active := !k.active, swap := false }

/-- Quanta that a check round accepted for core c and that it has not accepted yet: their keys and programs. -/
def State.promised (s : State) (c : Nat) : List (Nat × Nat) :=
  s.jobs.flatMap fun j =>
    (j.quanta.filter fun q => q.st = .held c).map (fun q => (q.key, descProgram j.desc)) ++
    if j.ph = .checking ∨ j.ph = .checked then
      j.walk.filterMap fun x => match x with
        | .core c' _ (_ :: _) => if c' = c then some (j.base, descProgram j.desc) else none
        | _ => none
    else []

/-- The same holds a swap back as for accepted items (R102, log entry 62). -/
def State.promiseHeld (s : State) (c : Nat) : Bool :=
  (s.promised c).any fun x => decide (x.1 < (s.core c).swapKey) && ((s.core c).entriesOf (!(s.core c).active) x.2).isEmpty

/-- The swap takes effect where it is pending, the core is at a program boundary, and R102 does not hold it back. -/
def State.trySwap (s : State) (c : Nat) : State :=
  s.modCore c fun k => if k.swap ∧ k.cur = none ∧ !k.swapHeld ∧ !(s.promiseHeld c) then k.doSwap else k

/-- The command word the sequencer stands at: none while no item is read. -/
def Core.seqWord (k : Core) : Option W128 :=
  match k.curItem with
  | some it => some (k.cword k.active (it.prog + k.pc))
  | none => none

/-- The command the sequencer of core c is to take next. -/
def State.seqCommand (s : State) (c : Nat) : Option Instr :=
  (s.core c).seqWord.bind fun w => decodeWord (Fin.ofNat 32 c) w

/-- The program counter after the word it stands at has been carried out (R124). -/
def Core.advance (k : Core) : Core :=
  match k.loops with
  | [] => { k with pc := k.pc + 1 }
  | l :: r =>
    if k.pc = l.last then
      if 1 < l.left then
        { k.setS l.idx (l.i + 1) with pc := l.first, loops := { l with left := l.left - 1, i := l.i + 1 } :: r }
      else { k with pc := l.last + 1, loops := r }
    else { k with pc := k.pc + 1 }

end Sys2Proof.Machine
end

