-- ==== Sys2Proof/Machine/HopOps.lean ====
section
/-! DEFINITION. The hoppers: streams, line slots, claims and the retirement of lines (R37 to R39, R119), and when a
quantum's lines are available (R26). -/
namespace Sys2Proof.Machine

/-- STREAMi of port n (Table 2.8). -/
def State.streamReg (s : State) (n i : Nat) : W32 := s.rd (Pg.SP n) (Off.SP.STREAM0 + 4 * i)

def State.streamEn (s : State) (n i : Nat) : Bool := bit (s.streamReg n i) 31

/-- Packing width of a PACK code. -/
def packWidth (p : Nat) : Nat := if p = 0 then 10 else if p = 1 then 12 else 16

def State.hopWidth (s : State) (n i : Nat) : Nat := packWidth (fld (s.streamReg n i) 19 18)
def State.imgWidth (s : State) (n : Nat) : Nat := s.rdF (Pg.SP n) Off.SP.FRAME_GEOM 13 0
def State.imgHeight (s : State) (n : Nat) : Nat := s.rdF (Pg.SP n) Off.SP.FRAME_GEOM 29 16

/-- Bytes of a line slot (R37). -/
def State.slotBytes (s : State) (n i : Nat) : Nat := ceilDiv (s.imgWidth n * s.hopWidth n i) 2048 * 256

/-- Lines a stream holds (R37). -/
def State.streamLines (s : State) (n i : Nat) : Nat :=
  if s.slotBytes n i = 0 then 0 else fld (s.streamReg n i) 12 8 * 32768 / s.slotBytes n i

/-- Lines a stream holds now, and the free line slots. -/
def State.heldLines (s : State) (n i : Nat) : Nat := ((s.port n).stream i).held.length
def State.freeSlots (s : State) (n i : Nat) : Nat := s.streamLines n i - s.heldLines n i

/-- Local address of a line slot. -/
def State.slotAddr (s : State) (n i slot : Nat) : Nat :=
  hopBase + n * 0x80000 + fld (s.streamReg n i) 3 0 * 0x8000 + slot * s.slotBytes n i

/-- The lowest slot that holds no line. -/
def State.freeSlot (s : State) (n i : Nat) : Option Nat :=
  (List.range (s.streamLines n i)).find? fun k => !(((s.port n).stream i).held.any fun l => l.slot == k)

/-- The port whose hopper holds a rig address of this device. -/
def hopperPort (a : W48) : Option Nat :=
  if hopBase ≤ rigLocal a ∧ rigLocal a < hopBase + 24 * 0x80000 then some ((rigLocal a - hopBase) / 0x80000) else none

/-- The band of input lines that quantum j of a job claims (R119), clipped to the image; first 1 and last 0 for an empty
band. -/
def State.claimOf (s : State) (h d : List W32) (j : Nat) : Option Claim :=
  match hdrHopBuf h with
  | none => none
  | some b =>
    match hopperPort (descBase d b) with
    | none => none
    | some n =>
      let s1 := j * descStripeH d
      let s2 := quantumLines d j
      let first : Int := ((s1 * hdrInNum h / hdrInDen h : Nat) : Int) - hdrHaloUp h
      let last : Int := (((s1 + s2) * hdrInNum h / hdrInDen h : Nat) : Int) - 1 + hdrHaloDn h
      let first := max first 0
      let last := min last ((s.imgHeight n : Int) - 1)
      let (f, l) := if first ≤ last then (first.toNat, last.toNat) else (1, 0)
      some { port := n, stream := hdrHstream h, frame := descFrame d, first := f, last := l, rel := 0 }

/-- Claim c covers a line of a frame of a stream. -/
def Claim.covers (c : Claim) (n i : Nat) (frame : W32) (line : Nat) : Bool :=
  decide (c.port = n ∧ c.stream = i ∧ c.frame = frame ∧ max c.first c.rel ≤ line ∧ line ≤ c.last)

/-- The claim that the quantum of a key has on core c before the core accepts it. -/
def State.claimAt (s : State) (c key : Nat) (d : List W32) (idx : Nat) : Option Claim :=
  ((s.core c).programHeader ((s.core c).bankFor key) (descProgram d)).bind fun h => s.claimOf h d idx

/-- The claim of a quantum that its unit holds for a core (R99). -/
def State.heldClaim (s : State) (j : Job) (q : Quantum) : Option Claim :=
  match q.st with
  | .held c => s.claimAt c q.key j.desc q.idx
  | _ => none

/-- The claims of a job whose check round passed here and waits for other devices (R38). -/
def State.roundClaims (s : State) (j : Job) : List Claim :=
  if (j.ph = .checking ∨ j.ph = .checked) ∧ j.local_ = none then
    j.walk.flatMap fun x => match x with
      | .core c _ qs => qs.filterMap (s.claimAt c j.base j.desc)
      | _ => []
  else []

/-- Every claim of an unfinished work item of the device. -/
def State.claims (s : State) : List Claim :=
  s.cores.flatMap (fun k => k.items.filterMap (·.claim)) ++
  s.jobs.flatMap fun j => j.quanta.filterMap (s.heldClaim j) ++ s.roundClaims j

/-- Lines that no item claims retire (R39). -/
def State.retireLines (s : State) (n i : Nat) : State :=
  let cs := s.claims
  s.modPort n fun p => p.modStream i fun st => { st with held := st.held.filter fun l => cs.any fun c => c.covers n i l.frame l.line }

/-- Frames that are over, recorded and claimed by no item are forgotten. -/
def State.pruneFrames (s : State) (n i : Nat) : State :=
  let cs := s.claims
  s.modPort n fun p => p.modStream i fun st =>
    { st with frames := st.frames.filter fun f => st.cur == some f.num || (f.statEn && !f.recorded) ||
        (st.rx.any fun l => l.frame == f.num) ||
        cs.any fun c => decide (c.port = n ∧ c.stream = i ∧ c.frame = f.num) }

/-- What follows when a claim ends. -/
def State.claimEnded (s : State) (c : Option Claim) : State :=
  match c with
  | some c => (s.retireLines c.port c.stream).pruneFrames c.port c.stream
  | none => s

def Stream.frame (st : Stream) (f : W32) : Option Frame := st.frames.find? fun x => x.num == f
def Stream.modFrame (st : Stream) (f : W32) (g : Frame → Frame) : Stream :=
  { st with frames := modFirst (fun x => x.num == f) g st.frames }

/-- Whether a line of a frame has been delivered into the hopper, will not be, or is still to come (R40, R41). -/
inductive LineSt where
  | delivered | never | waiting
deriving DecidableEq, Repr

def State.lineStatus (s : State) (n i : Nat) (frame : W32) (line : Nat) : LineSt :=
  match ((s.port n).stream i).frame frame with
  | none => .waiting
  | some f =>
    if !f.admitted then .never
    else if line < f.lines then .delivered
    else match f.cut with
      | some (l, _) => if line < l then .waiting else .never
      | none => .waiting

/-- The lines a claim needs are available, or it is decided that one is not (R26, R41). -/
def State.claimReady (s : State) (c : Claim) : Bool :=
  if c.last < c.first then true
  else s.lineStatus c.port c.stream c.frame c.last != .waiting

/-- A claimed line of the frame was not delivered and will not be (R41). -/
def State.claimLost (s : State) (c : Claim) : Bool :=
  if c.last < c.first then false
  else s.lineStatus c.port c.stream c.frame c.last == .never

/-- Quanta whose lines have become available become ready, in the order of their core and place (R26). -/
def State.markReadyItems (s : State) : State :=
  (List.range 32).foldl (fun s c =>
    (s.core c).items.foldl (fun s it =>
      match it.claim, it.ready with
      | some cl, none =>
        if s.claimReady cl then
          { s with readySeq := s.readySeq + 1 }.modCore c fun k => k.modItem it.key fun it => { it with ready := some (s.readySeq, s.now) }
        else s
      | _, _ => s) s) s

/-- A quantum that a unit holds for a full core is ready: its lines are available, or it claims none. -/
def State.heldReady (s : State) (j : Job) (q : Quantum) : Bool :=
  match s.heldClaim j q with
  | some cl => s.claimReady cl
  | none => true

/-- The same for quanta that a unit holds for a full core. -/
def State.markReadyQuanta (s : State) : State :=
  s.jobs.foldl (fun s j =>
    j.quanta.foldl (fun s q =>
      match q.st, q.ready with
      | .held _, none =>
        if s.heldReady j q then
          { s with readySeq := s.readySeq + 1,
                   jobs := modFirst (fun x => x.key = j.key)
                     (fun x => { x with quanta := modFirst (fun y => y.idx = q.idx) (fun y => { y with ready := some (s.readySeq, s.now) }) x.quanta }) s.jobs }
        else s
      | _, _ => s) s) s

def State.markReady (s : State) : State := s.markReadyItems.markReadyQuanta

end Sys2Proof.Machine
end

