-- ==== Sys2Proof/Machine/RaceOps.lean ====
section
/-! DEFINITION. Races, lanes and urgency (R178 to R186). -/
namespace Sys2Proof.Machine

/-- Race kinds (Table 9.1). -/
abbrev RK.FETCH : Nat := 0
abbrev RK.HOP : Nat := 1
abbrev RK.WRITEBACK : Nat := 2
abbrev RK.MCAST : Nat := 3

def State.raceValid (s : State) (r : Nat) : Bool := bit (s.rdRace r Off.RACE.RD_CTRL) 31
def State.raceKind (s : State) (r : Nat) : Nat := fld (s.rdRace r Off.RACE.RD_CTRL) 30 29
def State.racePortRel (s : State) (r : Nat) : Bool := bit (s.rdRace r Off.RACE.RD_CTRL) 28
def State.racePtEn (s : State) (r : Nat) : Bool := bit (s.rdRace r Off.RACE.RD_CTRL) 27
def State.raceDepEn (s : State) (r : Nat) : Bool := bit (s.rdRace r Off.RACE.RD_CTRL) 26
def State.raceDep (s : State) (r : Nat) : Nat := fld (s.rdRace r Off.RACE.RD_CTRL) 25 20
def State.racePt (s : State) (r : Nat) : Nat := fld (s.rdRace r Off.RACE.RD_CTRL) 19 10
def State.raceDrain (s : State) (r : Nat) : Nat := fld (s.rdRace r Off.RACE.RD_DRAIN) 19 0
def State.raceStep (s : State) (r : Nat) : Nat := fld (s.rdRace r Off.RACE.RD_SPACE) 31 16
def State.raceDepth (s : State) (r : Nat) : Nat := fld (s.rdRace r Off.RACE.RD_SPACE) 14 0
def State.racePitch (s : State) (r : Nat) : Nat := (s.rdRace r Off.RACE.RD_PITCH).toNat
def State.raceMemb (s : State) (r i : Nat) : W32 := s.rdRace r (Off.RACE.RD_MEMB0 + 4 * i)

/-- Members of race r with MV = 1, and the device of one (Table 9.7). -/
def State.members (s : State) (r : Nat) : List Nat := (List.range 16).filter fun i => bit (s.raceMemb r i) 31
def State.memberDev (s : State) (r i : Nat) : Nat := fld (s.raceMemb r i) 30 22

/-- The item that a lane belongs to. -/
def State.laneItem (s : State) (r c : Nat) : Option Item := (s.core c).item (s.lane r c).item

/-- Port of an item's hopper buffer; 24 where it has none (R186). -/
def Item.tiePort (it : Item) : Nat :=
  match it.claim with
  | some c => c.port
  | none => 24

/-- The race that a command naming race r0 uses for an item (R178): none where PORT_REL cannot be applied (R180). -/
def State.raceFor (s : State) (it : Item) (r0 : Nat) : Option Nat :=
  if s.racePortRel r0 then
    match it.claim with
    | some c => if r0 + c.port ≤ 63 then some (r0 + c.port) else none
    | none => none
  else some r0

/-- The progress tally of a lane (R182, R185), where the race has one. -/
def State.laneTally (s : State) (r c : Nat) : Option Nat :=
  if s.racePtEn r then (s.laneItem r c).map fun it => it.tally c (s.racePt r) else none

/-- Consumer progress of a lane in counts of its tally since p0. -/
def State.laneProgress (s : State) (r c : Nat) : Nat :=
  match s.laneTally r c with
  | some t => (s.tally t - (s.lane r c).p0).toNat
  | none => 0

/-- A BOUND lane whose consumer progress has reached COUNT lines goes to ENDED (R182). -/
def State.laneEnd (s : State) (r c : Nat) : State :=
  let l := s.lane r c
  if l.st = .bound ∧ s.racePtEn r ∧ l.count.toNat * 256 ≤ s.laneProgress r c * s.raceStep r then s.setLane r c { l with st := .ended } else s

/-- The check after tally t has changed. -/
def State.lanesEnd (s : State) (t : Nat) : State :=
  s.lanes.foldl (fun s p => if s.laneTally (p.1 / 32) (p.1 % 32) = some t then s.laneEnd (p.1 / 32) (p.1 % 32) else s) s

/-- A lane of item `key` on core c: reset to OPEN where it belonged to another item (R181). -/
def State.takeLane (s : State) (r c key : Nat) : State :=
  let l := s.lane r c
  if l.st ≠ .free ∧ l.item = key then s
  else
    let s := s.setLane r c { st := .opened, granted := 0, p0 := 0, base := 0, count := 0, item := key }
    match s.laneTally r c with
    | some t => s.setLane r c { s.lane r c with p0 := s.tally t }
    | none => s

/-- F.RARM or W.RARM takes effect on a lane (R182). -/
def State.rearm (s : State) (r c : Nat) (base : W48) (count : W32) : State :=
  let l := s.lane r c
  let p0 := match s.laneTally r c with
    | some t => s.tally t
    | none => l.p0
  (s.setLane r c { l with st := if count = 0 then .opened else .bound, granted := 0, p0 := p0, base := base, count := count }).laneEnd r c

/-- Lanes of an item return to FREE (R181). -/
def State.freeLanes (s : State) (c key : Nat) : State :=
  { s with lanes := s.lanes.filter fun p => !(p.1 % 32 == c && p.2.item == key) }

/-- A FETCH or HOP lane is short of space (R183). -/
def State.laneShort (s : State) (r c : Nat) : Bool :=
  let p := s.laneProgress r c
  s.racePtEn r && decide (0 < s.raceDepth r) &&
  decide ((s.lane r c).granted + 256 > p * s.raceStep r * s.raceDrain r / 256 + 256 * s.raceDepth r)

/-- Urgency of a lane (R185). -/
def State.urgency (s : State) (r c : Nat) : Nat :=
  let l := s.lane r c
  let k := s.raceKind r
  let u : Nat :=
    if l.st = .free ∨ l.st = .ended then 0xFFFFFF
    else if !s.racePtEn r then 0xFFFFFF
    else
      let head := if k = RK.WRITEBACK ∨ k = RK.MCAST then 256 * s.raceDepth r else 0
      let x : Int := ((256 * (l.granted + head) / s.raceDrain r : Nat) : Int) - ((s.laneProgress r c * s.raceStep r : Nat) : Int)
      (min (max x 0) 0xFFFFFF).toNat
  if k = RK.HOP then
    match (s.laneItem r c).bind (·.claim) with
    | some cl => min u (256 * s.freeSlots cl.port cl.stream)
    | none => u
  else u

/-- A row of a lane is granted: `n` scratchpad-side bytes (R184). -/
def State.laneGrant (s : State) (r c n : Nat) : State :=
  let l := s.lane r c
  (if l.st = .free then s else s.setLane r c { l with granted := l.granted + n }).bumpRace r Off.RACE.RS_GRANT_CNT

end Sys2Proof.Machine
end

