-- ==== Sys2Proof/Machine/TallyOps.lean ====
section
/-! DEFINITION. Tallies: operations and who may make them (R146, R150), registered waits and their release (R149), the
miss list (R192). -/
namespace Sys2Proof.Machine

/-- Where a tally operation comes from (Table 7.2): an item's own sequencer or queue on a core, item start, a sluice arrival,
the launch table, a register write, a statistics record, a link. -/
inductive TallySrc where
  | item (core key : Nat)
  | start (core : Nat)
  | arrival | launch | reg | stat | link
deriving DecidableEq, Repr

/-- The cores and items that a tally is private to now: started and not complete (R117, R150). -/
def State.tallyOwners (s : State) (t : Nat) : List (Nat × Nat) :=
  (List.range 32).flatMap fun c => ((s.core c).items.filter fun it => it.phase != .accepted && it.private_ c t).map fun it => (c, it.key)

/-- An operation on a tally is refused (R150): some item has it as a private tally, and the operation comes from none of them. -/
def State.tallyRefused (s : State) (src : TallySrc) (t : Nat) : Bool :=
  let o := s.tallyOwners t
  match src with
  | .arrival => false
  | .start c => o.any fun x => x.1 != c
  | .item c k => !o.isEmpty && !(o.contains (c, k))
  | _ => !o.isEmpty

def TallySrc.isReg : TallySrc → Bool
  | .reg => true
  | _ => false

/-- Waits of a core on tally t that value v meets are released (R149); a sequencer whose T.WAIT is released goes on. -/
def Core.release (t : Nat) (v : W32) (k : Core) : Core :=
  let rel := fun e : QEntry => match e.wait with
    | some w => if w.tally = t ∧ !w.released ∧ condHolds w.eq v w.value then { e with wait := some { w with released := true } } else e
    | none => e
  let k := { k with fq := k.fq.map rel, xq := k.xq.map rel, wq := k.wq.map rel }
  match k.seqWait with
  | some w => if w.tally = t ∧ condHolds w.eq v w.value then { k with seqWait := none }.advance else k
  | none => k

/-- Races counted as blocked whose lanes follow tally t and are not short of space any more are so no longer (R183, R188). -/
def State.unblock (s : State) (t : Nat) : State :=
  { s with blocked := s.blocked.filter fun r => !((List.range 32).any fun c => s.laneTally r c == some t && !(s.laneShort r c)) }

/-- Every wait on tally t that its value meets is released, and lanes that follow it may end. -/
def State.tallySeen (s : State) (t : Nat) : State :=
  ({ s with cores := s.cores.map (Core.release t (s.tally t)) }.lanesEnd t).unblock t

/-- Unit whose item a tally is private to: the core, else the device. -/
def State.tallyHolder (s : State) (t : Nat) : Nat :=
  match s.tallyOwners t with
  | (c, _) :: _ => s.coreUnit c
  | [] => unitIdOf 2 s.devId 0

/-- One operation of Table 7.1 on tally t, refused under R150: the answer tells whether it was refused. A refusal is counted,
and logged where it does not come from a register write, which records it itself. -/
def State.tallyOp (s : State) (src : TallySrc) (t : Nat) (set : Bool) (v : W32) : State × Bool :=
  if s.tallyRefused src t then
    let s := s.bump (Pg.TALLY t) Off.TALLY.REFUSE_CNT
    (if src.isReg then s else s.logEvent (Pg.TALLY t) ST.STATE (s.tallyHolder t) t, true)
  else
    ((s.setTally t (if set then v else s.tally t + v)).bump (Pg.TALLY t) Off.TALLY.UPD_CNT |>.tallySeen t, false)

/-- The same, when the refusal needs no more. -/
def State.tallyDo (s : State) (src : TallySrc) (t : Nat) (set : Bool) (v : W32) : State := (s.tallyOp src t set v).1

/-- The waits registered now on tallies that satisfy p: at the head of a queue or in a sequencer, not released. -/
def Core.waits (k : Core) : List WaitReg :=
  (k.seqWait.toList ++ (k.fq ++ k.xq ++ k.wq).filterMap (·.wait)).filter fun w => !w.released

/-- The miss-list entry for a tally (R192). -/
def State.missOf (s : State) (t : Nat) : Option Miss := (s.miss.filterMap id).find? fun m => m.tally = t

/-- A wait of an item on tally t that is not met fails with MISSED: the tally is listed and the item's FRAME is not later than
the pruned frame (R192). The answer is DETAIL (Table 9.5). -/
def State.missed (s : State) (it : Item) (t : Nat) : Option Nat :=
  match s.missOf t with
  | some m => if serialLe (descFrame it.desc) m.frame then some (m.race * 2 ^ 18 + m.dev) else none
  | none => none

end Sys2Proof.Machine
end

