-- ==== Sys2Proof/Machine/Records.lean ====
section
/-! DEFINITION. Completion records: their words (Table 1.4), the completion rings (R267), and the ends of quanta and jobs
(R20, R21). -/
namespace Sys2Proof.Machine

/-! ## Ring SRAM under SECDED (R166, R263, R264) -/

/-- A masked write into ring SRAM: a word that is uncorrectable is written only whole, and is sound then. -/
def State.ringStore (s : State) (h o : Nat) (bs : List (Option Byte)) : State :=
  let a := h * 0x100000 + o
  let covered := fun w => decide (a ≤ 4 * w ∧ 4 * w + 4 ≤ a + bs.length) &&
    ((List.range 4).all fun i => (bs.getD (4 * w + i - a) none).isSome)
  let bad := s.ue.filterMap fun e => match e with
    | .ringMem w => if covered w then none else some w
    | _ => none
  let bs' := if bad.isEmpty then bs
    else (List.range bs.length).map fun i => if bad.contains ((a + i) / 4) then none else bs.getD i none
  let whole := fun e => match e with
    | EccLoc.ringMem w => covered w
    | _ => false
  { s.putRing h o bs' with ue := s.ue.filter fun e => !whole e, ce := s.ce.filter fun e => !whole e }

/-! ## Records (Table 1.4) -/

/-- The words of a record but for RING_SEQ. -/
def recWords (d : List W32) (status unit frame stripe lines done failed : Nat) (parent reissued : Bool) (detail : Nat) : List W32 :=
  [d.getD 2 0, d.getD 3 0, BitVec.ofNat 32 (status * 2 ^ 24 + unit), BitVec.ofNat 32 frame,
   BitVec.ofNat 32 (stripe % 2 ^ 16 * 2 ^ 16 + lines % 2 ^ 16), BitVec.ofNat 32 (done % 2 ^ 16 * 2 ^ 16 + failed % 2 ^ 16),
   BitVec.ofNat 32 (parent.toNat * 2 ^ 31 + reissued.toNat * 2 ^ 30 + detail % 2 ^ 24)]

/-- Bytes of words, little-endian (R8). -/
def wordBytes (ws : List W32) : List Byte := ws.flatMap fun w => leBytes 4 w.toNat

def ringHost (n : Nat) : Nat := n / 4
/-- RING_STATE, CPL_LOST, CMD_REFUSE of ring n on its HC page (Table 14.11). -/
def ringOff (o n : Nat) : Nat := o + 0x10 * (n % 4)

/-- A record written into ring n at CPL_TAIL (R267). -/
def State.writeRecord (s : State) (n : Nat) (r : Rec) : State :=
  let t := s.rd (Pg.DB n) Off.DB.CPL_TAIL
  (s.ringStore (ringHost n) (0x80000 + n % 4 * 0x10000 + 32 * (t.toNat % 2048)) ((wordBytes r.words).map some)).wr
    (Pg.DB n) Off.DB.CPL_TAIL (t + 1)

/-- Ring n holds 2,048 unreleased records. -/
def State.ringFull (s : State) (n : Nat) : Bool :=
  decide (2048 ≤ (s.rd (Pg.DB n) Off.DB.CPL_TAIL - s.rd (Pg.DB n) Off.DB.CPL_HEAD).toNat)

def State.pendRecs (s : State) (n : Nat) : List Rec := SMap.get (fun _ => []) s.cplPend n
def State.setPendRecs (s : State) (n : Nat) (l : List Rec) : State := { s with cplPend := SMap.set (fun _ => []) s.cplPend n l }

/-- A record produced for ring n (R267): written, kept waiting, or lost. -/
def State.produce (s : State) (n : Nat) (ws : List W32) : State :=
  let q := s.rd (Pg.DB n) Off.DB.SEQ
  let r : Rec := ⟨ws ++ [q]⟩
  let s := s.wr (Pg.DB n) Off.DB.SEQ (q + 1)
  if !s.ringFull n ∧ (s.pendRecs n).isEmpty then s.writeRecord n r
  else if (s.pendRecs n).length < 64 then s.setPendRecs n (s.pendRecs n ++ [r])
  else
    let p := Pg.HC (ringHost n)
    let s := s.bump p (ringOff Off.HC.CPL_LOST0 n)
    let s := s.wr p (ringOff Off.HC.RING_STATE0 n) (setBit (s.rd p (ringOff Off.HC.RING_STATE0 n)) 31 true)
    let s := (s.wr p Off.HDR.FAULT_SUM (setBit (s.rd p Off.HDR.FAULT_SUM) 2 true)).bump p Off.HDR.EVENT_CNT
    s.logPut { page := p, bit := 2, code := wf ws 2 31 24, time := s.now, unit := wf ws 2 23 0, detail := q,
               arg := BitVec.ofNat 64 ((ws.getD 1 0).toNat * 2 ^ 32 + (ws.getD 0 0).toNat), lostRec := true }

/-- Records that wait are written while the ring has room (at most 64 wait). -/
def State.drainRecs (s : State) (n : Nat) : State :=
  (s.pendRecs n).foldl (fun s r => if s.ringFull n then s else (s.writeRecord n r).setPendRecs n ((s.pendRecs n).drop 1)) s

/-! ## Ends of quanta and jobs -/

def State.job (s : State) (key : Nat) : Option Job := s.jobs.find? fun j => j.key = key
def State.modJob (s : State) (key : Nat) (f : Job → Job) : State := { s with jobs := modFirst (fun j => j.key = key) f s.jobs }
def State.dropJob (s : State) (key : Nat) : State := { s with jobs := s.jobs.filter fun j => j.key ≠ key }

/-- A status code in the Failed class (Table 0.4). -/
def codeFailed (code : Nat) : Bool := decide (code / 16 = 2)

/-- The completion ring of a job, on the device that leads it. -/
def JobSrc.ring? : JobSrc → Option Nat
  | .ring n => some n
  | .launch n => some n
  | .parent _ _ => none

/-- The parent record of a job (R21), once every quantum has ended. -/
def State.parentRecord (s : State) (j : Job) (code detail : Nat) : State :=
  match JobSrc.ring? j.src with
  | some n =>
    let s := s.bump Pg.DEV Off.DEV.REC_CNT
    (s.produce n (recWords j.desc code (descTarget j.desc) (descFrame j.desc).toNat 0xFFFF j.lines j.done j.failed true false detail)).dropJob j.key
  | none => s.dropJob j.key

/-- A child failure is detected (R21): the first decides the parent record; a later one is logged where its fault has no log entry
of its own (R7). -/
def State.noteFail (s : State) (key code detail unit : Nat) (log : Bool) : State :=
  match s.job key with
  | none => s
  | some j => match j.fail, j.src with
    | none, _ => s.modJob key fun j => { j with fail := some (code, detail) }
    | some _, .parent _ _ => s
    | some _, _ => if log then s.logEvent Pg.DEV code unit detail else s

def QuantumSt.hasEnded : QuantumSt → Bool
  | .ended _ => true
  | _ => false

/-- A child item of a job has ended: its record is delivered or absorbed (R20), and the parent record follows once it was the
last (R21). A part of a job led on another device sends the record there (R314). -/
def State.endQuantum (s : State) (key idx code detail unit : Nat) (reissued : Bool) (lines : Nat) : State :=
  match s.job key with
  | none => s
  | some j =>
    let failed := codeFailed code
    let ws := recWords j.desc code unit (descFrame j.desc).toNat idx lines (!failed).toNat failed.toNat false reissued detail
    let s := match j.src with
      | .parent dev pj => s.sendStream dev { op := .recMsg, len := 2, value := pj, words := ws } noWork noWork noWork
      | .ring n => if descRecordMode j.desc ∨ failed then s.produce n ws else s
      | .launch n => if descRecordMode j.desc ∨ failed then s.produce n ws else s
    let j := { j with quanta := modFirst (fun q => q.idx = idx) (fun q => { q with st := .ended code }) j.quanta,
                      fail := j.fail <|> (if failed then some (code, detail) else none),
                      done := j.done + (!failed).toNat, failed := j.failed + failed.toNat, lines := j.lines + lines }
    let s := s.modJob key fun _ => j
    if j.quanta.all fun q => QuantumSt.hasEnded q.st then
      match j.fail with
      | some (c, d) => s.parentRecord j c d
      | none => s.parentRecord j ST.OK 0
    else s

end Sys2Proof.Machine
end

