-- ==== Sys2Proof/Machine/ItemOps.lean ====
section
/-! DEFINITION. Work items on a core: how a unit divides quanta (R25), acceptance (R99), failure (R158, R374), and
completion (R99, R144, R171). -/
namespace Sys2Proof.Machine

/-! ## Dividing quanta (R25) -/

/-- Index of the largest credit, the lowest on a tie. -/
def bestCredit : List Int → Nat → Nat → Int → Nat
  | [], _, b, _ => b
  | c :: cs, i, b, m => if m < c then bestCredit cs (i + 1) i c else bestCredit cs (i + 1) b m

/-- One round of the procedure: the member that takes it and the credits after. -/
def creditRound (w : List Nat) (credit : List Int) : Nat × List Int :=
  let c := List.zipWith (fun (x : Int) (y : Nat) => x + y) credit w
  let m := match c with
    | [] => 0
    | x :: xs => bestCredit xs 1 0 x
  (m, modNth (fun x => x - ((w.foldl (· + ·) 0 : Nat) : Int)) c m)

/-- Members of rounds k on, n rounds in all. -/
def creditRounds (w : List Nat) : Nat → List Int → List Nat
  | 0, _ => []
  | n + 1, cr => (creditRound w cr).1 :: creditRounds w n (creditRound w cr).2

/-- Position in the list of taking members of each of q quanta, for weights w and SPLIT_ROT rot. -/
def divide (w : List Nat) (rot q : Nat) : List Nat := (creditRounds w (rot + q) (w.map fun _ => 0)).drop rot

/-! ## Accepting items -/

/-- Items accepted and not started (R99). -/
def Core.waiting (k : Core) : Nat := (k.items.filter fun it => it.phase == .accepted).length

/-- A core is in RUN while an item is in progress (Table 5.7). -/
def Core.settle (k : Core) : Core :=
  if Core.inService k then { k with st := if k.items.any fun it => it.phase != .accepted then .run else .idle } else k

/-- Group page of a core. -/
def grpOf (c : Nat) : Nat := Pg.GRP (c / 4)

/-- Core c accepts a quantum of a job: a new work item. Its input is available at once where it reads no hopper stream. -/
def State.acceptItem (s : State) (c : Nat) (j : Job) (q : Quantum) : State :=
  let k := s.core c
  let h := (k.programHeader (k.bankFor q.key) (descProgram j.desc)).getD []
  let cl := s.claimOf h j.desc q.idx
  let (rd, s) : Option (Nat × W64) × State := match q.ready with
    | some r => (some r, s)
    | none =>
      let now := match cl with
        | some x => s.claimReady x
        | none => true
      if now then (some (s.readySeq, s.now), { s with readySeq := s.readySeq + 1 }) else (none, s)
  let it : Item := { key := q.key, job := j.key, quantum := q.idx, assigner := q.assigner, desc := j.desc, hdr := h, claim := cl,
                     ready := rd, reissued := q.reissued }
  let s := s.modCore c fun k => { k with items := k.items ++ [it] }
  let s := s.modJob j.key fun j => { j with quanta := modFirst (fun x => x.idx = q.idx) (fun x => { x with st := .onCore c }) j.quanta }
  s.bump (grpOf c) Off.GRP.ITEM_CNT

/-- A quantum goes to core c: accepted, or held while the core has no room (R99). -/
def State.placeQuantum (s : State) (key : Nat) (q : Quantum) (c : Nat) : State :=
  match s.job key with
  | none => s
  | some j =>
    let s := s.modJob key fun j => { j with quanta := modFirst (fun x => x.idx = q.idx) (fun _ => { q with st := .held c }) j.quanta }
    if (s.core c).waiting < 64 then s.acceptItem c j q else s

/-- Quanta held for core c are passed to it while it has room (R99). -/
def State.acceptHeld (s : State) (c : Nat) : State :=
  s.jobs.foldl (fun s j =>
    j.quanta.foldl (fun s q =>
      if q.st = .held c ∧ (s.core c).waiting < 64 then s.acceptItem c j q else s) s) s

/-! ## Windows (R168 to R171) -/

/-- Token by which an S.CLOSE entry waits for window w. -/
def closeToken (w : Nat) : Nat × Nat := (0x10000, w)

/-- A window that is CLOSING and has nothing landing is CLOSED, and an S.CLOSE that waits for it completes. -/
def Core.settleWin (k : Core) (w : Nat) : Core :=
  let x := k.wins.getD w {}
  if x.st = .closing ∧ x.landing.isEmpty then
    { k with wins := k.wins.set w {}, fq := k.fq.map fun e => { e with acks := e.acks.filter fun a => a ≠ closeToken w } }
  else k

/-- Window w goes to CLOSING where it is OPEN. -/
def Core.closeWin (k : Core) (w : Nat) : Core :=
  let x := k.wins.getD w {}
  if x.st = .opened then ({ k with wins := k.wins.set w { x with st := .closing } }).settleWin w else k

/-- Every window that an item holds OPEN goes to CLOSING (R171). -/
def Core.closeWins (k : Core) (key : Nat) : Core :=
  (List.range 8).foldl (fun k w => if (k.wins.getD w {}).item = key then k.closeWin w else k) k

/-! ## Failure on a core that stays in service (R158, R374) -/

/-- The item fails: entries not started are discarded, its OPEN windows go to CLOSING, the sequencer stops reading it. Markers that the
discarded entries stood before retire (R96). -/
def Core.failItem (k : Core) (key code detail : Nat) : Core :=
  let keep := fun e : QEntry => !(e.item == key && e.st == .queued)
  let k := k.modItem key fun it => { it with fail := some (code, detail), phase := if it.phase = .running then .ended else it.phase }
  let k := { k with fq := k.fq.filter keep, xq := k.xq.filter keep, wq := k.wq.filter keep }.dropMarkers
  let k := if k.cur = some key then { k with cur := none, loops := [], seqWait := none, stalled := false } else k
  k.closeWins key

/-- Bands of a failed or lost item are discarded and counted (R232). -/
def State.dropBands (s : State) (c key code : Nat) : State :=
  (List.range 8).foldl (fun s g =>
    let mine := (s.glaze g).bands.filter fun b => b.core == c && b.item == key && !b.closed
    if mine.isEmpty then s
    else
      let s := s.modGlaze g fun z => { z with bands := z.bands.filter fun b => !(b.core == c && b.item == key && !b.closed) }
      (s.bump (Pg.GLZ g) Off.GLZ.ABANDON_CNT mine.length).raise (Pg.GLZ g) 2 code (s.coreUnit c) 0) s

/-- An item fails with a code; a later failure is logged and changes nothing (R7). -/
def State.failOne (s : State) (c key code detail : Nat) : State :=
  match (s.core c).item key with
  | none => s
  | some it => match it.fail with
    | some _ => s.logEvent (Pg.CORE c) code (s.coreUnit c) detail
    | none =>
      let s := s.noteFail it.job code detail (s.coreUnit c) false
      let s := s.modCore c fun k => k.failItem key code detail
      let s := { s with stripes := s.stripes.filter fun x => !(x.core == c && x.item == key && !x.held.isEmpty) }
      (s.freeLanes c key).dropBands c key code

/-- An item fails with MISSED, which sets no FAULT_SUM bit: one log entry (R192, R305). -/
def State.missOne (s : State) (c key detail : Nat) : State :=
  match ((s.core c).item key).bind (·.fail) with
  | some _ => s.failOne c key ST.MISSED detail
  | none => (s.logEvent (Pg.CORE c) ST.MISSED (s.coreUnit c) detail).failOne c key ST.MISSED detail

/-- A wait as DEADLOCK reports it: queue (0 the sequencer, 1 FQ, 2 XQ, 3 WQ), place in the queue, tally, word (R158, Table 18.3). -/
structure WaitAt where
  q : Nat
  slot : Nat
  tally : Nat
  word : Nat
deriving DecidableEq, Repr

/-- ARG of the log entry of a DEADLOCK for waits A and B (Table 18.3). -/
def deadlockArg (a : WaitAt) (b : Option WaitAt) : Nat :=
  a.q * 2 ^ 62 + a.slot * 2 ^ 57 + a.tally * 2 ^ 43 +
  match b with
  | some b => b.q * 2 ^ 41 + b.slot * 2 ^ 36 + b.tally * 2 ^ 22
  | none => 0

/-- DETAIL of DEADLOCK (Table 7.4). -/
def deadlockDetail (kind : Nat) (a : WaitAt) (b : Option WaitAt) : Nat :=
  kind * 2 ^ 22 + a.word % 2048 * 2 ^ 11 + (match b with
    | some b => b.word % 2048
    | none => 0x7FF)

/-- CORE page bit 3 and the log entry of a DEADLOCK, and the failure of its item (R158). -/
def State.deadlockOne (s : State) (c key kind : Nat) (a : WaitAt) (b : Option WaitAt) : State :=
  (s.raise (Pg.CORE c) 3 ST.DEADLOCK (s.coreUnit c) (deadlockDetail kind a b) (deadlockArg a b)).failOne c key ST.DEADLOCK (deadlockDetail kind a b)

/-! ## Registration of waits (R149) -/

/-- Code of a queue in DEADLOCK log entries, as in the Q field (Table 6.18). -/
def queueCode : Queue → Nat
  | .fq => 1
  | .xq => 2
  | .wq => 3

/-- The head of a queue: its first entry that has not started, END markers apart. -/
def Core.head (k : Core) (q : Queue) : Option QEntry := (k.q q).find? fun e => e.st == .queued && !e.marker

/-- The head of a queue whose wait is still to be registered, with its wait as it will be reported: tally, value, wait =. -/
def Core.unregistered (k : Core) (c : Nat) (q : Queue) : Option (QEntry × Item × WaitAt × W32 × Bool) :=
  match k.head q with
  | none => none
  | some e => match e.wait, e.cond, k.item e.item with
    | none, some (o, v, eq), some it =>
      some (e, it, { q := queueCode q, slot := ((k.q q).findIdx fun x => x.key = e.key), tally := it.tally c o, word := e.word }, v, eq)
    | _, _, _ => none

/-- One wait is registered (R149): released at once where its condition holds, failed under R155 or R192, or kept. -/
def State.registerWait (s : State) (c : Nat) (q : Queue) (e : QEntry) (it : Item) (a : WaitAt) (v : W32) (eq : Bool) : State :=
  let holds := condHolds eq (s.tally a.tally) v
  if !holds ∧ s.strict a.tally then s.deadlockOne c it.key 3 a none
  else match holds, s.missed it a.tally with
    | false, some d => s.missOne c it.key d
    | _, _ => s.modCore c fun k => k.modEntry q e.key fun e =>
        { e with wait := some { tally := a.tally, value := v, eq := eq, at_ := s.now, released := holds } }

/-- Waits of the heads of core c's queues are registered; `fuel` covers every entry of the queues. -/
def State.regHeads (s : State) (c : Nat) : Nat → State
  | 0 => s
  | fuel + 1 => match [Queue.fq, .xq, .wq].findSome? fun q => ((s.core c).unregistered c q).map fun x => (q, x) with
    | none => s
    | some (q, e, it, a, v, eq) => (s.registerWait c q e it a v eq).regHeads c fuel

/-- The heads of core c's queues are registered: at most 96 entries stand in them. -/
def State.heads (s : State) (c : Nat) : State := s.regHeads c 128

/-- An item fails with MISSED, and the heads that its discarded entries uncover are registered. -/
def State.missItem (s : State) (c key detail : Nat) : State := (s.missOne c key detail).heads c

/-- An item fails, and the heads that its discarded entries uncover are registered. -/
def State.failItem (s : State) (c key code detail : Nat) : State := (s.failOne c key code detail).heads c

/-- The failure of an item by a DEADLOCK of some kind (R158, Table 7.4). -/
def State.deadlock (s : State) (c key kind : Nat) (a : WaitAt) (b : Option WaitAt) : State := (s.deadlockOne c key kind a b).heads c

/-- An item meets an uncorrectable word (R166, R248, R306). -/
def State.eccFail (s : State) (c key w : Nat) : State := (s.ueMet w (s.coreUnit c)).failItem c key ST.ECC_UNCORR 0

/-! ## Frames that lose lines (R41) -/

/-- DETAIL of DROPPED_FRAME (Table 2.6). -/
def droppedDetail (n cause i line : Nat) : Nat := n * 2 ^ 19 + cause * 2 ^ 16 + i * 2 ^ 14 + line

/-- DETAIL of DROPPED_FRAME for a claim on a frame that lost lines. -/
def State.droppedOf (s : State) (cl : Claim) : Nat :=
  match ((s.port cl.port).stream cl.stream).frame cl.frame with
  | some f =>
    if !f.admitted then droppedDetail cl.port f.cause cl.stream 0x3FFF
    else match f.cut with
      | some (line, cause) => droppedDetail cl.port cause cl.stream line
      | none => 0
  | none => 0

/-- Frame lines that an F.HOP entry reads for line y of its transfer (R128). -/
def QEntry.hopLines (e : QEntry) (y : Nat) : List Int :=
  match e.op with
  | .fHop _ f =>
    let ln := (e.s f.ln.toNat).toInt
    if f.bayer then [ln + 2 * y, ln + 2 * y + 1] else [ln + y]
  | _ => []

/-- A line of a claim's frame at which F.HOP stands still, or never goes on (R39, R41). -/
def State.hopLineSt (s : State) (cl : Claim) (l : Int) : LineSt :=
  if l < 0 ∨ (s.imgHeight cl.port : Int) ≤ l then .delivered else s.lineStatus cl.port cl.stream cl.frame l.toNat

/-- F.HOP entries in flight that wait for a line that will not come write no more rows and make no update (R41, R374). -/
def State.cutHops (s : State) (c key : Nat) (cl : Claim) : State :=
  s.modCore c fun k => { k with fq := k.fq.map fun e =>
    if e.item = key ∧ e.st = .started ∧ (e.pend.any fun p => (e.hopLines (p.1 % 1024)).any fun l => s.hopLineSt cl l == .never)
    then { e with pend := [], noUpd := true } else e }

/-- A line of an item's claim will not be delivered: the item fails with DROPPED_FRAME, or, where it had failed before, that is logged
once (R7, R41). -/
def State.dropItem (s : State) (c : Nat) (it : Item) (cl : Claim) : State :=
  let s := s.cutHops c it.key cl
  match it.fail with
  | none => (s.modCore c fun k => k.modItem it.key fun it => { it with dropLogged := true }).failItem c it.key ST.DROPPED_FRAME (s.droppedOf cl)
  | some _ =>
    if it.dropLogged then s
    else (s.modCore c fun k => k.modItem it.key fun it => { it with dropLogged := true }).logEvent (Pg.CORE c) ST.DROPPED_FRAME
      (s.coreUnit c) (s.droppedOf cl)

/-- A quantum that its unit holds for core c fails (R41, R309): counted by the group (Table 16.4). -/
def State.failHeld (s : State) (key idx c code detail : Nat) (re log : Bool) : State :=
  ((s.noteFail key code detail (s.coreUnit c) log).bump (grpOf c) Off.GRP.FAIL_CNT).endQuantum key idx code detail (s.coreUnit c) re 0

/-- Items whose claim holds a line that will not be delivered end with DROPPED_FRAME, also quanta still held for a core. -/
def State.dropClaims (s : State) : State :=
  let s := (List.range 32).foldl (fun s c =>
    (s.core c).items.foldl (fun s it =>
      match it.claim with
      | some cl => if s.claimLost cl then s.dropItem c it cl else s
      | none => s) s) s
  s.jobs.foldl (fun s j =>
    j.quanta.foldl (fun s q =>
      match s.heldClaim j q, q.st with
      | some cl, .held c => if s.claimLost cl then s.failHeld j.key q.idx c ST.DROPPED_FRAME (s.droppedOf cl) q.reissued false else s
      | _, _ => s) s) s

/-! ## Completion -/

/-- What an item holds besides its record: lanes, stripes, claim, bands. -/
def State.releaseItem (s : State) (c : Nat) (it : Item) (failed : Bool) : State :=
  let s := s.freeLanes c it.key
  let s := { s with stripes := s.stripes.filter fun x => !(x.core == c && x.item == it.key) }
  let s := if failed then s.dropBands c it.key ((it.fail.map (·.1)).getD ST.CORE_LOST) else s
  let s := s.modCore c fun k => { k with items := k.items.filter fun x => x.key ≠ it.key }
  s.claimEnded it.claim

/-- An item ends with a status: its counters, its record, what it held. -/
def State.finishItem (s : State) (c : Nat) (it : Item) (code detail : Nat) : State :=
  let failed := codeFailed code
  let s := if failed ∧ it.fail.isNone then s.noteFail it.job code detail (s.coreUnit c) true else s
  let s := s.releaseItem c it failed
  let s := s.bump (Pg.CORE c) (if failed then Off.CORE.ITEM_FAIL_CNT else Off.CORE.ITEM_CNT)
  let s := s.bump (grpOf c) (if failed then Off.GRP.FAIL_CNT else Off.GRP.DONE_CNT)
  let s := s.endQuantum it.job it.quantum code detail (s.coreUnit c) it.reissued (if failed then 0 else quantumLines it.desc it.quantum)
  (s.modCore c Core.settle).acceptHeld c

/-- The item of core c that completes next (R99): of those started the first, else one that failed before its start. -/
def Core.ending (k : Core) (isOver : Item → Bool) : Option Item :=
  match k.items.find? fun it => it.phase != .accepted with
  | some it => if isOver it then some it else k.items.find? fun it => it.phase == .accepted && isOver it
  | none => k.items.find? isOver

/-- An item can end (R99, R144, R171, R374): it has been read to END or has failed, none of its entries stands in a queue, its
windows are CLOSED, and everything it sent has been acknowledged or abandoned. -/
def State.itemOver (s : State) (c : Nat) (it : Item) : Bool :=
  let k := s.core c
  (it.phase == .ended || it.fail.isSome) &&
  !((k.fq ++ k.xq ++ k.wq).any fun e => e.item == it.key) &&
  !(k.wins.any fun w => w.st != .closed && w.item == it.key) &&
  !(s.heldForItem c it.key)

end Sys2Proof.Machine
end

