-- ==== Sys2Proof/Machine/PortOps.lean ====
section
/-! DEFINITION. Sensor ports (R31, R33, R34, R36, R37, R40 to R46, R333, R335, R352): states and commands, frames cut, correction copies and
table swaps, the registers of an SP page. -/
namespace Sys2Proof.Machine

/-! ## Refusals and streams -/

/-- A command, register write or swap of a port is refused: LAST_CODE, logged, FAULT_SUM bit 3 (R31, R46). -/
def State.portRefuse (s : State) (n code : Nat) : State :=
  (s.wrF (Pg.SP n) Off.SP.PORT_STATE 23 16 code).raise (Pg.SP n) 3 code (unitIdOf 2 s.devId 0) n

/-- Enabled streams of a port, ascending. -/
def State.enabled (s : State) (n : Nat) : List Nat := (List.range 4).filter (s.streamEn n)

/-- Enabled streams of a virtual channel. -/
def State.onVc (s : State) (n vc : Nat) : List Nat := (s.enabled n).filter fun i => decide (fld (s.streamReg n i) 30 26 = vc)

/-- The port is in STREAM or STOPPING. -/
def Port.flowing (p : Port) : Bool := p.st == .stream || p.st == .stopping

/-- PIX_RATE of a port. -/
def State.pixRate (s : State) (n : Nat) : Nat := s.rdF (Pg.SP n) Off.SP.PIX_RATE 15 0

/-! ## Frames cut (R40, R41) -/

/-- A frame that loses lines is counted, FAULT_SUM bit 1 is set, and the items that claim a lost line end. -/
def State.frameLost (s : State) (n cause i line : Nat) : State :=
  ((s.bump (Pg.SP n) Off.SP.DROP_CNT).raise (Pg.SP n) 1 ST.DROPPED_FRAME (unitIdOf 2 s.devId 0) (droppedDetail n cause i line)).dropClaims

/-- The frame in progress of a stream, or any frame of it, is cut at a line (R40); a frame already cut is cut earlier only by an earlier
line, and keeps its cause. -/
def State.cutFrame (s : State) (n i : Nat) (f : W32) (line cause : Nat) : State :=
  match ((s.port n).stream i).frame f with
  | none => s
  | some fr =>
    if !fr.admitted then s
    else match fr.cut with
      | none =>
        let s := s.modPort n fun p => p.modStream i fun st => st.modFrame f fun x => { x with cut := some (line, cause), feTime := s.now }
        s.frameLost n cause i line
      | some (l, c) =>
        if line < l then (s.modPort n fun p => p.modStream i fun st => st.modFrame f fun x => { x with cut := some (line, c) }).dropClaims
        else s

/-- Lines of a frame that have arrived: taken in, in the holding lines, or lost in a frame that was not admitted. -/
def Stream.received (st : Stream) (f : W32) : Nat :=
  ((st.frame f).map fun x => x.lines + x.lost).getD 0 + (st.rx.filter fun l => l.frame == f).length

/-- The frame in progress of a stream ends. -/
def State.endFrame (s : State) (n i : Nat) : State :=
  match ((s.port n).stream i).cur with
  | none => s
  | some f =>
    let s := s.modPort n fun p => p.modStream i fun st =>
      { (st.modFrame f fun x => { x with ended := true, feTime := if x.cut.isSome then x.feTime else s.now }) with cur := none }
    s.pruneFrames n i

/-- A port leaves STREAM or STOPPING in the middle of frames: each is cut with cause 0b010, the holding lines are lost (R31, R33). -/
def State.cutAll (s : State) (n : Nat) : State :=
  (List.range 4).foldl (fun s i =>
    let st := (s.port n).stream i
    let s := s.modPort n fun p => p.modStream i fun st => { st with rx := [] }
    let s := (st.rx.map (·.frame)).eraseDups.foldl (fun s f => s.cutFrame n i f (((st.frame f).map (·.lines)).getD 0) 2) s
    match st.cur with
    | some f => (s.cutFrame n i f (((st.frame f).map (·.lines)).getD 0) 2).endFrame n i
    | none => s) s

/-! ## Correction copies (R36, R44) -/

/-- Register k of a copy, in the order CFA, BLACK0-3, LIN_CTRL, GAIN_CTRL, DEF_CTRL, VST_CTRL, VST_A0-3, VST_B0-3. -/
def CorrCopy.reg (c : CorrCopy) (k : Nat) : W32 := SMap.get (fun _ => 0) c.regs k
/-- Entry i of table t of a copy. -/
def CorrCopy.entry (c : CorrCopy) (t i : Nat) : W32 := SMap.get (fun _ => 0) c.tbl (16384 * t + i)
def CorrCopy.setReg (c : CorrCopy) (k : Nat) (v : W32) : CorrCopy := { c with regs := SMap.set (fun _ => 0) c.regs k v, ver := none }
def CorrCopy.setEntry (c : CorrCopy) (t i : Nat) (v : W32) : CorrCopy := { c with tbl := SMap.set (fun _ => 0) c.tbl (16384 * t + i) v, ver := none }

/-- Place of a correction register in a copy, and its offset on the page. -/
def CorrReg.idx : CorrReg → Nat
  | .cfa => 0
  | .black p => 1 + p
  | .linCtrl => 5
  | .gainCtrl => 6
  | .defCtrl => 7
  | .vstCtrl => 8
  | .vstA p => 9 + p
  | .vstB p => 13 + p

/-- Offsets of the correction registers in the order of a copy. -/
def corrOffs : List Nat :=
  [Off.SP.CFA, Off.SP.BLACK0, Off.SP.BLACK1, Off.SP.BLACK2, Off.SP.BLACK3, Off.SP.LIN_CTRL, Off.SP.GAIN_CTRL, Off.SP.DEF_CTRL,
   Off.SP.VST_CTRL, Off.SP.VST_A0, Off.SP.VST_A1, Off.SP.VST_A2, Off.SP.VST_A3, Off.SP.VST_B0, Off.SP.VST_B1, Off.SP.VST_B2, Off.SP.VST_B3]

/-- Last index of a table (R45, R373). -/
def tblLast (t : Nat) : Nat := if t = 0 then 64 else if t = 1 then 12739 else 8191

/-- Defect entry i as (line, column). -/
def CorrCopy.defect (c : CorrCopy) (i : Nat) : Nat × Nat := (fld (c.entry 2 i) 27 14, fld (c.entry 2 i) 13 0)

/-- Defect entries in strictly ascending order of (line, column) and within the image. -/
def defectsGood (w h : Nat) : List (Nat × Nat) → Bool
  | [] => true
  | (y, x) :: r => decide (y < h ∧ x < w) && defectsGood w h r && match r with
    | (y', x') :: _ => decide (y < y' ∨ (y = y' ∧ x < x'))
    | [] => true

/-- A copy may become active for an image of that size (R36). -/
def CorrCopy.fits (c : CorrCopy) (w h : Nat) : Bool :=
  let g := c.reg 6
  let d := c.reg 7
  (!(bit g 31) || (decide (w - 1 ≤ (fld g 30 24 - 1) * 2 ^ fld g 3 0) && decide (h - 1 ≤ (fld g 22 16 - 1) * 2 ^ fld g 11 8))) &&
  (!(bit d 31) || defectsGood w h ((List.range (fld d 13 0)).map c.defect))

/-- The two copies exchange, or the swap is refused with BAD_DESC (R36, R44). -/
def State.swapTables (s : State) (n : Nat) : State :=
  let p := s.port n
  if p.stby.fits (s.imgWidth n) (s.imgHeight n) then
    s.modPort n fun p => { p with act := p.stby, stby := p.act, swapPend := false }
  else (s.modPort n fun p => { p with swapPend := false }).portRefuse n ST.BAD_DESC

/-- A pending swap takes effect. -/
def State.doPending (s : State) (n : Nat) : State := if (s.port n).swapPend then s.swapTables n else s

/-- A swap is requested: at once, or at the next frame start of the stream that takes frame numbers (R44). R36 gives no moment for the test
of a swap that waits: DESIGN CHOICE (log entry 67), at the request and again when it takes effect. -/
def State.requestTables (s : State) (n : Nat) : State :=
  if (s.port n).flowing then
    if (s.port n).stby.fits (s.imgWidth n) (s.imgHeight n) then s.modPort n fun p => { p with swapPend := true }
    else s.portRefuse n ST.BAD_DESC
  else s.swapTables n

/-- Tables of the port are held for a set that is loading, staged or being applied (R333). -/
def State.tablesHeld (s : State) (n : Nat) : Bool := s.cfgBusy && s.mgmt.covered.contains n

/-- TBL_SWAP by register or by launch (R44, R333). -/
def State.tblSwap (s : State) (n : Nat) : State := if s.tablesHeld n then s.portRefuse n ST.STATE else s.requestTables n

/-! ## States -/

/-- A port takes a new state: a swap pending takes effect when it leaves STREAM and STOPPING (R44); in IDLE and LOST it leaves COVERED
(R333); in OFF and IDLE no sensor is identified. -/
def State.setPort (s : State) (n : Nat) (st : PortSt) : State :=
  let s := s.modPort n fun p => { p with st := st }
  let s := if (s.port n).flowing then s else s.doPending n
  let s := if st = .idle ∨ st = .lost then { s with mgmt := { s.mgmt with covered := s.mgmt.covered.filter (· ≠ n) } } else s
  if st = .idle ∨ st = .off then (s.modPort n fun p => { p with profile := none }).wrF (Pg.SP n) Off.SP.PORT_STATE 15 12 0xF else s

/-- The bus of a port. -/
def busOf (n : Nat) : Nat := n / 2

/-- A transfer in progress that its port gives up; it is not broken off (R30). -/
def Xfer.giveUp (n : Nat) (x : Xfer) : Xfer := if x = .proc n ∨ x = .exposure n then .stale n else x

/-- The port's transfers taken off its bus, its exposure writes given up. -/
def State.offBus (s : State) (n : Nat) : State :=
  (s.modPort n fun p => { p with expOut := [] }).modBus (busOf n) fun b =>
    { b with cur := b.cur.map (Xfer.giveUp n), waiting := b.waiting.filter (· ≠ n), exps := b.exps.filter (· ≠ n) }

/-- A procedure of the port is given up. -/
def State.endProc (s : State) (n : Nat) : State := (s.modPort n fun p => { p with proc := .none }).offBus n

/-- The sensor has vanished (R33): LOST, logged with the port number. -/
def State.goLost (s : State) (n : Nat) : State :=
  (((s.cutAll n).endProc n).setPort n .lost).raise (Pg.SP n) 0 ST.DROPPED_FRAME (unitIdOf 2 s.devId 0) n

/-- A port goes to OFF (R31). -/
def State.portOff (s : State) (n : Nat) : State := ((s.cutAll n).endProc n).setPort n .off

/-- EN set: the port leaves OFF where its domain is on; refused on a port that failed the firing (R31, R352). -/
def State.portOn (s : State) (n : Nat) : State :=
  if h : n < 24 then
    if s.power.failed.contains (.sensorPort ⟨n, h⟩) then s.portRefuse n ST.STATE
    else
      let s := s.wrF (Pg.SP n) Off.SP.INTAKE_CTRL 31 31 1
      if s.domainOn (portDomain n) ∧ (s.port n).st = .off then s.setPort n .idle else s
  else s

/-- PORT_ENABLE (R31): setting EN with the domain on takes the port from OFF to IDLE. -/
def execPortEnable (_src : Agent) (port : Fin 24) (s : State) : Out := .next (s.portOn port)

/-- EN cleared. -/
def State.portClear (s : State) (n : Nat) : State := (s.wrF (Pg.SP n) Off.SP.INTAKE_CTRL 31 31 0).portOff n

/-- PORT_DISABLE (R31): clearing EN takes the port to OFF at once and cuts any frame in progress. -/
def execPortDisable (_src : Agent) (port : Fin 24) (s : State) : Out := .next (s.portClear port)

/-- TBL_SWAP (R44): requests a table swap. -/
def execTblSwap (_src : Agent) (port : Fin 24) (s : State) : Out := .next (s.tblSwap port)

/-! ## Correction registers and tables by register (R44, R45, R373) -/

/-- The port is in OFF, IDLE or READY. -/
def Port.writable (p : Port) : Bool := p.st == .off || p.st == .idle || p.st == .ready

/-- A write of a register of an SP page would set a field outside its range (R45). -/
def spBad (n off : Nat) (v : W32) : Bool :=
  if off = Off.SP.MCLK_CTRL then decide (n % 2 = 0 ∧ (fld v 8 0 < 40 ∨ 400 < fld v 8 0))
  else if off = Off.SP.FSYNC_CTRL then decide (fld v 15 0 = 0)
  else if off = Off.SP.STREAM0 ∨ off = Off.SP.STREAM1 ∨ off = Off.SP.STREAM2 ∨ off = Off.SP.STREAM3 then
    decide ((fld v 12 8 = 0 ∧ bit v 31) ∨ 16 < fld v 12 8 ∨ fld v 19 18 = 3)
  else if off = Off.SP.PHY_CFG then decide (fld v 26 24 = 0 ∨ 4 < fld v 26 24)
  else if off = Off.SP.LIN_CTRL then decide (14 < fld v 3 0)
  else if off = Off.SP.GAIN_CTRL then
    bit v 31 && decide (fld v 30 24 < 2 ∨ 65 < fld v 30 24 ∨ fld v 22 16 < 2 ∨ 49 < fld v 22 16 ∨ fld v 3 0 < 4 ∨ 10 < fld v 3 0 ∨
      fld v 11 8 < 4 ∨ 10 < fld v 11 8)
  else if off = Off.SP.DEF_CTRL then decide (8192 < fld v 13 0)
  else if off = Off.SP.FRAME_GEOM then
    decide (fld v 13 0 ≠ 0 ∧ (fld v 13 0 % 2 = 1 ∨ fld v 13 0 < 64 ∨ 8192 < fld v 13 0)) ||
    decide (fld v 29 16 ≠ 0 ∧ (fld v 29 16 < 2 ∨ 16383 < fld v 29 16))
  else if off = Off.SP.TBL_SEL then decide (fld v 31 30 = 3) || decide (tblLast (fld v 31 30) < fld v 13 0)
  else false

/-- A correction-register write (register k of a copy): writes both copies. -/
def State.corrWrite (s : State) (n k : Nat) (v : W32) : State :=
  let off := corrOffs.getD k 0
  if spBad n off v then s.portRefuse n ST.BAD_DESC
  else if !(s.port n).writable ∨ (s.port n).swapPend ∨ s.tablesHeld n then s.portRefuse n ST.STATE
  else match RegMap.lookup (Pg.SP n) off with
    | some d =>
      let x := v &&& BitVec.ofNat 32 d.rw
      s.modPort n fun p => { p with act := p.act.setReg k x, stby := p.stby.setReg k x }
    | none => s

/-- CORRECTION_REG_WRITE (R44): writes both copies, refused in the wrong port state or while a swap is pending. -/
def execCorrectionRegWrite (_src : Agent) (port : Fin 24) (reg : CorrReg) (v : W32) (s : State) : Out :=
  .next (s.corrWrite port (CorrReg.idx reg) v)

/-- TBL and INDEX of TBL_SEL, and INDEX moved on (R373). -/
def State.tblSel (s : State) (n : Nat) : Nat × Nat := (s.rdF (Pg.SP n) Off.SP.TBL_SEL 31 30, s.rdF (Pg.SP n) Off.SP.TBL_SEL 13 0)
def State.tblNext (s : State) (n : Nat) : State :=
  let x := s.tblSel n
  s.wrF (Pg.SP n) Off.SP.TBL_SEL 13 0 (if x.2 = tblLast x.1 then 0 else x.2 + 1)

/-- Bits of an entry of a table (Table 2.8). -/
def tblMask (t : Nat) : W32 := if t = 0 then 0xFFFFFF else if t = 1 then 0xFFFF else 0xFFFFFFF

/-- A TBL_DATA write: into the standby copy. -/
def State.tblWrite (s : State) (n : Nat) (v : W32) : State :=
  if (s.port n).swapPend ∨ s.tablesHeld n then s.portRefuse n ST.STATE
  else
    let x := s.tblSel n
    (s.modPort n fun p => { p with stby := p.stby.setEntry x.1 x.2 (v &&& tblMask x.1) }).tblNext n

/-- TBL_DATA_WRITE (R44): stores a standby table entry and advances TBL_SEL.INDEX. -/
def execTblDataWrite (_src : Agent) (port : Fin 24) (v : W32) (s : State) : Out := .next (s.tblWrite port v)

/-- The entry that TBL_DATA shows. -/
def State.tblWord (s : State) (n : Nat) : W32 := (s.port n).stby.entry (s.tblSel n).1 (s.tblSel n).2

/-- TBL_DATA_READ (R373): a read by the management controller returns the entry and advances the index. -/
def execTblDataRead (port : Fin 24) (s : State) : Out := .next { s.tblNext port with out := [s.tblWord port] }

/-! ## Statistics configuration (R302) -/

/-- Port of a selection of STAT_SEL, and the selection. -/
def State.statSel (s : State) : Nat := s.rdF Pg.STAT Off.STAT.STAT_SEL 6 0

/-- A STAT write is refused (Table 16.6). -/
def State.statRefuse (s : State) (code : Nat) : State :=
  (s.wr Pg.STAT Off.STAT.STAT_CODE (BitVec.ofNat 32 (code * 2 ^ 24 + s.statSel))).logState Pg.STAT code (unitIdOf 2 s.devId 0)
    Off.STAT.STAT_CODE

/-- Ring base and depth of a selection. -/
def State.statBase (s : State) (k : Nat) : Nat :=
  s.rdF Pg.STAT Off.STAT.RING_BASE_HI 6 0 k * 2 ^ 32 + (s.rd Pg.STAT Off.STAT.RING_BASE_LO k).toNat
def State.statDepth (s : State) (k : Nat) : Nat := s.rdF Pg.STAT Off.STAT.RING_DEPTH 11 0 k

/-- The n bytes from a on lie in host window SRAM, of one channel or of several. -/
def inWindow (a n : Nat) : Bool := decide (hwBase ≤ a ∧ a + n ≤ hwBase + 4 * 0x800000)

/-- A write that sets EN takes effect (R302). -/
def State.statGood (s : State) (k : Nat) (v : W32) : Bool :=
  decide (s.statBase k % 0x4000 = 0 ∧ s.statDepth k ≠ 0 ∧ fld v 20 16 ≤ 16) &&
  (inWindow (s.statBase k) (0x4000 * s.statDepth k) || decide (s.regionOf (s.statBase k) (0x4000 * s.statDepth k) = some .lpddr))

/-- Offset of a register of the selected stream. -/
def StatReg.off : StatReg → Nat
  | .cfg => Off.STAT.STAT_CFG
  | .baseLo => Off.STAT.RING_BASE_LO
  | .baseHi => Off.STAT.RING_BASE_HI
  | .depth => Off.STAT.RING_DEPTH

/-- A write to a register of the selected stream. -/
def State.statWrite (s : State) (reg : StatReg) (v : W32) : State :=
  let k := s.statSel
  if reg = .cfg ∧ bit v 31 ∧ !(s.statGood k v) then s.statRefuse ST.BAD_DESC
  else if (s.port (k / 4)).flowing then s.statRefuse ST.STATE
  else s.wrMasked Pg.STAT (StatReg.off reg) v k

/-- A write to STAT_SEQ, which is read only, is refused like those to the other registers of the selected stream. -/
def State.statSeqWrite (s : State) : State := if (s.port (s.statSel / 4)).flowing then s.statRefuse ST.STATE else s

/-- STAT_CFG_WRITE (R302): a write to a stream's statistics configuration, validated when it sets EN. -/
def execStatCfgWrite (_src : Agent) (reg : StatReg) (v : W32) (s : State) : Out := .next (s.statWrite reg v)

end Sys2Proof.Machine
end

