-- ==== Sys2Proof/Machine/PortProc.lean ====
section
/-! DEFINITION. Probing, training and scripts (R29, R30, R32, R331, R377), the commands of a port (R31, R34, R37, R61), losing a sensor (R33),
exposure writes on a bus (R30, R63, R64). Answers to bus transfers are the command's. -/
namespace Sys2Proof.Machine

/-! ## The bus (R30) -/

/-- The next transfer of a bus begins, exposure writes first. -/
def State.busNext (s : State) (k : Nat) : State :=
  s.modBus k fun b => match b.cur, b.exps, b.waiting with
    | some _, _, _ => b
    | none, n :: r, _ => { b with cur := some (.exposure n), exps := r }
    | none, [], n :: r => { b with cur := some (.proc n), waiting := r }
    | none, [], [] => b

/-- A transfer of a bus has ended: it is counted, and whether it was I2C (R298). -/
def Bus.over (b : Bus) (i2c ack : Bool) : Bus :=
  { b with cur := none, i2c := i2c, xfers := min (b.xfers + 1) 0xFFFFFFFF, nacks := min (b.nacks + (!ack).toNat) 0xFFFFFFFF }

/-- Rate of a bus in kHz (R29, R298). -/
def Bus.rate (b : Bus) : Nat := Config.busRate b.i2c

/-- A port asks for its next transfer. -/
def State.askBus (s : State) (n : Nat) : State := (s.modBus (busOf n) fun b => { b with waiting := b.waiting ++ [n] }).busNext (busOf n)

/-- The procedure of a port goes on with p, which needs a transfer. -/
def State.procAsk (s : State) (n : Nat) (p : Proc) : State := (s.modPort n fun x => { x with proc := p }).askBus n

/-! ## Candidates and modes -/

/-- Candidate c of a port in the active set (R330). -/
def State.candidate (s : State) (n c : Nat) : Option Profile :=
  s.mgmt.active.bind fun cs => (cs.profiles.find? fun p => p.id = (cs.portmap.getD n []).getD c 0xFFFF ∧ p.id ≠ 0xFFFF)

/-- The first candidate at or after c; four stand in the list at most. -/
def State.nextCandidate (s : State) (n c : Nat) : Option Nat :=
  (List.range 4).find? fun i => decide (c ≤ i) && (s.candidate n i).isSome

/-- Lanes or trios of a mode within Table 2.1: 1, 2 or 4 for D-PHY, 1 to 3 for C-PHY (log entry 41). -/
def lanesOk (m : SMode) : Bool := if m.phy = 0 then decide (m.lanes = 1 ∨ m.lanes = 2 ∨ m.lanes = 4) else decide (1 ≤ m.lanes ∧ m.lanes ≤ 3)

/-- Mode m of a profile is eligible on the port (R32, Table 2.1). -/
def State.eligible (s : State) (n : Nat) (m : SMode) : Bool :=
  lanesOk m && decide (m.lanes ≤ s.rdF (Pg.SP n) Off.SP.PHY_CFG 26 24) && decide (80 ≤ m.rate ∧ m.rate ≤ if m.phy = 0 then 4500 else 6000) &&
  decide (m.pixRate ≤ 1600)

/-- The first eligible mode at or after m. -/
def State.nextMode (s : State) (n : Nat) (p : Profile) (m : Nat) : Option Nat :=
  (List.range p.modes.length).find? fun i => decide (m ≤ i) && match p.modes[i]? with
    | some x => s.eligible n x
    | none => false

/-- First step of a script. -/
def scriptStart (p : Profile) (m : Nat) : Script → Nat
  | .init => p.initStep
  | .trainStart i => (p.modes[i]?.map (·.start)).getD 0
  | .trainStop i _ => (p.modes[i]?.map (·.stop)).getD 0
  | .streamStart => (p.modes[m]?.map (·.start)).getD 0
  | .streamStop => (p.modes[m]?.map (·.stop)).getD 0

/-- Mode that PORT_STATE names. -/
def State.portMode (s : State) (n : Nat) : Nat := s.rdF (Pg.SP n) Off.SP.PORT_STATE 11 8

/-! ## READY (R377) -/

/-- The writable bits of correction register k (Table 2.8). -/
def corrMask (k : Nat) : W32 := BitVec.ofNat 32 (((RegMap.lookup (Pg.SP 0) (corrOffs.getD k 0)).map fun d => d.rw).getD 0)

/-- The images and tables of a profile in a copy: the gain grid of GX × GY knots per phase, the defect list, the curve. -/
def loadCopy (c : CorrCopy) (p : Profile) (ver : W32) : CorrCopy :=
  let c := (p.images.zipIdx).foldl (fun c v => CorrCopy.setReg c v.2 (v.1 &&& corrMask v.2)) c
  let gx := fld (p.images.getD 6 0) 30 24
  let gy := fld (p.images.getD 6 0) 22 16
  let c := (p.knots.zipIdx).foldl (fun c v => c.setEntry 0 v.2 (BitVec.ofNat 32 v.1)) c
  let c := (p.gains.zipIdx).foldl (fun c v =>
    if gx * gy = 0 then c
    else c.setEntry 1 (v.2 / (gx * gy) * 3185 + v.2 % (gx * gy) / gx * 65 + v.2 % gx) (BitVec.ofNat 32 v.1)) c
  let c := (p.defects.zipIdx).foldl (fun c v => c.setEntry 2 v.2 (BitVec.ofNat 32 v.1)) c
  { c with ver := some ver }

/-- The port is configured from its profile and mode m and reads READY (R377, Table 2.4). -/
def State.portReady (s : State) (n c m : Nat) : State :=
  match (s.port n).profile with
  | none => s
  | some p => match p.modes[m]? with
    | none => s
    | some x =>
      let g := Pg.SP n
      let s := (s.wr g Off.SP.FRAME_GEOM (BitVec.ofNat 32 (x.height * 2 ^ 16 + x.width))).wr g Off.SP.PIX_RATE (BitVec.ofNat 32 x.pixRate)
      let s := s.wr g Off.SP.STREAM0 (BitVec.ofNat 32 (2 ^ 31 + x.vc * 2 ^ 26 + x.dt * 2 ^ 20 + x.pack * 2 ^ 18 + 16 * 2 ^ 8))
      let s := (s.wrF g Off.SP.PORT_STATE 15 12 c).wrF g Off.SP.PORT_STATE 11 8 m
      let s := ((s.wrF g Off.SP.PORT_STATE 7 6 x.phy).wrF g Off.SP.PORT_STATE 2 0 x.lanes).wr g Off.SP.LINK_RATE (BitVec.ofNat 32 x.rate)
      let ver := (s.mgmt.active.map (·.version)).getD 0
      let s := s.modPort n fun q => { q with proc := .none, stby := loadCopy q.stby p ver }
      ((s.swapTables n).setPort n .ready).logEvent g ST.OK (unitIdOf 2 s.devId 0) n

/-! ## Scripts and training -/

/-- The port stands at a step of a script: a WRITE asks for the bus, a WAIT counts rig time. The answer is true at the end of the script. -/
def State.atStep (s : State) (n c : Nat) (k : Script) (i : Nat) : State × Bool :=
  match (s.port n).profile.bind fun p => p.steps[i]? with
  | some x =>
    if x.op = 1 then (s.procAsk n (.script c k i none), false)
    else if x.op = 2 then (s.modPort n fun p => { p with proc := .script c k i (some (s.now + x.data.setWidth 64)) }, false)
    else (s, true)
  | none => (s, true)

/-- The step a script begins at. -/
def State.beginStep (s : State) (n : Nat) (k : Script) : Nat :=
  match (s.port n).profile with
  | some p => scriptStart p (s.portMode n) k
  | none => 0

/-- No sensor was identified, or no mode trained: the port is IDLE again (R32). -/
def State.probeFailed (s : State) (n : Nat) : State :=
  ((s.endProc n).setPort n .idle).logEvent (Pg.SP n) ST.STATE (unitIdOf 2 s.devId 0) n
def State.trainFailed (s : State) (n : Nat) : State :=
  ((s.endProc n).setPort n .idle).raise (Pg.SP n) 4 ST.STATE (unitIdOf 2 s.devId 0) n

/-- What follows a script that has ended; `fuel` covers the modes of a profile, whose scripts may be empty. -/
def State.scriptEnd (s : State) (n c : Nat) (k : Script) : Nat → State
  | 0 => s
  | fuel + 1 =>
    let modeFrom := fun (s : State) (m : Nat) => match (s.port n).profile with
      | none => s.trainFailed n
      | some p => match s.nextMode n p m with
        | none => s.trainFailed n
        | some m => match s.atStep n c (.trainStart m) (s.beginStep n (.trainStart m)) with
          | (s, false) => s
          | (s, true) => s.scriptEnd n c (.trainStart m) fuel
    match k with
    | .init => modeFrom (s.setPort n .training) 0
    | .trainStart m => s.modPort n fun p => { p with proc := .train c m (s.now + 2000000) 0 }
    | .trainStop m true => s.portReady n c m
    | .trainStop m false => modeFrom s (m + 1)
    | .streamStart => s.modPort n fun p => { p with proc := .none }
    | .streamStop => (s.modPort n fun p => { p with proc := .none }).setPort n .ready

/-- A script of the port goes on at a step. -/
def State.runStep (s : State) (n c : Nat) (k : Script) (i : Nat) : State :=
  match s.atStep n c k i with
  | (s, false) => s
  | (s, true) => s.scriptEnd n c k 20

/-- A script of the port starts. -/
def State.runScript (s : State) (n c : Nat) (k : Script) : State := s.runStep n c k (s.beginStep n k)

/-- A STOPPING port whose frames have ended and whose start script is over runs the stop script (Table 2.3). -/
def State.tryStop (s : State) (n : Nat) : State :=
  let p := s.port n
  if p.st = .stopping ∧ p.proc = .none ∧ (p.streams.all fun st => st.cur.isNone) then s.runScript n 0 .streamStop else s

/-- The training of mode m has succeeded or timed out: its stop script follows. -/
def State.trainOver (s : State) (n c m : Nat) (ok : Bool) : State := s.runScript n c (.trainStop m ok)

/-- A packet header seen while a mode trains: 16 clean ones in a row succeed, once deskew is complete, within the 20 ms (R32). -/
def State.trainSee (s : State) (n : Nat) (clean deskewed : Bool) : State :=
  match (s.port n).proc with
  | .train c m d k =>
    if d < s.now then s
    else if !clean then s.modPort n fun p => { p with proc := .train c m d 0 }
    else if k + 1 < 16 ∨ !deskewed then s.modPort n fun p => { p with proc := .train c m d (min (k + 1) 16) }
    else s.trainOver n c m true
  | _ => s

/-! ## Commands of a port -/

/-- PROBE in IDLE: the ID registers of the candidates are read (R32). -/
def State.startProbe (s : State) (n : Nat) : State :=
  let s := s.setPort n .probing
  match s.nextCandidate n 0 with
  | some c => s.procAsk n (.idRead c)
  | none => s.probeFailed n

/-- The enabled streams of a port overlap or exceed 16 units (R37). -/
def State.partsBad (s : State) (n : Nat) : Bool :=
  let r := (s.enabled n).map fun i => (fld (s.streamReg n i) 3 0, fld (s.streamReg n i) 3 0 + fld (s.streamReg n i) 12 8)
  (r.any fun x => decide (16 < x.2)) ||
  (List.range r.length).any fun i => (List.range i).any fun j =>
    let a := r.getD i (0, 0)
    let b := r.getD j (0, 0)
    decide (a.1 < b.2 ∧ b.1 < a.2)

/-- The aggregate pixel rate would exceed the limit (R34). -/
def State.rateBad (s : State) (n : Nat) : Bool :=
  decide (18000 < s.pixRate n + ((List.range 24).map fun i => if (s.port i).flowing then s.pixRate i else 0).sum)

/-- Latency L of the port's sensor (Table 2.2). -/
def State.latency (s : State) (n : Nat) : Nat := ((s.port n).profile.map (·.latency)).getD 0

/-- START in READY (R34, R37, R61): the port enters STREAM and the start script of its mode runs. The first L frames carry the tag of the
last write that has completed (R64). -/
def State.startPort (s : State) (n : Nat) (load : Option W32) : State :=
  if s.partsBad n ∨ s.rateBad n then s.portRefuse n ST.CAPACITY
  else
    let l := s.latency n
    let s := s.modPort n fun p =>
      let next := load.getD p.next
      { p with st := .stream, lastFs := s.now, next := next, loaded := p.loaded || load.isSome,
               streams := p.streams.map fun st => { st with last := if load.isSome then none else st.last },
               tags := (List.range l).map fun i => (next + BitVec.ofNat 32 i, p.tagNow, i != 0 || !p.tagFresh),
               tagFresh := p.tagFresh && l == 0, lateFor := [] }
    s.runScript n 0 .streamStart

/-- A command of a port (R31): 1 PROBE, 2 START, 3 STOP, 4 RELEASE; 0 is no command (R375). -/
def State.portCmd (s : State) (n cmd : Nat) (load : Option W32) : State :=
  let st := (s.port n).st
  match cmd with
  | 0 => s
  | 1 => if st = .idle then s.startProbe n else s.portRefuse n ST.STATE
  | 2 => if st = .ready then s.startPort n load else s.portRefuse n ST.STATE
  | 3 => if st = .stream then (s.setPort n .stopping).tryStop n else s.portRefuse n ST.STATE
  | 4 => if st = .ready then s.setPort n .idle else s.portRefuse n ST.STATE
  | _ => s.portRefuse n ST.BAD_DESC

/-- PROBE (R32): in IDLE, starts reading the ID registers of the candidate profiles. -/
def execProbe (_src : Agent) (port : Fin 24) (s : State) : Out := .next (s.portCmd port 1 none)

/-- START (R34): in READY, puts the port in STREAM, subject to the pixel-rate and partition checks. -/
def execPortStart (_src : Agent) (port : Fin 24) (s : State) : Out := .next (s.portCmd port 2 none)

/-- STOP (R31): in STREAM, puts the port in STOPPING to finish the frame in progress. -/
def execPortStop (_src : Agent) (port : Fin 24) (s : State) : Out := .next (s.portCmd port 3 none)

/-- RELEASE (R31): in READY, returns the port to IDLE. -/
def execRelease (_src : Agent) (port : Fin 24) (s : State) : Out := .next (s.portCmd port 4 none)

/-- A write of INTAKE_CTRL: EN, CRC_KEEP, TBL_SWAP and CMD each take effect under their own rule, in that order. -/
def State.intakeWrite (s : State) (n : Nat) (v : W32) : State :=
  let s := if bit v 31 then s.portOn n else s.portClear n
  let s := s.wrF (Pg.SP n) Off.SP.INTAKE_CTRL 29 29 (fld v 29 29)
  let s := if bit v 30 then s.tblSwap n else s
  s.portCmd n (fld v 3 0) none

/-! ## Exposure writes (R33, R63, R64) -/

/-- The register writes of an exposure request (Table 18.7): each enabled value shifted right, in its bytes, the most significant first as
a script WRITE sends them (R331; DEDUCED, log entry 66). -/
def expWrites (p : Profile) (vals : List W32) : List (Nat × List Byte) :=
  (p.expMap.zip vals).filterMap fun x =>
    if bit x.1 31 then some (fld x.1 15 0, (leBytes (fld x.1 29 28 + 1) (x.2.toNat / 2 ^ fld x.1 20 16)).reverse) else none

/-- A write for frame F has completed (R64): its tag is in force for the next frame start; the record of F is late where the start of frame
F - L has been passed. -/
def State.tagDone (s : State) (n : Nat) (r : ExpReq) : State :=
  let late := (s.port n).tags.any (fun t => t.1 == r.frame) ||
    (!(s.port n).loaded && match (s.port n).cur with
    | some g => serialLe r.frame (g + BitVec.ofNat 32 (s.latency n))
    | none => false)
  (s.modPort n fun p =>
    { p with tagNow := r.tag, tagFresh := true, lateFor := if late then p.lateFor ++ [r.frame] else p.lateFor,
             streams := p.streams.map fun st =>
               { st with frames := st.frames.map fun f => if late ∧ f.num = r.frame ∧ !f.recorded then { f with late := true } else f } }).wrF
    Pg.LCH Off.LCH.EXP_STATE 15 0 r.tag.toNat n

/-- The exposure write in progress on a port's bus is over. -/
def State.exposureDone (s : State) (n : Nat) (ack : Bool) : State :=
  let s := s.modBus (busOf n) fun b => b.over (((s.port n).profile.map (·.i2c)).getD false) ack
  let s := match (s.port n).expOut with
    | [] => s
    | (r, k) :: rest =>
      if ack then
        let s := (s.modPort n fun p => { p with expOut := rest }).tagDone n r
        if rest.isEmpty then s else s.modBus (busOf n) fun b => { b with exps := b.exps ++ [n] }
      else if k = 0 then
        (s.modPort n fun p => { p with expOut := (r, 1) :: rest }).modBus (busOf n) fun b => { b with exps := n :: b.exps }
      else
        let s := s.modPort n fun p => { p with expOut := [] }
        if (s.port n).flowing then s.goLost n else s
  s.busNext (busOf n)

/-- A transfer that its port has given up is over: nothing waits on its answer. -/
def State.staleDone (s : State) (k : Nat) (ack : Bool) : State := (s.modBus k fun b => b.over b.i2c ack).busNext k

/-- EXPOSURE_WRITE_DONE (R64): the port's exposure write on its bus completes or is not acknowledged. -/
def execExposureWriteDone (port : Fin 24) (ack : Bool) (s : State) : Out :=
  .next (if (s.bus (busOf port)).cur = some (.exposure port) then s.exposureDone port ack
    else if (s.bus (busOf port)).cur = some (.stale port) then s.staleDone (busOf port) ack
    else s)

/-! ## Events of a bus -/

/-- The CCC that assigns a sensor its address (R32, Table 2.2): ENTDAA where the profile has a provisioned ID, else SETDASA. -/
def assignBy (p : Profile) : Ccc := if p.provId.isSome then .entdaa else .setdasa

/-- The sensor that a port's procedure speaks to is on I2C. -/
def State.procI2c (s : State) (n : Nat) : Bool :=
  match (s.port n).proc with
  | .idRead c => ((s.candidate n c).map (·.i2c)).getD false
  | _ => ((s.port n).profile.map (·.i2c)).getD false

/-- A transfer of a port's procedure is over (R32). -/
def State.procDone (s : State) (n : Nat) (ack : Bool) (data : W32) : State :=
  match (s.port n).proc with
  | .idRead c => match s.candidate n c with
    | some p =>
      if ack ∧ data &&& p.idMask = p.idValue &&& p.idMask then
        let s := s.modPort n fun x => { x with profile := some p }
        if p.i2c then s.runScript n c .init else s.procAsk n (.assign c (assignBy p))
      else match s.nextCandidate n (c + 1) with
        | some c => s.procAsk n (.idRead c)
        | none => s.probeFailed n
    | none => s.probeFailed n
  | .assign c _ =>
    let (k, s) := s.newFree
    (s.modBus (busOf n) fun b => { b with addrs := SMap.put b.addrs n (Config.dynAddr k).toNat }).runScript n c .init
  | .script c k i none => (s.runStep n c k (i + 1)).tryStop n
  | _ => s

/-- I3C_TRANSFER_DONE (R30): the transfer in progress on a bus completes and the next begins, exposure writes first. -/
def execI3cTransferDone (bus : Fin 12) (ack : Bool) (data : W32) (s : State) : Out :=
  .next (match (s.bus bus).cur with
    | some (.proc n) => ((s.modBus bus fun b => b.over (s.procI2c n) ack).procDone n ack data).busNext bus
    | some (.exposure n) => s.exposureDone n ack
    | some (.stale _) => s.staleDone bus ack
    | none => s)

/-- SCRIPT_WAIT_EXPIRY (R30): a wait step of a sensor script ends after its rig-time count. -/
def execScriptWaitExpiry (port : Fin 24) (t : W64) (s : State) : Out :=
  .next (s.atTime t fun s => match (s.port port).proc with
    | .script c k i (some e) => if e ≤ s.now then (s.runStep port c k (i + 1)).tryStop port else s
    | _ => s)

/-- TRAINING_TIMEOUT (R32): a mode that has not trained within 20 ms is given up and the next mode is tried. -/
def execTrainingTimeout (port : Fin 24) (t : W64) (s : State) : Out :=
  .next (s.atTime t fun s => match (s.port port).proc with
    | .train c m d _ => if d ≤ s.now then s.trainOver port c m false else s
    | _ => s)

/-- HOT_JOIN (R29): a Hot-Join request on a bus probes every IDLE port of that bus. -/
def execHotJoin (bus : Fin 12) (s : State) : Out :=
  .next ([2 * bus.val, 2 * bus.val + 1].foldl (fun s n => if (s.port n).st = .idle then s.startProbe n else s) s)

/-- IN_BAND_INTERRUPT (R29): an in-band interrupt from a sensor stores its payload. -/
def execInBandInterrupt (port : Fin 24) (payload : W32) (s : State) : Out :=
  .next ((s.wr (Pg.SP port) Off.SP.IBI payload).modBus (busOf port) fun b => { b with ibiFrom := some port.val })

/-! ## Losing the sensor (R33) -/

/-- LOSS_TIMEOUT_EXPIRY (R33): no frame start within LOSS_TIMEOUT puts a streaming port in LOST. -/
def execLossTimeoutExpiry (port : Fin 24) (t : W64) (s : State) : Out :=
  .next (s.atTime t fun s =>
    let n := (s.rd (Pg.SP port) Off.SP.LOSS_TIMEOUT).toNat
    if (s.port port).flowing ∧ n ≠ 0 ∧ s.later (s.port port).lastFs n then s.goLost port else s)

/-- LANE_LOCK_LOST (R33): the receiver has lost lane lock for more than 100 µs. -/
def execLaneLockLost (port : Fin 24) (s : State) : Out := .next (if (s.port port).flowing then s.goLost port else s)

/-- LOST_TO_IDLE (R31): a LOST port returns to IDLE once no work item waits on it. -/
def execLostToIdle (port : Fin 24) (s : State) : Out :=
  .next (if (s.port port).st = .lost ∧ (s.claims.all fun c => c.port ≠ port.val) then s.setPort port .idle else s)

end Sys2Proof.Machine
end

