-- ==== Sys2Proof/Machine/JobOps.lean ====
section
/-! DEFINITION. Jobs: the check round over every unit that could execute part of one (R16 to R18, R25, R102, R113, R114,
R120), its outcome, and the dispatch of its quanta. -/
namespace Sys2Proof.Machine

/-! ## Units in service -/

/-- Cores under a group or device unit (R13). -/
def unitCores (u : Nat) : List Nat :=
  match unitKind u with
  | 0 => [unitIdx u]
  | 1 => (List.range 4).map fun i => 4 * unitIdx u + i
  | _ => List.range 32

def State.spanHdr (s : State) (e : Nat) : W32 := s.rd (Pg.SPAN e) (spanOff e Off.SPAN.SPAN_HDR)
def State.spanMemb (s : State) (e i : Nat) : W32 := s.rd (Pg.SPAN e) (spanOff e (Off.SPAN.SPAN_MEMB0 + 4 * i))
def spanValid (h : W32) : Bool := bit h 31
def spanLevel (h : W32) : Nat := fld h 27 24
def spanNmemb (h : W32) : Nat := fld h 23 20

/-- The core is in service. -/
def State.coreIn (s : State) (c : Nat) : Bool := Core.inService (s.core c)

/-- A unit is in service: a core in IDLE or RUN, a group or device with such a core, a valid span, a device that a route
reaches (R13, R17, R25, R107, R314). -/
def State.unitIn (s : State) (u : Nat) : Bool :=
  if unitDev u ≠ s.devId then (s.egress (unitDev u)).isSome
  else match unitKind u with
    | 3 => spanValid (s.spanHdr (unitIdx u))
    | _ => (unitCores u).any s.coreIn

/-! ## What each unit checks -/

/-- A used buffer lies wholly within one region of its device (R14, R16). The regions of another device are those of Table 1.2. -/
def State.bufferOk (s : State) (d : List W32) (k : Nat) : Bool :=
  let n := descExt d k * 0x10000
  let a := rigLocal (descBase d k)
  if n = 0 then true
  else if rigDev (descBase d k) = s.devId then (s.regionOf a n).isSome
  else (s.regionOf a n).isSome || decide (a + n ≤ lpddrEnd)

/-- The program is named in a bank image of the active set (R16, R330). -/
def CfgSet.hasProgram (cs : CfgSet) (pid : Nat) : Bool :=
  cs.banks.any fun b => (List.range 16).any fun e => bit (b.2.getD (2 * e + 1) 0) 31 && decide (fld (b.2.getD (2 * e) 0) 15 0 = pid)

/-- The conditions of R16 that need no program header. -/
def State.badDesc (s : State) (d : List W32) : Bool :=
  decide (descVer d ≠ 1) || decide (descNdim d = 0 ∨ 8 < descNdim d) || decide (descNdim d ≤ descLineDim d) ||
  decide (descStripeH d < 8 ∨ 64 < descStripeH d) || !(unitNamed (descTarget d)) ||
  !(match s.mgmt.active with
    | some cs => cs.hasProgram (descProgram d)
    | none => false) ||
  !((List.range 3).all (s.bufferOk d)) ||
  (List.range 8).any (fun k => decide (descNdim d ≤ k) && decide (descShape d k ≠ 0)) ||
  decide (wf d 9 31 24 ≠ 0 ∨ wf d 9 15 14 ≠ 0)

/-- The frame that a job attaches to has started on the stream already (R38). -/
def State.frameStarted (s : State) (n i : Nat) (f : W32) : Bool :=
  match ((s.port n).stream i).last with
  | some l => serialLe f l
  | none => false

/-- A hopper buffer lies wholly within the hopper of one port of this device (R16). -/
def State.hopperOk (s : State) (d : List W32) (b : Nat) : Bool :=
  decide (rigDev (descBase d b) = s.devId) &&
  match s.regionOf (rigLocal (descBase d b)) (max 1 (descExt d b * 0x10000)) with
  | some (.hopper _) => true
  | _ => false

/-- The span entry of a unit as its registers hold it: header, then members. -/
def State.spanRegs (s : State) (e : Nat) : List W32 := s.spanHdr e :: (List.range 14).map (s.spanMemb e)

/-- What a walk over units starts from: members found not in service, span entries as a check round found them, and a program that
every core must hold (quanta assigned again, R102). -/
structure Round where
  absent : List Nat := []
  spans : List (Nat × List W32) := []
  prog : Option Nat := none

/-- A span entry of a round. -/
def State.spanOf (s : State) (r : Round) (e : Nat) : List W32 := ((r.spans.find? fun x => x.1 = e).map (·.2)).getD (s.spanRegs e)

/-- A core that takes part in a round. -/
def State.coreTakes (s : State) (r : Round) (c : Nat) : Bool :=
  s.coreIn c && match r.prog with
    | some p => !((s.core c).entriesOf (s.core c).startBank p).isEmpty
    | none => true

/-- A member that takes part in a round (R25). -/
def State.memberTakes (s : State) (r : Round) (u : Nat) : Bool :=
  !(r.absent.contains u) &&
  if unitDev u ≠ s.devId then (s.egress (unitDev u)).isSome
  else match unitKind u with
    | 3 => spanValid ((s.spanOf r (unitIdx u)).getD 0 0)
    | _ => (unitCores u).any (s.coreTakes r)

/-- Refusals that core c raises under its own header (R16, R17, R38, R102, R113, R114, R120). -/
def State.coreRefusals (s : State) (c : Nat) (d : List W32) : List Nat :=
  let k := s.core c
  let es := k.entriesOf k.startBank (descProgram d)
  match es with
  | [] => [ST.STATE]
  | e :: _ =>
    let h := k.header k.startBank (dirHdr (k.dirLo k.startBank e))
    let port := (hdrHopBuf h).bind fun b => hopperPort (descBase d b)
    let bad := decide (1 < es.length) || decide (dirLstate (k.dirHi k.startBank e) = 3) ||
      decide (16384 < descTallyBase d + hdrTallies h) ||
      match hdrHopBuf h with
      | some b => !(s.hopperOk d b)
      | none => false
    let state := match port with
      | some n => !(s.streamEn n (hdrHstream h)) || s.frameStarted n (hdrHstream h) (descFrame d)
      | none => false
    let tooBig := (List.range 8).any fun i => decide (i < descNdim d) && decide (hdrShapeMax h i < descShape d i)
    let cap := decide (16384 - s.rdF (Pg.CORE c) Off.CORE.SP_RESERVE 14 0 < hdrSpRows h) ||
      (match port with
        | some n => decide (s.streamLines n (hdrHstream h) < hdrHopLines h)
        | none => false) ||
      (List.range 3).any fun b => decide (hdrRole h b ≠ 0) && decide (descExt d b < hdrMinExt h b)
    (if bad then [ST.BAD_DESC] else []) ++ (if state then [ST.STATE] else []) ++
    (if tooBig then [ST.SHAPE_OVER] else []) ++ (if cap then [ST.CAPACITY] else [])

/-! ## The walk over units in split order (R18) -/

/-- Members in split order with the quanta each receives: those with quanta by their lowest, then the others as they stand. -/
def splitMembers (ws : List Nat) (rot : Nat) (qs : List Nat) : List (Nat × List Nat) :=
  let pos := divide ws rot qs.length
  let order := pos.eraseDups ++ (List.range ws.length).filter fun i => !(pos.contains i)
  order.map fun i => (i, ((pos.zip qs).filter fun x => x.1 = i).map (·.2))

/-- A core as target or member. -/
def State.walkCore (s : State) (d : List W32) (c assigner : Nat) (qs : List Nat) : List WalkItem :=
  (s.coreRefusals c d).map (WalkItem.refuse (s.coreUnit c)) ++ [.core c assigner qs]

/-- A group or a device unit over its in-service cores (R13). -/
def State.walkCores (s : State) (r : Round) (d : List W32) (u : Nat) (qs : List Nat) : List WalkItem :=
  let cs := (unitCores u).filter (s.coreTakes r)
  if cs.isEmpty then [.refuse u ST.STATE]
  else (splitMembers (cs.map fun _ => 1) (descRot d) qs).flatMap fun m => s.walkCore d (cs.getD m.1 0) u m.2

/-- Any unit; `level` is that of the span above it, 9 for the target. A unit of another device that no route reaches is not in
service (R17). `fuel` covers the 8 levels of spans (R24). -/
def State.walk (s : State) (r : Round) (d : List W32) : Nat → Nat → Nat → Nat → List Nat → List WalkItem
  | 0, _, _, u, _ => [.refuse u ST.BAD_DESC]
  | fuel + 1, level, assigner, u, qs =>
    if unitDev u ≠ s.devId then (if (s.egress (unitDev u)).isSome then [.remote u assigner level qs] else [.refuse u ST.STATE])
    else match unitKind u with
      | 0 => if s.coreTakes r (unitIdx u) then s.walkCore d (unitIdx u) assigner qs else [.refuse u ST.STATE]
      | 3 =>
        let e := s.spanOf r (unitIdx u)
        let h := e.getD 0 0
        if !(spanValid h) then [.refuse u ST.STATE]
        else if level ≤ spanLevel h then [.refuse u ST.BAD_DESC]
        else
          let ms := ((e.drop 1).take (spanNmemb h)).filter fun m => decide (fld m 31 24 ≠ 0) && s.memberTakes r (fld m 23 0)
          if ms.isEmpty then [.refuse u ST.STATE]
          else (splitMembers (ms.map fun m => fld m 31 24) (descRot d) qs).flatMap fun m =>
            s.walk r d fuel (spanLevel h) u (fld (ms.getD m.1 0) 23 0) m.2
      | _ => s.walkCores r d u qs

/-- The check round's walk: the target's own conditions first, then every unit under it (R18). -/
def State.checkWalk (s : State) (r : Round) (d : List W32) (pre : Bool) (level : Nat) (qs : List Nat) : List WalkItem :=
  let u := descTarget d
  (if s.badDesc d then [.refuse u ST.BAD_DESC] else []) ++
  (if pre then [.refuse u ST.STATE] else []) ++
  (if unitNamed u then s.walk r d 10 level u u qs else [])

/-- Place of a refusal in the order of R6. -/
def refusalRank (code : Nat) : Nat :=
  if code = ST.BAD_DESC then 0 else if code = ST.STATE then 1 else if code = ST.SHAPE_OVER then 2 else if code = ST.CAPACITY then 3 else 4

/-- The refusal that comes first in the order of R6, the first in split order among equals: code, DETAIL, place. -/
def firstRefusal : List (Nat × Nat × Nat) → Option (Nat × Nat × Nat)
  | [] => none
  | x :: xs => match firstRefusal xs with
    | none => some x
    | some y => if refusalRank y.1 < refusalRank x.1 ∨ (refusalRank y.1 = refusalRank x.1 ∧ y.2.2 < x.2.2) then some y else some x

/-- Refusals of a walk with their place in it. -/
def walkRefusals (w : List WalkItem) : List (Nat × Nat × Nat) :=
  w.zipIdx.filterMap fun x => match x.1 with
    | .refuse u code => some (code, u, x.2)
    | _ => none

/-- Members on other devices, with their place. -/
def walkRemotes (s : State) (w : List WalkItem) : List Member :=
  w.zipIdx.filterMap fun x => match x.1 with
    | .remote u a _ qs => some { unit := u, dev := unitDev u, quanta := qs, assigner := a, order := x.2, sent := s.now }
    | _ => none

/-- Check-round refusals counted by the group of each core that raises one (Table 16.4). -/
def State.countRefusals (s : State) (w : List WalkItem) : State :=
  ((w.filterMap fun x => match x with
    | .refuse u _ => if unitKind u = 0 ∧ unitDev u = s.devId ∧ unitIdx u < 32 then some (unitIdx u) else none
    | _ => none).eraseDups).foldl (fun s c => s.bump (grpOf c) Off.GRP.REFUSE_CNT) s

/-- In-service cores under a unit, members on other devices as they answered (Table 1.6). Those under a member of weight 0, which takes
no part, are not counted (DESIGN CHOICE, log entry 63). -/
def State.coresUnder (s : State) (ms : List Member) : Nat → Nat → Nat
  | 0, _ => 0
  | fuel + 1, u =>
    if unitDev u ≠ s.devId then ((ms.find? fun m => m.unit = u).map (·.cores)).getD 0
    else match unitKind u with
      | 3 =>
        let h := s.spanHdr (unitIdx u)
        if spanValid h then
          ((List.range (spanNmemb h)).map fun i =>
            let m := s.spanMemb (unitIdx u) i
            if fld m 31 24 = 0 then 0 else s.coresUnder ms fuel (fld m 23 0)).foldl (· + ·) 0
        else 0
      | _ => ((unitCores u).filter s.coreIn).length

/-- Span entries of this device under a unit. -/
def State.spansUnder (s : State) : Nat → Nat → List Nat
  | 0, _ => []
  | fuel + 1, u =>
    if unitDev u ≠ s.devId ∨ unitKind u ≠ 3 then []
    else
      let h := s.spanHdr (unitIdx u)
      unitIdx u :: if spanValid h then (List.range (spanNmemb h)).flatMap fun i => s.spansUnder fuel (fld (s.spanMemb (unitIdx u) i) 23 0) else []

/-- SPAN_CORES of the spans a check round reached. -/
def State.setSpanCores (s : State) (u : Nat) (ms : List Member) : State :=
  (s.spansUnder 10 u).foldl (fun s e =>
    s.wr (Pg.SPAN e) (spanOff e Off.SPAN.SPAN_CORES) (BitVec.ofNat 32 (s.coresUnder ms 10 (unitIdOf 3 s.devId e) % 2 ^ 15))) s

/-! ## Outcome -/

/-- A job ends in the check round with a refusal: the target's record alone (R18). -/
def State.refuseJob (s : State) (j : Job) (code unit : Nat) : State :=
  let s := s.bump Pg.DEV Off.DEV.REFUSE_CNT
  let s := s.raise Pg.DEV 1 code unit unit
  s.parentRecord { j with lines := 0, done := 0, failed := 0 } code unit

/-- Every used shape entry is above 0 (R17). -/
def shapeZero (d : List W32) : Bool := (List.range 8).any fun k => decide (k < descNdim d) && decide (descShape d k = 0)

/-- What a JOB message asks of a member (log entry 23): the check round, to run its quanta, or to drop them, since the job does not
start. -/
inductive JobAsk where
  | check | run | drop
deriving DecidableEq, Repr

def JobAsk.code : JobAsk → W32
  | .check => 0
  | .run => 1
  | .drop => 2

/-- JOB message of this device's protocol (log entry 23): VALUE says what is asked; XFER carries the level of the span above. -/
def jobMsg (j : Job) (unit : Nat) (qs : List Nat) (ask : JobAsk) (level : Nat) : Msg :=
  { op := .job, len := 3, value := ask.code, frame := BitVec.ofNat 32 j.key, xfer := BitVec.ofNat 8 level,
    words := j.desc.set 1 (BitVec.ofNat 32 (descRot j.desc * 2 ^ 24 + unit)), quanta := qs }

/-- A JOB message leaves for the device of a member. -/
def State.sendJob (s : State) (j : Job) (unit : Nat) (qs : List Nat) (ask : JobAsk) (level : Nat) : State :=
  s.sendStream (unitDev unit) (jobMsg j unit qs ask level) noWork noWork noWork

/-- Members that accepted their part are told that the job does not start. -/
def State.dropParts (s : State) (j : Job) : State :=
  (j.members.filter fun m => m.answer.map (·.1) = some ST.OK).foldl (fun s m => s.sendJob j m.unit m.quanta .drop 0) s

/-- DETAIL of CORE_LOST (Table 17.3). -/
def lostDetail (cause blocker c : Nat) : Nat := cause * 2 ^ 20 + blocker * 2 ^ 16 + c

/-- A quantum goes to a member on another device. -/
def State.quantumRemote (s : State) (key u a i : Nat) : State :=
  s.modJob key fun j => { j with quanta := modFirst (fun q => q.idx = i) (fun q => { q with st := .remote (unitDev u), assigner := a }) j.quanta }

/-- Quanta of one unit and job assigned again over the members that remain (R25, R309), those of the check round that are in service
and hold the program (R102, log entry 62). Quanta that no member takes end with CORE_LOST, naming core c. -/
def State.reassign (s : State) (c cause key assigner : Nat) (qs : List Nat) : State :=
  match s.job key with
  | none => s
  | some j =>
    let w := if unitKind assigner = 0 then [] else
      s.walk { absent := j.absent, spans := j.spans, prog := some (descProgram j.desc) } j.desc 10 9 assigner assigner qs
    let taken := w.flatMap fun x => match x with
      | .core _ _ qs => qs
      | .remote _ _ _ qs => qs
      | .refuse _ _ => []
    let s := w.foldl (fun s x => match x with
      | .core c' a qs => qs.foldl (fun s i =>
          let (k, s) := s.newKey
          let q := (((s.job key).bind fun j => j.quanta.find? fun q => q.idx = i)).getD { idx := i, assigner := a, st := .held c' }
          s.placeQuantum key { q with assigner := a, key := k } c') s
      | .remote u a l qs =>
        let s := qs.foldl (fun s i => s.quantumRemote key u a i) s
        if qs.isEmpty then s else s.sendJob j u qs .run l
      | .refuse _ _ => s) s
    (qs.filter fun i => !(taken.contains i)).foldl (fun s i =>
      s.failHeld key i c ST.CORE_LOST (lostDetail cause 7 c) ((((j.quanta.find? fun q => q.idx = i).map (·.reissued)).getD false)) true) s

/-- The job starts: its quanta go to their cores and its members on other devices are told to run, but for `lost` units. A core that
went OUT since the check round passes its quanta on (R25, R309). -/
def State.startJob (s : State) (j : Job) (w : List WalkItem) (lost : List Nat) : State :=
  let qs := w.flatMap fun x => match x with
    | .core c a qs => qs.map fun i => (i, a, QuantumSt.held c)
    | .remote u a _ qs => qs.map fun i => (i, a, QuantumSt.remote (unitDev u))
    | .refuse _ _ => []
  let j := { j with ph := .running, quanta := qs.map fun q => { idx := q.1, assigner := q.2.1, st := q.2.2, key := j.base + q.1 } }
  let s := s.modJob j.key fun _ => j
  let s := w.foldl (fun s x => match x with
    | .core c a qs =>
      if s.coreIn c then qs.foldl (fun s i => s.placeQuantum j.key { idx := i, assigner := a, st := .held c, key := j.base + i } c) s
      else if qs.isEmpty then s
      else s.reassign c (s.core c).cause j.key a qs
    | .remote u _ l qs =>
      if lost.contains u then s else s.sendJob j u qs (if qs.isEmpty then .drop else .run) l
    | .refuse _ _ => s) s
  let s := s.markReady
  if qs.isEmpty then (match s.job j.key with
    | some j => s.parentRecord j ST.OK 0
    | none => s) else s

/-- A member of a job is lost (R314): logged, and its quanta without a record fail with LINK_LOST. -/
def State.loseQuanta (s : State) (key dev : Nat) (qs : List Nat) : State :=
  qs.foldl (fun s i => (s.noteFail key ST.LINK_LOST dev (unitIdOf 2 dev 0) false).endQuantum key i ST.LINK_LOST dev (unitIdOf 2 dev 0) false 0) s

/-- Quanta of a member device that counts as failed (R314). -/
def State.failMember (s : State) (key : Nat) (dev : Nat) : State :=
  match s.job key with
  | none => s
  | some j => s.loseQuanta key dev ((j.quanta.filter fun q => q.st = .remote dev).map (·.idx))

/-- A part of a job that this device has checked for another device is dropped, with what it asked of others. -/
def State.dropPart (s : State) (j : Job) : State := (s.dropParts j).dropJob j.key

/-- The outcome of a check round at the unit that asked on another device: JOB_RSP with the refusal that comes first, the unit and its
in-service cores; XFER 1 says that the unit is not in service (log entry 23). A part without a refusal stays checked. -/
def State.answerJob (s : State) (j : Job) (dev : Nat) (pjob : W32) (r : Option (Nat × Nat × Nat)) : State :=
  let u := descTarget j.desc
  let m : Msg := { op := .jobRsp, value := pjob, status := BitVec.ofNat 8 ((r.map (·.1)).getD ST.OK), detail := BitVec.ofNat 24 ((r.map (·.2.1)).getD 0),
                   xfer := if s.unitIn u then 0 else 1, addr := BitVec.ofNat 39 (u * 2 ^ 15 + s.coresUnder j.members 10 u % 2 ^ 15) }
  let s := s.sendStream dev m noWork noWork noWork
  if r.isSome then s.dropPart j else s.modJob j.key fun j => { j with ph := .checked }

/-- The check round of a job led here is over without a refusal: ZERO, or started as the round found it. Members without an answer take
no part (R314). -/
def State.runJob (s : State) (j : Job) : State :=
  if shapeZero j.desc then (s.dropParts j).parentRecord j ST.ZERO 0
  else
    let lost := (j.members.filter fun m => m.answer.map (·.1) = some ST.LINK_LOST).map (·.unit)
    let first := j.walk.findSome? fun x => match x with
      | .remote u _ _ (_ :: _) => if lost.contains u then some (ST.LINK_LOST, unitDev u) else none
      | _ => none
    let s := s.startJob { j with fail := j.fail <|> first } j.walk lost
    j.walk.foldl (fun s x => match x with
      | .remote u _ _ qs => if lost.contains u then s.loseQuanta j.key (unitDev u) qs else s
      | _ => s) s

/-- The outcome of a check round: answered to the device that asked, refused, or run. -/
def State.settleRound (s : State) (key : Nat) : State :=
  match s.job key with
  | none => s
  | some j =>
    let s := (s.countRefusals j.walk).setSpanCores (descTarget j.desc) j.members
    let remote := j.members.filterMap fun m => match m.answer with
      | some (code, detail) => if code = 0 ∨ code = ST.LINK_LOST then none else some (code, detail, m.order)
      | none => none
    let r := firstRefusal (j.local_.toList ++ remote)
    match j.src, r with
    | .parent dev pj, _ => s.answerJob j dev pj r
    | _, some (code, detail, _) => (s.dropParts j).refuseJob j code detail
    | _, none => s.runJob j

/-- The check round of a job (R18) over some quanta, with the level of the span above its target and the members found not in service:
its own units at once; members on other devices are asked and the round waits for them. One that has not answered in time is not asked
again (R314). -/
def State.checkJobOver (s : State) (key level : Nat) (qs absent : List Nat) : State :=
  match s.job key with
  | none => s
  | some j =>
    let w := s.checkWalk { absent := absent } j.desc j.refusedFrame level qs
    let before := fun (m : Member) => (j.members.find? fun x => x.unit = m.unit ∧ x.answer.map (·.1) = some ST.LINK_LOST).bind (·.answer)
    let ms := (walkRemotes s w).map fun m => { m with answer := before m }
    let j := { j with ph := .checking, local_ := firstRefusal (walkRefusals w), members := ms, level := level, qs := qs, walk := w,
                      spans := (s.spansUnder 10 (descTarget j.desc)).map (fun e => (e, s.spanRegs e)), absent := absent, base := s.nextKey }
    let s := { s with nextKey := s.nextKey + descQuanta j.desc }.modJob key fun _ => j
    let s := w.foldl (fun s x => match x with
      | .remote u _ l qs => if ms.any fun m => decide (m.unit = u) && m.answer.isSome then s else s.sendJob j u qs .check l
      | _ => s) s
    if ms.all fun m => m.answer.isSome then s.settleRound key else s

/-- Every member asked has answered: those not in service take no part, and the round is made again without them (R25); else it is
over. A target that is not in service refuses the job (R17). -/
def State.concludeJob (s : State) (key : Nat) : State :=
  match s.job key with
  | none => s
  | some j =>
    let gone := (j.members.filter fun m => m.out && decide (m.unit ≠ descTarget j.desc)).map (·.unit)
    if gone.isEmpty then s.settleRound key
    else (s.dropParts j).checkJobOver key j.level j.qs (j.absent ++ gone)

/-- The check round of a job led on this device. -/
def State.checkJob (s : State) (key : Nat) : State :=
  match s.job key with
  | none => s
  | some j => s.checkJobOver key 9 (if descStripeH j.desc = 0 then [] else List.range (descQuanta j.desc)) []

end Sys2Proof.Machine
end

