-- ==== Sys2Proof/Machine/CoreOut.lean ====
section
/-! DEFINITION. Taking a core out of service (R307 to R313): the fence, re-issue or CORE_LOST, and the quanta assigned again. -/
namespace Sys2Proof.Machine

/-- Why a core goes OUT (Table 17.4). -/
abbrev OC.HOST : Nat := 0
abbrev OC.MC : Nat := 1
abbrev OC.LIVENESS : Nat := 2
abbrev OC.ECC_CORE : Nat := 3
abbrev OC.DOMAIN : Nat := 4
abbrev OC.LIMIT : Nat := 5

/-- A row of a multicast W.COPY that is still to go to another device than `dev`: receivers that accept write in full (R174). -/
def State.goesElsewhere (s : State) (e : QEntry) (dev : Nat) (p : Nat × Nat) : Bool :=
  match e.op with
  | .wCopy _ f => f.mc && s.memberDev (e.race.getD 0) (p.1 / 1024) != dev
  | _ => false

/-- A sluice transfer of a core of this device is refused, or is cut off because its receiver went OUT: the sending item fails with
BOUNDS and its entry makes no tally update (R174, R374). Of several receivers of one entry that refuse, DETAIL names the one with the
lowest device ID. -/
def State.boundsFail (s : State) (c key item unit : Nat) : State :=
  let again := (s.core c).wq.any fun e => e.key == key && e.noUpd
  let s := s.modCore c fun k => k.modEntry .wq key fun e =>
    { e with pend := e.pend.filter (s.goesElsewhere e (unitDev unit)), noUpd := true,
             acks := e.acks.filter fun a => a ≠ (unitDev unit, unitIdx unit) }
  match (s.core c).item item with
  | some it => match it.fail with
    | some (code, d) =>
      if again ∧ code = ST.BOUNDS ∧ unitDev unit < unitDev d then s.modCore c fun k => k.modItem item fun it => { it with fail := some (code, unit) }
      else if again ∧ code = ST.BOUNDS then s
      else s.failItem c item ST.BOUNDS unit
    | none => s.failItem c item ST.BOUNDS unit
  | none => s

/-- The receiving side counts a refusal and logs the sender's device and core (R174). -/
def State.boundsCount (s : State) (recv dev core : Nat) : State :=
  (s.count (Pg.CORE recv) Off.CORE.BOUNDS_CNT).logEvent (Pg.CORE recv) ST.BOUNDS (s.coreUnit recv) (unitIdOf 0 dev core)

/-- The state of core c at the fence (R308): OUT, nothing in its queues, windows CLOSED; an item whose entries have all retired
stays as it is. -/
def Core.fence (k : Core) (off : Bool) (cause : Nat) : Core :=
  { k with st := if off then .off else .out, cause := cause, cur := none, loops := [], seqWait := none, stalled := false,
           fq := [], xq := [], wq := [], wins := List.replicate 8 {} }

/-- An item's entries have all retired, its markers too (R309). -/
def Core.retired (k : Core) (it : Item) : Bool :=
  it.phase == .ended && it.fail.isNone && !((k.fq ++ k.xq ++ k.wq).any fun e => e.item == it.key)

/-- The fence of core c: also what other parts of the device hold of it. `over` are the items that complete normally. -/
def State.fence (s : State) (c cause : Nat) (off : Bool) : State × List Nat :=
  let k := s.core c
  let gone := (k.items.filter k.retired).map (·.key)
  let landing := k.wins.flatMap (·.landing)
  let s := s.raise (Pg.CORE c) 5 ST.CORE_LOST (s.coreUnit c) (lostDetail cause 0 c)
  let s := s.raise Pg.DEV 0 ST.CORE_LOST (s.coreUnit c) (lostDetail cause 0 c)
  let s := s.modCore c fun k => k.fence off cause
  let s := { s with lanes := s.lanes.filter fun p => p.1 % 32 ≠ c }
  -- transfers of this core that were landing elsewhere on the device stop
  let mine := fun (l : Landing) => match l.src with
    | .here c' _ => c' == c
    | _ => false
  let s := { s with cores := s.cores.map fun k =>
    (List.range 8).foldl (fun (k : Core) w => k.settleWin w) { k with wins := k.wins.map fun w => { w with landing := w.landing.filter fun l => !mine l } } }
  -- transfers accepted into its windows are refused
  let s := landing.foldl (fun s l => match l.src with
    | .here c' key => match ((s.core c').wq.find? fun e => e.key = key) with
      | some e => (s.boundsCount c s.devId c').boundsFail c' key e.item (s.coreUnit c)
      | none => s
    | .remote dev core _ _ => s.boundsCount c dev core) s
  (s, gone)

/-- A hopper line of the claim has retired (R310). -/
def State.claimRetired (s : State) (cl : Claim) : Bool :=
  decide (cl.first < cl.rel) ||
  (List.range (cl.last + 1 - cl.first)).any fun i =>
    s.lineStatus cl.port cl.stream cl.frame (cl.first + i) == .delivered &&
    !(((s.port cl.port).stream cl.stream).held.any fun l => l.frame == cl.frame && l.line == cl.first + i)

/-- Cores of this device that are members of a unit, as the check round of a job found it (R311). -/
def State.memberCores (s : State) (j : Job) (u : Nat) : List Nat :=
  match unitKind u with
  | 3 =>
    let e := s.spanOf { spans := j.spans } (unitIdx u)
    ((e.drop 1).take (spanNmemb (e.getD 0 0))).filterMap fun m =>
      if fld m 31 24 ≠ 0 ∧ unitKind (fld m 23 0) = 0 ∧ unitDev (fld m 23 0) = s.devId then some (unitIdx (fld m 23 0)) else none
  | _ => unitCores u

/-- Candidates for a re-issue in the order of R311: IDLE cores by number, then the others by items waiting and number. -/
def State.targets (s : State) (j : Job) (u : Nat) : List Nat :=
  let cs := (s.memberCores j u).filter s.coreIn
  let idle := (List.range 32).filter fun c => cs.contains c && (s.core c).st == .idle
  let rest := (List.range 32).filter fun c => cs.contains c && (s.core c).st != .idle
  idle ++ (List.range 65).flatMap fun n => rest.filter fun c => (s.core c).waiting = n

/-- Why an in-flight item is not re-issued (Table 17.4; a lost re-issue always answers 4, R312), or the target core (R310, R311). -/
def State.reissueTarget (s : State) (j : Job) (it : Item) : Nat ⊕ Nat :=
  if it.reissued then .inl 4
  else if it.shared then .inl 1
  else if it.mcast then .inl 2
  else if (match it.claim with
    | some cl => s.claimRetired cl
    | none => false) then .inl 3
  else if unitKind it.assigner = 0 then .inl 5
  else match (s.targets j it.assigner).find? fun t => (s.coreRefusals t it.desc).all fun r => r == ST.STATE && it.claim.isSome && !((s.core t).entriesOf (s.core t).startBank (descProgram it.desc)).isEmpty with
    | some t => .inr t
    | none => .inl 6

/-- One in-flight item of a core that went OUT: re-issued, or failed with CORE_LOST; one that had failed before keeps its code. -/
def State.settleItem (s : State) (c cause : Nat) (it : Item) : State :=
  match it.fail with
  | some (code, detail) => s.finishItem c it code detail
  | none => match s.job it.job with
    | none => s
    | some j => match s.reissueTarget j it with
      | .inr t =>
        let s := s.dropBands c it.key ST.CORE_LOST
        let (k, s) := s.newKey
        let s := s.placeQuantum j.key { idx := it.quantum, assigner := it.assigner, st := .held t, ready := it.ready, key := k, reissued := true } t
        let s := { s with stripes := s.stripes.filter fun x => !(x.core == c && x.item == it.key) }
        let s := s.modCore c fun k => { k with items := k.items.filter fun x => x.key ≠ it.key }
        s.claimEnded it.claim
      | .inl b => s.finishItem c it ST.CORE_LOST (lostDetail cause b c)

/-- Items that core c had accepted and that ended without another core are counted by it (Table 16.5). -/
def State.countLost (s : State) (c : Nat) (its : List Item) : State :=
  its.foldl (fun s it => match s.job it.job with
    | some j => if j.quanta.any fun q => q.idx = it.quantum ∧ QuantumSt.hasEnded q.st then s.bump (Pg.CORE c) Off.CORE.ITEM_FAIL_CNT else s
    | none => s.bump (Pg.CORE c) Off.CORE.ITEM_FAIL_CNT) s

/-- Step 4 to 7 of Table 17.5 for core c, after the fence. -/
def State.settleCore (s : State) (c cause : Nat) (gone : List Nat) : State :=
  let its := (s.core c).items
  let s := (its.filter fun it => it.phase != .accepted && !(gone.contains it.key)).foldl (fun s it => s.settleItem c cause it) s
  let failed := its.filter fun it => it.phase == .accepted && it.fail.isSome
  let s := failed.foldl (fun s it => match it.fail with
    | some (code, detail) => s.finishItem c it code detail
    | none => s) s
  let wait := its.filter fun it => it.phase == .accepted && it.fail.isNone
  let held := s.jobs.flatMap fun j => (j.quanta.filter fun q => q.st = .held c).map fun q => (j.key, q.assigner, q.idx)
  let all := wait.map (fun it => (it.job, it.assigner, it.quantum)) ++ held
  -- the waiting items give up their place; their readiness passes to the quantum
  let s := wait.foldl (fun s it => s.modJob it.job fun j =>
    { j with quanta := modFirst (fun q => q.idx = it.quantum) (fun q => { q with ready := it.ready, reissued := it.reissued }) j.quanta }) s
  let claims := wait.map (·.claim)
  let s := s.modCore c fun k => { k with items := k.items.filter fun it => it.phase != .accepted }
  let s := ((all.map fun x => (x.1, x.2.1)).eraseDups).foldl (fun s g =>
    s.reassign c cause g.1 g.2 ((all.filter fun x => x.1 = g.1 ∧ x.2.1 = g.2).map (·.2.2))) s
  claims.foldl (fun s cl => s.claimEnded cl) (s.countLost c wait)

/-- Cores go OUT at one moment: each is fenced, then each is settled (R308 to R313). -/
def State.coresOut (s : State) (cs : List Nat) (cause : Nat) (off : Bool) : State :=
  let r := cs.foldl (fun (r : State × List (Nat × List Nat)) c =>
    if r.1.coreIn c then
      let f := r.1.fence c cause off
      (f.1, r.2 ++ [(c, f.2)])
    else r) (s, [])
  r.2.foldl (fun s x => s.settleCore x.1 cause x.2) r.1

def State.coreOut (s : State) (c cause : Nat) : State := s.coresOut [c] cause false

end Sys2Proof.Machine
end

