-- ==== Sys2Proof/Machine/GlazeOps.lean ====
section
/-! DEFINITION. The glaze units (R226 to R237): the pixel chain, packing, bands, slots and ready records. -/
namespace Sys2Proof.Machine

/-! ## Contexts (Table 12.6) -/

/-- Register of context x of unit g. -/
def State.glzReg (s : State) (g x off : Nat) : W32 := s.rd (Pg.GLZ g) off x

/-- A context's settings (R227 to R236). -/
structure GCtx where
  int16 : Bool
  quad : Bool
  inSh : Nat
  stride : Nat
  sub : Nat
  ofs : List Nat
  height : Nat
  width : Nat
  hEn : Bool
  v : Nat
  fmt : Nat
  dest : Nat
  outW : Nat
  mat : List Int
  off : List Int
  base : W48
  yPitch : Nat
  cPitch : Nat
  ovr : Bool
  nsl : Nat
  slotLines : Nat
  hold : Nat
deriving DecidableEq, Repr

def State.glzCtx (s : State) (g x : Nat) : GCtx :=
  let r := s.glzReg g x
  let cin := r Off.GLZ.C_IN
  let ofs := r Off.GLZ.C_OFS
  let fm := r Off.GLZ.C_FMT
  let mats := [r Off.GLZ.C_MAT0, r Off.GLZ.C_MAT1, r Off.GLZ.C_MAT2, r Off.GLZ.C_MAT3, r Off.GLZ.C_MAT4]
  { int16 := bit cin 31, quad := bit cin 30, inSh := fld cin 29 26, stride := fld cin 25 17, sub := fld cin 16 8,
    ofs := [fld ofs 8 0, fld ofs 17 9, fld ofs 26 18], height := fld (r Off.GLZ.C_SIZE) 29 16, width := fld (r Off.GLZ.C_SIZE) 13 0,
    hEn := bit fm 31, v := if fld fm 30 29 = 1 then 2 else if fld fm 30 29 = 2 then 4 else 1, fmt := fld fm 28 26,
    dest := fld fm 25 24, outW := fld fm 13 0, mat := mats.flatMap fun w => [sfld w 15 0, sfld w 31 16],
    off := [sfld (r Off.GLZ.C_OFF0) 16 0, sfld (r Off.GLZ.C_OFF1) 16 0, sfld (r Off.GLZ.C_OFF2) 16 0],
    base := BitVec.ofNat 48 (fld (r Off.GLZ.C_BASE_HI) 15 0 * 2 ^ 32 + (r Off.GLZ.C_BASE_LO).toNat),
    yPitch := 16 * fld (r Off.GLZ.C_PITCH) 15 0, cPitch := 16 * fld (r Off.GLZ.C_PITCH) 31 16, ovr := bit (r Off.GLZ.C_RING) 31,
    nsl := fld (r Off.GLZ.C_RING) 30 28, slotLines := fld (r Off.GLZ.C_RING) 7 0, hold := (r Off.GLZ.C_HOLD).toNat }

/-- D of a format (Table 12.4). -/
def fmtDepth (f : Nat) : Nat := if f = 1 ∨ f = 5 ∨ f = 7 then 10 else if f = 2 ∨ f = 6 then 16 else 8
/-- Formats with a chroma plane of 4:2:0. -/
def fmt420 (f : Nat) : Bool := f = 4 ∨ f = 5 ∨ f = 6
/-- C of R234 and R236. -/
def GCtx.c (x : GCtx) : Nat := if fmt420 x.fmt then 2 else 1
/-- Output pixels per line. -/
def GCtx.ow (x : GCtx) : Nat := if x.hEn then x.outW else x.width
/-- Output lines of the image (R230). -/
def GCtx.oh (x : GCtx) : Nat := ceilDiv x.height x.v
/-- Bytes of a packed line of the first plane and of the chroma plane (R231). -/
def GCtx.yBytes (x : GCtx) : Nat :=
  match x.fmt with
  | 0 => 3 * x.ow
  | 1 => 4 * x.ow
  | 2 => 6 * x.ow
  | 3 => 4 * ceilDiv x.ow 2
  | 4 => x.ow
  | 6 => 2 * x.ow
  | _ => 5 * ceilDiv x.ow 4
def GCtx.cBytes (x : GCtx) : Nat :=
  match x.fmt with
  | 4 => 2 * ceilDiv x.ow 2
  | 5 => 5 * ceilDiv (2 * ceilDiv x.ow 2) 4
  | 6 => 4 * ceilDiv x.ow 2
  | _ => 0
/-- Bytes of a slot (R236). -/
def GCtx.slotSize (x : GCtx) : Nat := 64 + x.slotLines * x.yPitch + (if fmt420 x.fmt then x.slotLines / 2 * x.cPitch else 0)
/-- Groups of an image, G of R236. -/
def GCtx.groups (x : GCtx) : Nat := ceilDiv x.oh x.slotLines
/-- Output lines of group g. -/
def GCtx.groupLines (x : GCtx) (g : Nat) : Nat := min x.slotLines (x.oh - g * x.slotLines)
/-- Slot of group g of a frame. -/
def GCtx.slotOf (x : GCtx) (frame : W32) (g : Nat) : Nat := (frame.toNat * x.groups + g) % 2 ^ x.nsl
/-- Pixel lines per transfer line, and pixels per input position. -/
def GCtx.q (x : GCtx) : Nat := if x.quad then 2 else 1

/-! ## The pixel chain -/

/-- An element at byte o of a line (R227). -/
def GCtx.elem (x : GCtx) (line : List Byte) (o : Nat) : Int :=
  if x.int16 then toSigned 16 (ofBytes [line.getD o 0, line.getD (o + 1) 0]) else toSigned 8 (line.getD o 0).toNat

/-- Extraction (R227): sub-pixel t of position p, and the colour matrix with its clamp (R228). -/
def GCtx.pixel (x : GCtx) (line : List Byte) (p t : Nat) : Int × Int × Int :=
  let ch := x.ofs.map fun o => x.elem line (p * x.stride + o + (if x.quad then t * x.sub else 0))
  let out := fun k =>
    let t := (List.range 3).foldl (fun (a : Int) c => a + x.mat.getD (3 * k + c) 0 * ch.getD c 0) 0
    sat (rhe t (12 + x.inSh) + x.off.getD k 0) 0 (2 ^ fmtDepth x.fmt - 1)
  (out 0, out 1, out 2)

/-- Pixels of a transfer line: pixel line and column in the transfer, value. -/
def GCtx.pixels (x : GCtx) (line : List Byte) (n : Nat) : List (Nat × Nat × (Int × Int × Int)) :=
  (List.range n).flatMap fun p =>
    if x.quad then (List.range 4).map fun t => (t / 2, 2 * p + t % 2, x.pixel line p t) else [(0, p, x.pixel line p 0)]

def px3 (f : Int → Int → Int) (a b : Int × Int × Int) : Int × Int × Int := (f a.1 b.1, f a.2.1 b.2.1, f a.2.2 b.2.2)
def px1 (f : Int → Int) (a : Int × Int × Int) : Int × Int × Int := (f a.1, f a.2.1, f a.2.2)
def addPx (a b : Option (Int × Int × Int)) : Option (Int × Int × Int) :=
  match a, b with
  | some a, some b => some (px3 (· + ·) a b)
  | _, _ => none

/-- Horizontal scaling (R229) of a line with pixel function v, coefficients C at 8 phase + tap. -/
def GCtx.scaled (x : GCtx) (coef : Nat → Int) (v : Nat → Option (Int × Int × Int)) (j : Nat) : Option (Int × Int × Int) :=
  if x.hEn then
    let step := x.width * 65536 / x.outW
    let p : Int := (j * step : Nat) + ((step - 65536) / 2 : Nat)
    let i := p.toNat / 65536
    let ph := p.toNat / 1024 % 64
    let tap := fun t => (v (min (i + t - 3) (x.width - 1))).map (px1 (· * coef (8 * ph + t)))
    ((List.range 8).foldl (fun a t => addPx a (tap t)) (some (0, 0, 0))).map
      (px1 fun t => sat (rhe t 8) 0 (2 ^ fmtDepth x.fmt - 1))
  else v j

/-- Vertical decimation (R230): output line i of a band that starts at pixel line `base`, `l` giving scaled pixels by band line. -/
def GCtx.decimated (x : GCtx) (base : Nat) (l : Nat → Nat → Option (Int × Int × Int)) (i j : Nat) : Option (Int × Int × Int) :=
  let last := x.height - 1 - base
  ((List.range x.v).foldl (fun a t => addPx a (l (min (x.v * i + t) last) j)) (some (0, 0, 0))).map (px1 fun t => rhe t x.v.log2)

/-- Little-endian bytes of a sample that may not be formed yet. -/
def sampleBytes (n : Nat) (v : Option Int) : List (Option Byte) :=
  match v with
  | some v => (leBytes n v.toNat).map some
  | none => List.replicate n none

/-- Five bytes of four 10-bit samples (R231). -/
def group10 (g : List (Option Int)) : List (Option Byte) :=
  let v := fun i => ((g.getD i (some 0)).getD 0).toNat
  let w := v 0 + v 1 * 2 ^ 10 + v 2 * 2 ^ 20 + v 3 * 2 ^ 30
  let known := fun i => (g.getD i (some 0)).isSome
  (List.range 5).map fun b =>
    if known (8 * b / 10) && known ((8 * b + 7) / 10) then some (BitVec.ofNat 8 (w / 2 ^ (8 * b))) else none

/-- Packing of 10-bit samples, the last group filled with zeros (R231). -/
def pack10 : List (Option Int) → List (Option Byte)
  | a :: b :: c :: d :: r => group10 [a, b, c, d] ++ pack10 r
  | [] => []
  | l => group10 l

/-- Chroma of two columns of one line or of two lines (R230), a missing last column taken again. -/
def GCtx.chroma (x : GCtx) (rows : List (Nat → Option (Int × Int × Int))) (i : Nat) : Option Int × Option Int :=
  let c := fun k => min k (x.ow - 1)
  let sum := (rows.flatMap fun p => [p (c (2 * i)), p (c (2 * i + 1))]).foldl addPx (some (0, 0, 0))
  let r := sum.map (px1 fun t => rhe t rows.length)
  (r.map (·.2.1), r.map (·.2.2))

/-- Bytes of output line y of the first plane, p giving its pixels (R231). -/
def GCtx.yLine (x : GCtx) (p : Nat → Option (Int × Int × Int)) : List (Option Byte) :=
  let cols := List.range x.ow
  let y := cols.map fun j => (p j).map (·.1)
  match x.fmt with
  | 0 | 2 => cols.flatMap fun j => [(p j).map (·.1), (p j).map (·.2.1), (p j).map (·.2.2)].flatMap (sampleBytes (if x.fmt = 0 then 1 else 2))
  | 1 => cols.flatMap fun j => sampleBytes 4 ((p j).map fun v => v.1 + v.2.1 * 2 ^ 10 + v.2.2 * 2 ^ 20)
  | 3 => (List.range (ceilDiv x.ow 2)).flatMap fun i =>
      let c := x.chroma [p] i
      let at_ := fun k => (p (min k (x.ow - 1))).map (·.1)
      [at_ (2 * i), c.1, at_ (2 * i + 1), c.2].flatMap (sampleBytes 1)
  | 4 => y.flatMap (sampleBytes 1)
  | 6 => y.flatMap (sampleBytes 2)
  | _ => pack10 y

/-- Bytes of a chroma line of two output lines (R231). -/
def GCtx.cLine (x : GCtx) (p0 p1 : Nat → Option (Int × Int × Int)) : List (Option Byte) :=
  let s := (List.range (ceilDiv x.ow 2)).flatMap fun i =>
    let c := x.chroma [p0, p1] i
    [c.1, c.2]
  match x.fmt with
  | 4 => s.flatMap (sampleBytes 1)
  | 5 => pack10 s
  | 6 => s.flatMap (sampleBytes 2)
  | _ => []

/-! ## Bands (R232) -/

/-- First pixel line of a band. -/
def GCtx.bandBase (x : GCtx) (line : Nat) : Nat := line * x.q
/-- Pixel lines of a band that lie in the image. -/
def GCtx.bandLines (x : GCtx) (b : Band) : Nat := min b.nl (x.height - x.bandBase b.line)
/-- First output line of a band, and the number of its output lines. -/
def GCtx.bandOut (x : GCtx) (b : Band) : Nat × Nat := (x.bandBase b.line / x.v, ceilDiv (x.bandLines b) x.v)

/-- Scaled pixel j of line i of a band. -/
def State.bandPx (s : State) (g : Nat) (x : GCtx) (b : Band) (i j : Nat) : Option (Int × Int × Int) :=
  x.scaled (fun k => (SMap.get (fun _ => (0 : BitVec 10)) (s.glaze g).coefs (512 * b.ctx + k)).toInt) (fun c => SMap.find b.px (8192 * i + c)) j

/-- Output pixel j of output line i of a band. -/
def State.bandOutPx (s : State) (g : Nat) (x : GCtx) (b : Band) (i j : Nat) : Option (Int × Int × Int) :=
  x.decimated (x.bandBase b.line) (s.bandPx g x b) i j

/-! ## Destinations (R236) -/

/-- Local address of an offset in the ring, for a destination on this device. -/
def GCtx.localAddr (x : GCtx) (core o : Nat) : Nat :=
  if x.dest = 2 then spBase + core * 0x400000 + (x.base.toNat % 2 ^ 22 + o) % 0x400000 else rigLocal x.base + o

/-- The ring lies on another device. -/
def State.glzRemote (s : State) (x : GCtx) : Bool := decide (x.dest = 1 ∧ rigDev x.base ≠ s.devId)

/-- Pieces of at most 256 bytes. -/
def pieces (fuel : Nat) (o : Nat) (bs : List (Option Byte)) : List (Nat × List (Option Byte)) :=
  match fuel with
  | 0 => []
  | fuel + 1 => if bs.isEmpty then [] else (o, bs.take 256) :: pieces fuel (o + 256) (bs.drop 256)

/-- Bytes written into the ring for a band: locally, or as writes in the stream to another device. A part that a word's
uncorrectable error keeps out fails the item (R166, R248). -/
def State.glzWrite (s : State) (x : GCtx) (core item entry o : Nat) (bs : List (Option Byte)) : State :=
  if bs.all Option.isNone then s
  else if s.glzRemote x then
    (pieces (bs.length / 256 + 1) (rigLocal x.base + o) bs).foldl (fun s p =>
      let m : Msg :=
        { op := .wrMem, len := BitVec.ofNat 4 (1 + ceilDiv p.2.length 32), addr := BitVec.ofNat 39 p.1,
          bytes := BitVec.ofNat 9 (p.2.length - 1), core := BitVec.ofNat 5 core, data := p.2.map (·.getD 0), mask := p.2.map Option.isSome }
      s.sendStream (rigDev x.base) m core item entry) s
  else
    let a := x.localAddr core o
    let r := s.store a bs
    if r.2 then r.1.eccFail core item ((s.ueWords a bs.length).headD (a / 4)) else r.1

/-- Word 0x04 of a slot; what a slot of another device holds is a free value (log entry 26). -/
def State.slotWord (s : State) (x : GCtx) (core slot : Nat) : W32 × State :=
  if s.glzRemote x then (Config.remoteWord s.free, { s with free := s.free + 1 })
  else (s.word (x.localAddr core (slot * x.slotSize + 4)), s)

/-- Words of a ready record (Table 12.5). -/
def readyWords (x : GCtx) (g ctx : Nat) (frame : W32) (group : Nat) (t : W64) : List W32 :=
  let n := x.groupLines group
  let part : Nat := if (group + 1) * x.slotLines ≥ x.oh ∧ n < x.slotLines then 1 else 0
  [frame, BitVec.ofNat 32 (2 ^ 31 + part * 2 ^ 30 + n * 2 ^ 16 + group % 2 ^ 16), t.setWidth 32, (t >>> 32).setWidth 32,
   BitVec.ofNat 32 (g * 2 ^ 24 + ctx * 2 ^ 16)] ++ List.replicate 11 0

/-! ## Slots (R237) -/

/-- Groups of a band's output lines. -/
def GCtx.bandGroups (x : GCtx) (b : Band) : List Nat :=
  let o := x.bandOut b
  if o.2 = 0 ∨ x.slotLines = 0 then []
  else (List.range ((o.1 + o.2 - 1) / x.slotLines + 1 - o.1 / x.slotLines)).map (o.1 / x.slotLines + ·)

/-- A group takes its slot; lines of the old group that were never completed are counted. -/
def State.takeSlot (s : State) (g : Nat) (x : GCtx) (ctx : Nat) (frame : W32) (group : Nat) : State :=
  let key := 16 * ctx + x.slotOf frame group
  let lost := match SMap.find (s.glaze g).slots key with
    | some o => x.groupLines o.group - o.done.length
    | none => 0
  let s := s.modGlaze g fun z => { z with slots := SMap.put z.slots key { frame := frame, group := group, done := [] } }
  if lost = 0 then s else (s.bump (Pg.GLZ g) Off.GLZ.ABANDON_CNT lost).raise (Pg.GLZ g) 2 ST.STATE (unitIdOf 2 s.devId 0) ctx

/-- A band of an earlier group is still open in a slot. -/
def State.oldOpen (s : State) (g : Nat) (x : GCtx) (ctx : Nat) (o : GSlot) : Bool :=
  (s.glaze g).bands.any fun b => decide (b.ctx = ctx ∧ b.frame = o.frame) && (x.bandGroups b).contains o.group

/-- A band opening for one group (R237): the state with the slot taken, or none where the band waits. `force` is the end of C_HOLD
under OVR. -/
def State.openSlot (s : State) (g : Nat) (x : GCtx) (b : Band) (group : Nat) (force : Bool) : State × Bool :=
  let slot := x.slotOf b.frame group
  match SMap.find (s.glaze g).slots (16 * b.ctx + slot) with
  | none => (s.takeSlot g x b.ctx b.frame group, true)
  | some o =>
    if o.frame = b.frame ∧ o.group = group then (s, true)
    else
      let (w, s) := s.slotWord x b.core slot
      if !(bit w 31) ∧ !(s.oldOpen g x b.ctx o) then (s.takeSlot g x b.ctx b.frame group, true)
      else if force then
        let s := s.glzWrite x b.core b.item b.entry (slot * x.slotSize + 4) ((leBytes 4 0).map some)
        let s := (s.bump (Pg.GLZ g) Off.GLZ.OVR_CNT).raise (Pg.GLZ g) 1 ST.STATE (s.coreUnit b.core) b.ctx
        (s.takeSlot g x b.ctx b.frame group, true)
      else (s, false)

/-- The band identified by its context and line. -/
def Glz.band (z : Glz) (ctx line : Nat) : Option Band := z.bands.find? fun b => b.ctx = ctx ∧ b.line = line ∧ !b.closed
def Glz.modBand (z : Glz) (ctx line : Nat) (f : Band → Band) : Glz :=
  { z with bands := modFirst (fun b => b.ctx = ctx ∧ b.line = line ∧ !b.closed) f z.bands }

/-- A band that waits for its slots takes them where it can. -/
def State.trySlots (s : State) (g : Nat) (b : Band) (force : Bool) : State :=
  let x := s.glzCtx g b.ctx
  let r := (x.bandGroups b).foldl (fun (r : State × Bool) gr =>
    if r.2 then r.1.openSlot g x b gr force else r) (s, true)
  if r.2 then r.1.modGlaze g fun z => z.modBand b.ctx b.line fun b => { b with since := none } else r.1

/-! ## Transfers -/

/-- Whether a W.GLZ of an item on line `line` opens its band: none is open there, or another item opened it (R232). -/
def State.opensBand (s : State) (g ctx line core item : Nat) : Bool :=
  match (s.glaze g).band ctx line with
  | some b => !(b.core == core && b.item == item)
  | none => true

/-- Open bands of a unit. -/
def Glz.openBands (z : Glz) : Nat := (z.bands.filter fun b => !b.closed).length

/-- A W.GLZ is refused (R234): `n` pixels per line, `lines` its NL, from column `col`. -/
def State.glzRefused (s : State) (g ctx line lines n col : Nat) : Bool :=
  let x := s.glzCtx g ctx
  let m := x.v * x.c
  !((s.glaze g).armed.contains ctx) || decide (line % m ≠ 0) ||
  decide (lines % m ≠ 0 ∧ (line + lines) * x.q < x.height) ||
  decide (3 ≤ x.fmt ∧ x.fmt ≤ 6 ∧ n % 2 = 1 ∧ col + n < x.width) || decide (x.width < col + n)

/-- A transfer begins: its band opens, or goes on; the answer is the column it starts at. -/
def State.beginGlz (s : State) (g ctx line core item entry nl n : Nat) (frame : W32) : State × Nat :=
  let x := s.glzCtx g ctx
  if s.opensBand g ctx line core item then
    let s := if ((s.glaze g).band ctx line).isSome then
        (s.bump (Pg.GLZ g) Off.GLZ.ABANDON_CNT).raise (Pg.GLZ g) 2 ST.STATE (s.coreUnit core) ctx
      else s
    let b : Band := { ctx := ctx, line := line, core := core, item := item, frame := frame, opener := entry, entry := entry, col := n, nl := nl * x.q,
                      px := [], out := 0, since := some s.now, closed := false }
    let s := s.modGlaze g fun z => { z with bands := (z.bands.filter fun b => !(b.ctx == ctx && b.line == line && !b.closed)) ++ [b] }
    (s.trySlots g b false, 0)
  else
    let c := (((s.glaze g).band ctx line).map (·.col)).getD 0
    (s.modGlaze g fun z => z.modBand ctx line fun b => { b with col := b.col + n, nl := max b.nl (nl * x.q), entry := entry }, c)

/-- The band waits for its slot: its lane is short of space (R237). -/
def State.bandWaits (s : State) (g ctx line : Nat) : Bool :=
  match (s.glaze g).band ctx line with
  | some b => b.since.isSome
  | none => false

/-- Address of a line in its slot: plane 0 or the chroma plane. -/
def GCtx.lineOff (x : GCtx) (slot y : Nat) (chroma : Bool) : Nat :=
  slot * x.slotSize + 64 +
  (if chroma then x.slotLines * x.yPitch + y % x.slotLines / 2 * x.cPitch else y % x.slotLines * x.yPitch)

/-- Output line i of a band written for an entry as far as its pixels can be formed, with the chroma line that it completes (R231, R235). -/
def State.writeLine (s : State) (g : Nat) (x : GCtx) (b : Band) (entry i : Nat) : State :=
  let o := x.bandOut b
  let y := o.1 + i
  let slot := x.slotOf b.frame (y / x.slotLines)
  let s := s.glzWrite x b.core b.item entry (x.lineOff slot y false) (x.yLine (s.bandOutPx g x b i))
  if fmt420 x.fmt ∧ (y % 2 = 1 ∨ y + 1 = x.oh) then
    let p0 := if y % 2 = 1 then i - 1 else i
    s.glzWrite x b.core b.item entry (x.lineOff slot y true) (x.cLine (s.bandOutPx g x b p0) (s.bandOutPx g x b i))
  else s

/-- The group of an output line still owns its slot. -/
def State.ownsSlot (s : State) (g : Nat) (x : GCtx) (b : Band) (y : Nat) : Bool :=
  match SMap.find (s.glaze g).slots (16 * b.ctx + x.slotOf b.frame (y / x.slotLines)) with
  | some o => decide (o.frame = b.frame ∧ o.group = y / x.slotLines)
  | none => false

/-- The pixels of a transfer of an item are passed (R227 to R230, R235): `data` gives the valid bytes of its lines. They are lost where another
item has opened the band again (R232). -/
def State.passGlz (s : State) (g ctx line core item entry col n : Nat) (data : List (List Byte)) (last : Bool) : State :=
  let x := s.glzCtx g ctx
  if s.opensBand g ctx line core item then s
  else
    let pos := n / x.q
    let px := (data.zipIdx).flatMap fun l => (x.pixels l.1 pos).map fun p => (8192 * (x.q * l.2 + p.1) + col + p.2.1, p.2.2)
    let s := s.modGlaze g fun z => z.modBand ctx line fun b =>
      { b with px := px.foldl (fun m p => SMap.put m p.1 p.2) b.px, closed := last && b.col == x.width }
    let s := s.bump (Pg.GLZ g) Off.GLZ.PIX_CNT (data.length * n * x.q)
    match (s.glaze g).band ctx line with
    | some b => (List.range (x.bandOut b).2).foldl (fun s i =>
        if s.ownsSlot g x b ((x.bandOut b).1 + i) then s.writeLine g x b entry i else s) s
    | none => s

/-! ## Output (R238) -/

/-- A line of a group is completed: counted once, and the ready record written when it was the last (R236, R237). -/
def State.lineDone (s : State) (g : Nat) (x : GCtx) (b : Band) (y : Nat) : State :=
  let group := y / x.slotLines
  let key := 16 * b.ctx + x.slotOf b.frame group
  match SMap.find (s.glaze g).slots key with
  | none => s
  | some o =>
    if o.done.contains y then s
    else
      let o := { o with done := o.done ++ [y] }
      let s := s.modGlaze g fun z => { z with slots := SMap.put z.slots key o }
      if o.done.length = x.groupLines group then
        s.glzWrite x b.core b.item b.entry (x.slotOf b.frame group * x.slotSize)
          (((readyWords x g b.ctx b.frame group s.now).flatMap fun w => leBytes 4 w.toNat).map some)
      else s

/-- The next output line of a closed band is written; the band is gone after its last. -/
def State.outputLine (s : State) (g : Nat) (b : Band) : State :=
  let x := s.glzCtx g b.ctx
  let i := b.out
  let y := (x.bandOut b).1 + i
  let whole := (List.range x.ow).all fun j => (s.bandOutPx g x b i j).isSome
  let same := fun (z : Band) => z.closed && z.ctx == b.ctx && z.line == b.line && z.core == b.core && z.item == b.item
  let s := if i < (x.bandOut b).2 ∧ s.ownsSlot g x b y then
      let s := s.writeLine g x b b.entry i
      if whole then s.lineDone g x b y else s
    else s
  let next := fun (l : List Band) =>
    if i + 1 < (x.bandOut b).2 then modFirst same (fun b => { b with out := i + 1 }) l
    else match l.findIdx? same with
      | some k => l.eraseIdx k
      | none => l
  s.modGlaze g fun z => { z with bands := next z.bands }

/-- GLAZE_LINE_OUTPUT (R238): the unit writes the next completed output line and, at the group's end, the slot's ready record. -/
def execGlazeLineOutput (glz : Fin 8) (s : State) : Out :=
  .next (match (s.glaze glz).bands.find? (·.closed) with
    | some b => s.outputLine glz b
    | none => s)

end Sys2Proof.Machine
end

