-- ==== Sys2Proof/Machine/SeqOps.lean ====
section
/-! DEFINITION. How a core's sequencer takes a command (R95, R111): which command it stands at, the registers a command names,
carrying out a scalar command, and placing a command in a queue. -/
namespace Sys2Proof.Machine

/-- The sequencer of core c is to carry out this command now: the core is in service, no T.WAIT holds it, and the command word
it stands at is this command (R95). -/
def State.atCommand (s : State) (c : Nat) (cmd : Instr) : Bool :=
  s.coreIn c && (s.core c).seqWait.isNone && s.seqCommand c == some cmd

/-- S registers named by an SCL command that it reads. -/
def sclReads (f : SclF) : List Nat × List Nat :=
  let b := if f.bi then [] else [f.b.toNat]
  if f.aa then (b, [f.a.toNat]) else (f.a.toNat :: b, [])

def syncReads (y : SyncF) : List Nat :=
  (if y.wen then [y.wv.toNat] else []) ++ (if y.sen && y.sset then [y.sv.toNat] else [])

/-- S and A registers that a command reads when it is carried out or issued (R111). -/
def cmdReads (i : Instr) : List Nat × List Nat :=
  match i with
  | .mov _ f => if f.aa then ([], [f.a.toNat]) else ([f.a.toNat], [])
  | .add _ f | .sub _ f | .mul _ f | .mada _ f | .andS _ f | .orS _ f | .xorS _ f | .shl _ f | .shr _ f | .sra _ f
  | .minS _ f | .maxS _ f | .slt _ f | .cshr _ f => sclReads f
  | .bc _ f => (f.a.toNat :: if f.bi then [] else [f.b.toNat], [])
  | .loop _ f => (if f.bi then [] else [f.a.toNat], [])
  | .fCopy _ f | .wCopy _ f => ([f.vb.toNat, f.vl.toNat, f.row.toNat, f.ofs.toNat] ++ syncReads f.sync, [f.ar.toNat])
  | .fHop _ f => ([f.row.toNat, f.cl.toNat, f.ln.toNat] ++ syncReads f.sync, [])
  | .fWgt _ f | .fImem _ f | .fRarm _ f | .wRarm _ f => (f.ofs.toNat :: syncReads f.sync, [f.ar.toNat])
  | .fRqt _ f | .fPad _ f => (syncReads f.sync, [])
  | .xConv _ f => ([f.val.toNat, f.edge.toNat, f.rb.toNat], [])
  | .xPool _ f => ([f.val.toNat, f.edge.toNat, f.rb.toNat], [])
  | .xWlds _ f => ([f.rb.toNat], [])
  | .vld _ f | .vst _ f => (f.rw.toNat :: if f.fmt = 2 then [f.xr.toNat] else [], [])
  | .vbc _ f => ([f.va.toNat], [])
  | .wGlz _ f => ([f.vb.toNat, f.vl.toNat, f.row.toNat, f.line.toNat] ++ syncReads f.sync, [])
  | .tWait _ f | .tUpd _ f => (if f.vi then [] else [f.vr.toNat], [])
  | .tRupd _ f => (f.dr.toNat :: if f.vi then [] else [f.vr.toNat], [])
  | .sOpen _ f => (f.row.toNat :: syncReads f.sync, [])
  | .sClose _ f => (syncReads f.sync, [])
  | .vadd _ f | .vsub _ f | .vadds _ f | .vsubs _ f | .vmul _ f | .vmin _ f | .vmax _ f | .vand _ f | .vor _ f | .vxor _ f
  | .vcmp _ f | .vsel _ f | .vrq _ f | .vaddf _ f | .vsubf _ f | .vmulf _ f | .vfmaf _ f | .vminf _ f | .vmaxf _ f
  | .vdivf _ f => (if f.sb then [f.vb.toNat] else [], [])
  | _ => ([], [])

/-- The sequencer meets an uncorrectable word: one of the instruction words it stands at, or a register that the command reads
(R306, Table 17.2). -/
def State.seqBad (s : State) (c : Nat) (cmd : Instr) : Bool :=
  let k := s.core c
  let w := match k.curItem with
    | some it => 8192 * k.active.toNat + 4 * (it.prog + k.pc)
    | none => 0
  let r := cmdReads cmd
  s.ue.any fun e => match e with
    | .imem c' i => c' == c && decide (w ≤ i ∧ i < w + 4)
    | .sreg c' i => c' == c && r.1.contains i
    | .areg c' i => c' == c && r.2.contains i
    | _ => false

/-- The sequencer of core c takes a command: `f` is its effect; a core that meets an uncorrectable word goes OUT instead (R306);
nothing happens while the sequencer does not stand at the command. -/
def State.seqDo (s : State) (c : Nat) (cmd : Instr) (f : State → State) : State :=
  if s.atCommand c cmd then (if s.seqBad c cmd then s.coreOut c OC.ECC_CORE else f s) else s

/-- A register that is written whole is sound again. -/
def State.soundReg (s : State) (c : Nat) (da : Bool) (d : Nat) : State :=
  { s with ue := s.ue.filter fun e => e ≠ (if da then EccLoc.areg c d else EccLoc.sreg c d) }

/-- A scalar command that writes S[D]. -/
def State.scalarS (s : State) (c : Nat) (cmd : Instr) (d : Nat) (v : Core → W32) : State :=
  s.seqDo c cmd fun s => (s.soundReg c false d).modCore c fun k => (k.setS d (v k)).advance

/-- A scalar command that writes A[D]. -/
def State.scalarA (s : State) (c : Nat) (cmd : Instr) (d : Nat) (v : Core → W48) : State :=
  s.seqDo c cmd fun s => (s.soundReg c true d).modCore c fun k => (k.setA d (v k)).advance

/-- Layer entry that a command names, as it stands in the program of the item. -/
def Core.layerOf (k : Core) (it : Item) (cmd : Instr) : W128 :=
  match cmd with
  | .xConv _ f => k.cword k.active (it.prog + 4 + f.layer.toNat)
  | .xPool _ f => k.cword k.active (it.prog + 4 + f.layer.toNat)
  | _ => 0

/-- The entry that a command makes in its queue: the registers it names are read now (R111). -/
def Core.entryOf (k : Core) (it : Item) (cmd : Instr) (key : Nat) : QEntry :=
  { key := key, op := cmd, item := it.key, word := k.pc, sr := k.sreg, ar := k.areg, layer := k.layerOf it cmd }

/-- A stall begins: counted once (R95, Table 16.5). -/
def State.stall (s : State) (c : Nat) : State :=
  if (s.core c).stalled then s
  else (s.modCore c fun k => { k with stalled := true }).bump (Pg.CORE c) Off.CORE.STALL_CNT

/-- A command goes into its queue; the sequencer stalls while the queue holds 32 entries (R95). -/
def State.issue (s : State) (c : Nat) (q : Queue) (cmd : Instr) : State :=
  s.seqDo c cmd fun s =>
    let k := s.core c
    match k.curItem with
    | none => s
    | some it =>
      if 32 ≤ (k.q q).length then s.stall c
      else
        { s with nextKey := s.nextKey + 1 }.modCore c fun k =>
          ({ (k.setQ q (k.q q ++ [k.entryOf it cmd s.nextKey])) with stalled := false }).advance

end Sys2Proof.Machine
end

