-- ==== Sys2Proof/Machine/Scalar.lean ====
section
/-! DEFINITION. The scalar commands (R121, Table 6.9): each is carried out by the sequencer of its core when the sequencer stands
at it. -/
namespace Sys2Proof.Machine

/-- NOP (R121): no effect but the sequencer's advance. -/
def execNop (core : Fin 32) (f : SclF) (s : State) : Out :=
  .next (s.seqDo core (.nop core f) fun s => s.modCore core Core.advance)

/-- MOVI (R121): D := IMM32, or IMMX:IMM32 for an A register. -/
def execMovi (core : Fin 32) (f : SclF) (s : State) : Out :=
  .next (if f.da then s.scalarA core (.movi core f) f.d.toNat fun _ => f.immx ++ f.imm
         else s.scalarS core (.movi core f) f.d.toNat fun _ => f.imm)

/-- MOV (R121): S takes [31:0] of an A register, A takes an S register zero-extended. -/
def execMov (core : Fin 32) (f : SclF) (s : State) : Out :=
  .next (if f.da then s.scalarA core (.mov core f) f.d.toNat fun k => if f.aa then k.a f.a.toNat else (k.s f.a.toNat).setWidth 48
         else s.scalarS core (.mov core f) f.d.toNat fun k => if f.aa then (k.a f.a.toNat).setWidth 32 else k.s f.a.toNat)

/-- ADD (R121): S registers modulo 2^32; A registers modulo 2^48 with B sign-extended. -/
def execAdd (core : Fin 32) (f : SclF) (s : State) : Out :=
  .next (if f.da then s.scalarA core (.add core f) f.d.toNat fun k => k.a f.a.toNat + sx48 (k.opB f)
         else s.scalarS core (.add core f) f.d.toNat fun k => k.s f.a.toNat + k.opB f)

/-- SUB (R121). -/
def execSub (core : Fin 32) (f : SclF) (s : State) : Out :=
  .next (if f.da then s.scalarA core (.sub core f) f.d.toNat fun k => k.a f.a.toNat - sx48 (k.opB f)
         else s.scalarS core (.sub core f) f.d.toNat fun k => k.s f.a.toNat - k.opB f)

/-- MUL (R121): low 32 bits of the product. -/
def execMul (core : Fin 32) (f : SclF) (s : State) : Out :=
  .next (s.scalarS core (.mul core f) f.d.toNat fun k => k.s f.a.toNat * k.opB f)

/-- MADA (R121): A[D] := A[A] + S[B] x IMM32, signed product. -/
def execMada (core : Fin 32) (f : SclF) (s : State) : Out :=
  .next (s.scalarA core (.mada core f) f.d.toNat fun k => k.a f.a.toNat + sx48 (k.s f.b.toNat) * sx48 f.imm)

/-- AND (R121). -/
def execAndS (core : Fin 32) (f : SclF) (s : State) : Out :=
  .next (s.scalarS core (.andS core f) f.d.toNat fun k => k.s f.a.toNat &&& k.opB f)

/-- OR (R121). -/
def execOrS (core : Fin 32) (f : SclF) (s : State) : Out :=
  .next (s.scalarS core (.orS core f) f.d.toNat fun k => k.s f.a.toNat ||| k.opB f)

/-- XOR (R121). -/
def execXorS (core : Fin 32) (f : SclF) (s : State) : Out :=
  .next (s.scalarS core (.xorS core f) f.d.toNat fun k => k.s f.a.toNat ^^^ k.opB f)

/-- SHL (R121): left by B[4:0]. -/
def execShl (core : Fin 32) (f : SclF) (s : State) : Out :=
  .next (s.scalarS core (.shl core f) f.d.toNat fun k => k.s f.a.toNat <<< fld (k.opB f) 4 0)

/-- SHR (R121): logical right by B[4:0]. -/
def execShr (core : Fin 32) (f : SclF) (s : State) : Out :=
  .next (s.scalarS core (.shr core f) f.d.toNat fun k => k.s f.a.toNat >>> fld (k.opB f) 4 0)

/-- SRA (R121): arithmetic right by B[4:0]. -/
def execSra (core : Fin 32) (f : SclF) (s : State) : Out :=
  .next (s.scalarS core (.sra core f) f.d.toNat fun k => (k.s f.a.toNat).sshiftRight (fld (k.opB f) 4 0))

/-- MIN (R121): signed. -/
def execMinS (core : Fin 32) (f : SclF) (s : State) : Out :=
  .next (s.scalarS core (.minS core f) f.d.toNat fun k => if (k.opB f).slt (k.s f.a.toNat) then k.opB f else k.s f.a.toNat)

/-- MAX (R121): signed. -/
def execMaxS (core : Fin 32) (f : SclF) (s : State) : Out :=
  .next (s.scalarS core (.maxS core f) f.d.toNat fun k => if (k.s f.a.toNat).slt (k.opB f) then k.opB f else k.s f.a.toNat)

/-- SLT (R121): 1 when A < B signed, else 0. -/
def execSlt (core : Fin 32) (f : SclF) (s : State) : Out :=
  .next (s.scalarS core (.slt core f) f.d.toNat fun k => if (k.s f.a.toNat).slt (k.opB f) then 1 else 0)

/-- (a + 2^n - 1) >> n, unsigned with a 33-bit sum (R121, R124). -/
def ceilShr (a : W32) (n : Nat) : Nat := (a.toNat + 2 ^ n - 1) / 2 ^ n

/-- CSHR (R121): n = B[4:0]. -/
def execCshr (core : Fin 32) (f : SclF) (s : State) : Out :=
  .next (s.scalarS core (.cshr core f) f.d.toNat fun k => BitVec.ofNat 32 (ceilShr (k.s f.a.toNat) (fld (k.opB f) 4 0)))

/-- RTIME (R121): S[D] and S[D + 1] take rig time from one instant. -/
def execRtime (core : Fin 32) (f : SclF) (s : State) : Out :=
  .next (s.seqDo core (.rtime core f) fun s =>
    ((s.soundReg core false f.d.toNat).soundReg core false (f.d.toNat + 1)).modCore core fun k =>
      ((k.setS f.d.toNat (s.now.setWidth 32)).setS (f.d.toNat + 1) (s.now.extractLsb' 32 32)).advance)

/-- UNIT (R121): this core's unit ID, zero-extended. -/
def execUnitId (core : Fin 32) (f : SclF) (s : State) : Out :=
  .next (s.scalarS core (.unitId core f) f.d.toNat fun _ => BitVec.ofNat 32 (s.coreUnit core))

end Sys2Proof.Machine
end

