-- ==== Sys2Proof/Machine/Issue.lean ====
section
/-! DEFINITION. The commands that the sequencer places in a queue (R95, R111), one meaning each, and the tally commands, which it
carries out itself where Q is 0 (R140). -/
namespace Sys2Proof.Machine

/-- A command goes into its queue, and the heads of the queues are registered (R149). -/
def State.place (s : State) (c : Nat) (q : Queue) (cmd : Instr) : State := (s.issue c q cmd).heads c

/-! ## FQ -/

/-- F_COPY (R126): Queue a transfer from memory lines to scratchpad rows. -/
def execFCopy (core : Fin 32) (f : CopyF) (s : State) : Out :=
  .next (s.place core .fq (.fCopy core f))

/-- F_HOP (R128): Queue a transfer of hopper lines, unpacked to INT16, into the scratchpad. -/
def execFHop (core : Fin 32) (f : HopF) (s : State) : Out :=
  .next (s.place core .fq (.fHop core f))

/-- F_WGT (R129): Queue a copy of weights from memory into a weight-store half. -/
def execFWgt (core : Fin 32) (f : FxF) (s : State) : Out :=
  .next (s.place core .fq (.fWgt core f))

/-- F_RQT (R129): Queue a copy of requant entries from an image into a weight-store half. -/
def execFRqt (core : Fin 32) (f : FxF) (s : State) : Out :=
  .next (s.place core .fq (.fRqt core f))

/-- F_IMEM (R130): Queue a copy of words into the standby instruction bank. -/
def execFImem (core : Fin 32) (f : FxF) (s : State) : Out :=
  .next (s.place core .fq (.fImem core f))

/-- F_PAD (R130): Set the fetch pad pattern for later FQ entries. -/
def execFPad (core : Fin 32) (f : FxF) (s : State) : Out :=
  .next (s.place core .fq (.fPad core f))

/-- F_RARM (R182): Re-arm a fetch race lane with a new base and line count. -/
def execFRarm (core : Fin 32) (f : FxF) (s : State) : Out :=
  .next (s.place core .fq (.fRarm core f))

/-- S_OPEN (R169): Open a sluice window over rows, with an optional arrival tally. -/
def execSOpen (core : Fin 32) (f : SluF) (s : State) : Out :=
  .next (s.place core .fq (.sOpen core f))

/-- S_CLOSE (R170): Put an open sluice window in CLOSING. -/
def execSClose (core : Fin 32) (f : SluF) (s : State) : Out :=
  .next (s.place core .fq (.sClose core f))

/-! ## XQ -/

/-- X_CONV (R131): Queue a convolution or matrix tile on the MAC array. -/
def execXConv (core : Fin 32) (f : XconvF) (s : State) : Out :=
  .next (s.place core .xq (.xConv core f))

/-- X_WLDS (R133): Queue a copy of scratchpad rows into a weight-store half, optionally transposed. -/
def execXWlds (core : Fin 32) (f : XwldsF) (s : State) : Out :=
  .next (s.place core .xq (.xWlds core f))

/-- X_WFLIP (R133): Queue an exchange of the active and standby weight-store halves. -/
def execXWflip (core : Fin 32) (s : State) : Out :=
  .next (s.place core .xq (.xWflip core))

/-- X_POOL (R134): Queue a max or average pooling tile on the vector unit. -/
def execXPool (core : Fin 32) (f : XpoolF) (s : State) : Out :=
  .next (s.place core .xq (.xPool core f))

/-- VLD (R136): Load a vector register from a scratchpad row. -/
def execVld (core : Fin 32) (f : VecF) (s : State) : Out :=
  .next (s.place core .xq (.vld core f))

/-- VST (R136): Store a vector register to a scratchpad row, narrowing. -/
def execVst (core : Fin 32) (f : VecF) (s : State) : Out :=
  .next (s.place core .xq (.vst core f))

/-- VBC (R135): Broadcast an S register to every lane. -/
def execVbc (core : Fin 32) (f : VecF) (s : State) : Out :=
  .next (s.place core .xq (.vbc core f))

/-- VADD (R82): Wrapping lane addition. -/
def execVadd (core : Fin 32) (f : VecF) (s : State) : Out :=
  .next (s.place core .xq (.vadd core f))

/-- VSUB (R82): Wrapping lane subtraction. -/
def execVsub (core : Fin 32) (f : VecF) (s : State) : Out :=
  .next (s.place core .xq (.vsub core f))

/-- VADDS (R82): Saturating lane addition. -/
def execVadds (core : Fin 32) (f : VecF) (s : State) : Out :=
  .next (s.place core .xq (.vadds core f))

/-- VSUBS (R82): Saturating lane subtraction. -/
def execVsubs (core : Fin 32) (f : VecF) (s : State) : Out :=
  .next (s.place core .xq (.vsubs core f))

/-- VMUL (R82): Low 32 bits of the lane product. -/
def execVmul (core : Fin 32) (f : VecF) (s : State) : Out :=
  .next (s.place core .xq (.vmul core f))

/-- VMIN (R82): Lane minimum. -/
def execVmin (core : Fin 32) (f : VecF) (s : State) : Out :=
  .next (s.place core .xq (.vmin core f))

/-- VMAX (R82): Lane maximum. -/
def execVmax (core : Fin 32) (f : VecF) (s : State) : Out :=
  .next (s.place core .xq (.vmax core f))

/-- VABS (R82): Lane absolute value, saturating. -/
def execVabs (core : Fin 32) (f : VecF) (s : State) : Out :=
  .next (s.place core .xq (.vabs core f))

/-- VAND (R82): Lane bitwise AND. -/
def execVand (core : Fin 32) (f : VecF) (s : State) : Out :=
  .next (s.place core .xq (.vand core f))

/-- VOR (R82): Lane bitwise OR. -/
def execVor (core : Fin 32) (f : VecF) (s : State) : Out :=
  .next (s.place core .xq (.vor core f))

/-- VXOR (R82): Lane bitwise XOR. -/
def execVxor (core : Fin 32) (f : VecF) (s : State) : Out :=
  .next (s.place core .xq (.vxor core f))

/-- VSHL (R82): Lane shift left by N. -/
def execVshl (core : Fin 32) (f : VecF) (s : State) : Out :=
  .next (s.place core .xq (.vshl core f))

/-- VSHRA (R82): Lane arithmetic shift right by N. -/
def execVshra (core : Fin 32) (f : VecF) (s : State) : Out :=
  .next (s.place core .xq (.vshra core f))

/-- VSHRR (R82): Lane rounding shift right by N. -/
def execVshrr (core : Fin 32) (f : VecF) (s : State) : Out :=
  .next (s.place core .xq (.vshrr core f))

/-- VCMP (R82): Signed lane compare to a mask. -/
def execVcmp (core : Fin 32) (f : VecF) (s : State) : Out :=
  .next (s.place core .xq (.vcmp core f))

/-- VSEL (R135): Lane select by mask. -/
def execVsel (core : Fin 32) (f : VecF) (s : State) : Out :=
  .next (s.place core .xq (.vsel core f))

/-- VRQ (R137): Lane requantisation with per-lane M, S and clamps. -/
def execVrq (core : Fin 32) (f : VecF) (s : State) : Out :=
  .next (s.place core .xq (.vrq core f))

/-- VSUMR (R82): Wrapping sum of the 64 lanes. -/
def execVsumr (core : Fin 32) (f : VecF) (s : State) : Out :=
  .next (s.place core .xq (.vsumr core f))

/-- VMAXR (R82): Largest lane. -/
def execVmaxr (core : Fin 32) (f : VecF) (s : State) : Out :=
  .next (s.place core .xq (.vmaxr core f))

/-- VMINR (R82): Smallest lane. -/
def execVminr (core : Fin 32) (f : VecF) (s : State) : Out :=
  .next (s.place core .xq (.vminr core f))

/-- VMOV (R135): Copy a vector register. -/
def execVmov (core : Fin 32) (f : VecF) (s : State) : Out :=
  .next (s.place core .xq (.vmov core f))

/-- VADDF (R84): binary32 lane addition. -/
def execVaddf (core : Fin 32) (f : VecF) (s : State) : Out :=
  .next (s.place core .xq (.vaddf core f))

/-- VSUBF (R84): binary32 lane subtraction. -/
def execVsubf (core : Fin 32) (f : VecF) (s : State) : Out :=
  .next (s.place core .xq (.vsubf core f))

/-- VMULF (R84): binary32 lane multiplication. -/
def execVmulf (core : Fin 32) (f : VecF) (s : State) : Out :=
  .next (s.place core .xq (.vmulf core f))

/-- VFMAF (R84): binary32 fused multiply-add. -/
def execVfmaf (core : Fin 32) (f : VecF) (s : State) : Out :=
  .next (s.place core .xq (.vfmaf core f))

/-- VMINF (R84): binary32 lane minimum. -/
def execVminf (core : Fin 32) (f : VecF) (s : State) : Out :=
  .next (s.place core .xq (.vminf core f))

/-- VMAXF (R84): binary32 lane maximum. -/
def execVmaxf (core : Fin 32) (f : VecF) (s : State) : Out :=
  .next (s.place core .xq (.vmaxf core f))

/-- VRCPF (R84): binary32 reciprocal. -/
def execVrcpf (core : Fin 32) (f : VecF) (s : State) : Out :=
  .next (s.place core .xq (.vrcpf core f))

/-- VDIVF (R84): binary32 division. -/
def execVdivf (core : Fin 32) (f : VecF) (s : State) : Out :=
  .next (s.place core .xq (.vdivf core f))

/-- VSQRTF (R84): binary32 square root. -/
def execVsqrtf (core : Fin 32) (f : VecF) (s : State) : Out :=
  .next (s.place core .xq (.vsqrtf core f))

/-- VRSQF (R84): binary32 reciprocal square root. -/
def execVrsqf (core : Fin 32) (f : VecF) (s : State) : Out :=
  .next (s.place core .xq (.vrsqf core f))

/-- VEXPF (R84): binary32 exponential. -/
def execVexpf (core : Fin 32) (f : VecF) (s : State) : Out :=
  .next (s.place core .xq (.vexpf core f))

/-- VLOGF (R84): binary32 natural logarithm. -/
def execVlogf (core : Fin 32) (f : VecF) (s : State) : Out :=
  .next (s.place core .xq (.vlogf core f))

/-- VTANHF (R84): binary32 hyperbolic tangent. -/
def execVtanhf (core : Fin 32) (f : VecF) (s : State) : Out :=
  .next (s.place core .xq (.vtanhf core f))

/-- VSIGF (R84): binary32 logistic sigmoid. -/
def execVsigf (core : Fin 32) (f : VecF) (s : State) : Out :=
  .next (s.place core .xq (.vsigf core f))

/-- VGELUF (R84): binary32 GELU. -/
def execVgeluf (core : Fin 32) (f : VecF) (s : State) : Out :=
  .next (s.place core .xq (.vgeluf core f))

/-- VSUMRF (R85): binary32 sum of 64 lanes in a fixed tree. -/
def execVsumrf (core : Fin 32) (f : VecF) (s : State) : Out :=
  .next (s.place core .xq (.vsumrf core f))

/-- VMAXRF (R84): Largest binary32 lane. -/
def execVmaxrf (core : Fin 32) (f : VecF) (s : State) : Out :=
  .next (s.place core .xq (.vmaxrf core f))

/-- VMINRF (R84): Smallest binary32 lane. -/
def execVminrf (core : Fin 32) (f : VecF) (s : State) : Out :=
  .next (s.place core .xq (.vminrf core f))

/-- VCVTIF (R86): Convert INT32 lanes to binary32. -/
def execVcvtif (core : Fin 32) (f : VecF) (s : State) : Out :=
  .next (s.place core .xq (.vcvtif core f))

/-- VCVTFI (R86): Convert binary32 lanes to a scaled, saturated integer. -/
def execVcvtfi (core : Fin 32) (f : VecF) (s : State) : Out :=
  .next (s.place core .xq (.vcvtfi core f))

/-- VCVTFB (R137): Convert binary32 lanes to SB8 blocks. -/
def execVcvtfb (core : Fin 32) (f : VecF) (s : State) : Out :=
  .next (s.place core .xq (.vcvtfb core f))

/-! ## WQ -/

/-- W_COPY (R138): Queue a transfer of scratchpad rows to memory, staging, the scratchpad or a remote sluice window. -/
def execWCopy (core : Fin 32) (f : CopyF) (s : State) : Out :=
  .next (s.place core .wq (.wCopy core f))

/-- W_GLZ (R139): Queue a transfer of tile lines to a glaze unit context. -/
def execWGlz (core : Fin 32) (f : GlzF) (s : State) : Out :=
  .next (s.place core .wq (.wGlz core f))

/-- W_RARM (R182): Re-arm a writeback race lane. -/
def execWRarm (core : Fin 32) (f : FxF) (s : State) : Out :=
  .next (s.place core .wq (.wRarm core f))

/-! ## Tally commands (R140) -/

/-- The queue that a Q field names; 0 is the sequencer. -/
def talQueue (q : BitVec 2) : Option Queue :=
  match q.toNat with
  | 1 => some .fq
  | 2 => some .xq
  | 3 => some .wq
  | _ => none

/-- T.WAIT in the sequencer: the condition is tested at once; where it does not hold, the wait is registered, or fails its item
under R155 or R192 (R140, R149). -/
def State.seqWaitFor (s : State) (c : Nat) (it : Item) (f : TalF) : State :=
  let k := s.core c
  let t := it.tally c f.t.toNat
  let v := talValue k.sreg f
  if condHolds f.c (s.tally t) v then s.modCore c Core.advance
  else if s.strict t then s.deadlock c it.key 3 { q := 0, slot := 0, tally := t, word := k.pc } none
  else match s.missed it t with
    | some d => s.missItem c it.key d
    | none => s.modCore c fun k => { k with seqWait := some { tally := t, value := v, eq := f.c, at_ := s.now, released := false } }

/-- A remote update leaves for device d (R140, R147, Table 15.4). -/
def State.sendTally (s : State) (c item entry d t : Nat) (set : Bool) (v : W32) : State :=
  s.sendStream d { op := if set then .tallySet else .tallyAdd, addr := BitVec.ofNat 39 t, value := v } c item entry

/-- An update of the tally that an item's offset maps to, on device d; one of a shared tally that takes place rules out a re-issue
(R310). -/
def State.updTally (s : State) (c : Nat) (it : Item) (entry o d : Nat) (set : Bool) (v : W32) : State :=
  let share := fun (s : State) => s.modCore c fun k => k.modItem it.key fun it => { it with shared := true }
  if d = s.devId then
    let r := s.tallyOp (.item c it.key) (it.tally c o) set v
    if r.2 ∨ it.private_ c (it.tally c o) then r.1 else share r.1
  else share (s.sendTally c it.key entry d (it.tally c o) set v)

/-- A T.UPD or T.RUPD that the sequencer carries out on device d (R143). -/
def State.seqUpd (s : State) (c : Nat) (f : TalF) (d : Nat) : State :=
  match (s.core c).curItem with
  | some it => (s.updTally c it noWork f.t.toNat d f.c (talValue (s.core c).sreg f)).modCore c Core.advance
  | none => s

/-- T_WAIT (R140): in the sequencer with Q = 0, else an entry that starts when its condition holds. -/
def execTWait (core : Fin 32) (f : TalF) (s : State) : Out :=
  .next (match talQueue f.q with
    | some q => s.place core q (.tWait core f)
    | none => s.seqDo core (.tWait core f) fun s => match (s.core core).curItem with
      | some it => s.seqWaitFor core it f
      | none => s)

/-- T_UPD (R140): at once with Q = 0, else at the retirement of its entry. -/
def execTUpd (core : Fin 32) (f : TalF) (s : State) : Out :=
  .next (match talQueue f.q with
    | some q => s.place core q (.tUpd core f)
    | none => s.seqDo core (.tUpd core f) fun s => s.seqUpd core f s.devId)

/-- T_RUPD (R140): the same on device S[DR]. -/
def execTRupd (core : Fin 32) (f : TalF) (s : State) : Out :=
  .next (match talQueue f.q with
    | some q => s.place core q (.tRupd core f)
    | none => s.seqDo core (.tRupd core f) fun s => s.seqUpd core f (((s.core core).s f.dr.toNat).toNat % 512))

end Sys2Proof.Machine
end

