-- ==== Sys2Proof/Machine/Flags.lean ====
section
/-! DEFINITION. The sticky arithmetic flags of a core (R87, Table 4.6) and the computations that set them in integer work. -/
namespace Sys2Proof.Machine

/-- A set of arithmetic flags, a bit each as in Table 4.6. -/
abbrev AFlags := BitVec 8

abbrev AF.ACC_WRAP : AFlags := 0x01
abbrev AF.SAT : AFlags := 0x02
abbrev AF.SB8_EXP_MAX : AFlags := 0x04
abbrev AF.FP_INVALID : AFlags := 0x08
abbrev AF.FP_DIVZERO : AFlags := 0x10
abbrev AF.FP_OVERFLOW : AFlags := 0x20
abbrev AF.FP_UNDERFLOW : AFlags := 0x40
abbrev AF.CVT_SAT : AFlags := 0x80

/-- A flag under a condition. -/
def flagIf (b : Bool) (f : AFlags) : AFlags := if b then f else 0

/-- The flags an operation met are set in ARITH_FLAGS of core c and stay set (R87). -/
def State.setAFlags (s : State) (c : Nat) (f : AFlags) : State :=
  if f = 0 then s
  else s.wr (Pg.CORE c) Off.CORE.ARITH_FLAGS (s.rd (Pg.CORE c) Off.CORE.ARITH_FLAGS ||| f.setWidth 32)

/-- One addition into an accumulator of n bits (R74): the wrapped sum, and ACC_WRAP where the exact sum lies outside. -/
def accAdd (n : Nat) (a t : Int) : Int × AFlags :=
  let x := a + t
  (wrapSigned n x, flagIf (decide (x < -(2 ^ (n - 1)) ∨ (2 : Int) ^ (n - 1) ≤ x)) AF.ACC_WRAP)

/-- Saturation to a format's range: the value, and SAT (or the flag given) where it lay outside. -/
def satFlag (x lo hi : Int) (f : AFlags) : Int × AFlags := (sat x lo hi, flagIf (decide (x < lo ∨ hi < x)) f)

/-- Smallest and largest value of an integer format (Table 4.1 codes INT8, INT16, INT32). -/
def fmtRange (fmt : Nat) : Int × Int :=
  match fmt with
  | 0 => (-128, 127)
  | 1 => (-32768, 32767)
  | _ => (-(2 ^ 31), 2 ^ 31 - 1)

end Sys2Proof.Machine
end

