-- ==== Sys2Proof/Machine/FloatOps.lean ====
section
/-! DEFINITION. binary32 arithmetic on lanes (R83 to R86): exact values, rounding, the operations that are exact or correctly
rounded, and those whose result is bounded but not fixed (Table 4.5). -/
namespace Sys2Proof.Machine

/-- What a binary32 lane stands for (R83: a subnormal is read as zero of its sign): NaN (signalling or quiet), infinity,
zero, or m x 2^e with 2^23 <= m < 2^24. -/
inductive Fl where
  | nan (sig : Bool)
  | inf (neg : Bool)
  | zero (neg : Bool)
  | fin (neg : Bool) (m : Nat) (e : Int)
deriving DecidableEq, Repr

/-- A lane read. -/
def flOf (w : W32) : Fl :=
  let neg := bit w 31
  let ex := fld w 30 23
  let m := fld w 22 0
  if ex = 255 then (if m = 0 then .inf neg else .nan (!(bit w 22)))
  else if ex = 0 then .zero neg
  else .fin neg (2 ^ 23 + m) ((ex : Int) - 150)

/-- The quiet NaN (R83). -/
abbrev qNaN : W32 := 0x7FC00000

def signBit (neg : Bool) : Nat := if neg then 0x80000000 else 0
def infW (neg : Bool) : W32 := BitVec.ofNat 32 (signBit neg + 0x7F800000)
def zeroW (neg : Bool) : W32 := BitVec.ofNat 32 (signBit neg)

/-- m / 2^s rounded to the nearest integer, ties to even, for natural m. -/
def rheNat (m s : Nat) : Nat :=
  let q := m / 2 ^ s
  let r := m % 2 ^ s
  if 2 ^ s < 2 * r ∨ (2 * r = 2 ^ s ∧ q % 2 = 1) then q + 1 else q

/-- m x 2^e, m not 0, rounded to 24 significant bits: mantissa and exponent. -/
def round24 (m : Nat) (e : Int) : Nat × Int :=
  let n := m.log2 + 1
  if n ≤ 24 then (m * 2 ^ (24 - n), e - ((24 - n : Nat) : Int))
  else
    let q := rheNat m (n - 24)
    let x := e + ((n - 24 : Nat) : Int)
    if q = 2 ^ 24 then (2 ^ 23, x + 1) else (q, x)

/-- The binary32 result of an exact value m x 2^e, m not 0 (R83): overflow to infinity, a tiny value to zero. -/
def roundPack (neg : Bool) (m : Nat) (e : Int) : W32 × AFlags :=
  let r := round24 m e
  let b := r.2 + 150
  if 255 ≤ b then (infW neg, AF.FP_OVERFLOW)
  else if b ≤ 0 then (zeroW neg, AF.FP_UNDERFLOW)
  else (BitVec.ofNat 32 (signBit neg + b.toNat * 2 ^ 23 + (r.1 - 2 ^ 23)), 0)

/-- The binary32 result of an exact signed value x x 2^e; `z` is the sign of an exact zero. -/
def packInt (x : Int) (e : Int) (z : Bool) : W32 × AFlags :=
  if x = 0 then (zeroW z, 0) else roundPack (decide (x < 0)) x.natAbs e

def Fl.isNan : Fl → Bool
  | .nan _ => true
  | _ => false
def Fl.isSig : Fl → Bool
  | .nan sig => sig
  | _ => false

/-- The lane a value is written as. -/
def Fl.word : Fl → W32
  | .nan _ => qNaN
  | .inf n => infW n
  | .zero n => zeroW n
  | .fin n m e => BitVec.ofNat 32 (signBit n + (e + 150).toNat * 2 ^ 23 + (m - 2 ^ 23))

def Fl.neg : Fl → Fl
  | .nan s => .nan s
  | .inf n => .inf (!n)
  | .zero n => .zero (!n)
  | .fin n m e => .fin (!n) m e

/-- Signed mantissa. -/
def sgn (neg : Bool) (m : Nat) : Int := if neg then -(m : Int) else m

/-- FP_INVALID where an operand is a signalling NaN (R84). -/
def sigFlag (l : List Fl) : AFlags := flagIf (l.any Fl.isSig) AF.FP_INVALID

/-- The sum of two exact values x x 2^e and y x 2^f; an exact zero is +0 unless `z`. -/
def exactSum (x : Int) (e : Int) (y : Int) (f : Int) (z : Bool) : W32 × AFlags :=
  let g := min e f
  packInt (x * 2 ^ (e - g).toNat + y * 2 ^ (f - g).toNat) g z

/-- VADDF (Table 4.5). -/
def addF (a b : Fl) : W32 × AFlags :=
  if a.isNan || b.isNan then (qNaN, sigFlag [a, b])
  else match a, b with
    | .inf n, .inf m => if n = m then (infW n, 0) else (qNaN, AF.FP_INVALID)
    | .inf n, _ => (infW n, 0)
    | _, .inf m => (infW m, 0)
    | .zero n, .zero m => (zeroW (n && m), 0)
    | .zero _, .fin n m e => ((Fl.fin n m e).word, 0)
    | .fin n m e, .zero _ => ((Fl.fin n m e).word, 0)
    | .fin n m e, .fin n' m' e' => exactSum (sgn n m) e (sgn n' m') e' false
    | _, _ => (qNaN, 0)

/-- VMULF (Table 4.5). -/
def mulF (a b : Fl) : W32 × AFlags :=
  if a.isNan || b.isNan then (qNaN, sigFlag [a, b])
  else match a, b with
    | .inf _, .zero _ => (qNaN, AF.FP_INVALID)
    | .zero _, .inf _ => (qNaN, AF.FP_INVALID)
    | .inf n, .inf m => (infW (n ^^ m), 0)
    | .inf n, .fin m _ _ => (infW (n ^^ m), 0)
    | .fin n _ _, .inf m => (infW (n ^^ m), 0)
    | .zero n, .zero m => (zeroW (n ^^ m), 0)
    | .zero n, .fin m _ _ => (zeroW (n ^^ m), 0)
    | .fin n _ _, .zero m => (zeroW (n ^^ m), 0)
    | .fin n m e, .fin n' m' e' => roundPack (n ^^ n') (m * m') (e + e')
    | _, _ => (qNaN, 0)

/-- VFMAF (Table 4.5): one rounding. -/
def fmaF (a b c : Fl) : W32 × AFlags :=
  if a.isNan || b.isNan || c.isNan then (qNaN, sigFlag [a, b, c])
  else match a, b, c with
    | .inf _, .zero _, _ => (qNaN, AF.FP_INVALID)
    | .zero _, .inf _, _ => (qNaN, AF.FP_INVALID)
    | .fin n m e, .fin n' m' e', c => match c with
      | .fin k p q => exactSum (sgn (n ^^ n') (m * m')) (e + e') (sgn k p) q false
      | .zero _ => roundPack (n ^^ n') (m * m') (e + e')
      | .inf k => (infW k, 0)
      | .nan _ => (qNaN, 0)
    | .zero n, b, c => match c with
      | .zero k => (zeroW (k && (n ^^ (match b with
          | .zero m => m
          | .fin m _ _ => m
          | _ => false))), 0)
      | c => (c.word, 0)
    | .fin n _ _, .zero m, c => match c with
      | .zero k => (zeroW (k && (n ^^ m)), 0)
      | c => (c.word, 0)
    | .inf n, b, c =>
      let p := n ^^ (match b with
        | .inf m => m
        | .fin m _ _ => m
        | _ => false)
      match c with
      | .inf k => if k = p then (infW p, 0) else (qNaN, AF.FP_INVALID)
      | _ => (infW p, 0)
    | .fin n _ _, .inf m, c => match c with
      | .inf k => if k = (n ^^ m) then (infW k, 0) else (qNaN, AF.FP_INVALID)
      | _ => (infW (n ^^ m), 0)
    | _, _, _ => (qNaN, 0)

/-- Order of two values that are not NaN: -0 < +0 (Table 4.5). The key rises with the value. -/
def Fl.key (a : Fl) : Int :=
  let w := a.word
  if bit w 31 then -((fld w 30 0 : Nat) : Int) - 1 else (fld w 30 0 : Nat)

/-- VMINF, VMAXF. -/
def minF (a b : Fl) : W32 × AFlags :=
  let r := if a.isNan then b else if b.isNan then a else if b.key < a.key then b else a
  (r.word, sigFlag [a, b])
def maxF (a b : Fl) : W32 × AFlags :=
  let r := if a.isNan then b else if b.isNan then a else if a.key < b.key then b else a
  (r.word, sigFlag [a, b])

/-! ## Results that the spec bounds and does not fix -/

/-- The value of a finite lane as x x 2^e: zero or normal; none for a subnormal pattern, infinity or NaN. -/
def candVal (w : W32) : Option (Int × Int) :=
  match flOf w with
  | .zero _ => if fld w 30 0 = 0 then some (0, 0) else none
  | .fin n m e => some (sgn n m, e)
  | _ => none

/-- |x 2^e - y 2^f| is at most b 2^g, or at most 2^h where h is given. -/
def closeTo (x : Int) (e : Int) (y : Int) (f : Int) (b : Nat) (g : Int) (h : Option Int) : Bool :=
  let k := min (min e f) (min g (h.getD g))
  let d := (x * 2 ^ (e - k).toNat - y * 2 ^ (f - k).toNat).natAbs
  decide (d ≤ b * 2 ^ (g - k).toNat) || match h with
    | some h => decide (d ≤ 2 ^ (h - k).toNat)
    | none => false

/-- The lane d places further on the scale of binary32 numbers. -/
def stepF (w : W32) (d : Int) : W32 :=
  let key := (if bit w 31 then -((fld w 30 0 : Nat) : Int) else (fld w 30 0 : Nat)) + d
  if key < 0 then BitVec.ofNat 32 (0x80000000 + key.natAbs % 2 ^ 31) else BitVec.ofNat 32 (key.toNat % 2 ^ 31)

/-- Result of operation `fn` whose exact value is m x 2^e (m not 0): the nearest binary32 number, or another that stays
within `b` units of its last place, or within 2^h, of the exact value (Table 4.5, log entry 7). -/
def boundF (fn b : Nat) (h : Option Int) (x y : W32) (neg : Bool) (m : Nat) (e : Int) : W32 × AFlags :=
  let near := roundPack neg m e
  match flOf near.1 with
  | .fin _ _ g =>
    let w := stepF near.1 (Config.ulpPick fn x.toNat y.toNat)
    match candVal w with
    | some (v, f) => if closeTo v f (sgn neg m) e b g h then (w, near.2) else near
    | none => near
  | _ => near

/-- m / n with 80 places after the point and a sticky bit: for rounding and comparison. -/
def ratio (m n : Nat) : Nat :=
  let q := m * 2 ^ 80 / n
  2 * q + if m * 2 ^ 80 % n = 0 then 0 else 1

/-- VRCPF. -/
def rcpF (w : W32) : W32 × AFlags :=
  match flOf w with
  | .nan s => (qNaN, flagIf s AF.FP_INVALID)
  | .zero n => (infW n, AF.FP_DIVZERO)
  | .inf n => (zeroW n, 0)
  | .fin n m e => boundF 1 1 none w 0 n (ratio 1 m) (-81 - e)

/-- VDIVF. -/
def divF (x y : W32) : W32 × AFlags :=
  match flOf x, flOf y with
  | .nan s, .nan t => (qNaN, flagIf (s || t) AF.FP_INVALID)
  | .nan s, _ => (qNaN, flagIf s AF.FP_INVALID)
  | _, .nan s => (qNaN, flagIf s AF.FP_INVALID)
  | .zero _, .zero _ => (qNaN, AF.FP_INVALID)
  | .inf _, .inf _ => (qNaN, AF.FP_INVALID)
  | .zero n, .fin m _ _ => (zeroW (n ^^ m), 0)
  | .zero n, .inf m => (zeroW (n ^^ m), 0)
  | .inf n, .zero m => (infW (n ^^ m), AF.FP_DIVZERO)
  | .inf n, .fin m _ _ => (infW (n ^^ m), 0)
  | .fin n _ _, .zero m => (infW (n ^^ m), AF.FP_DIVZERO)
  | .fin n _ _, .inf m => (zeroW (n ^^ m), 0)
  | .fin n m e, .fin n' m' e' => boundF 2 2 none x y (n ^^ n') (ratio m m') (e - e' - 81)

/-- A positive value m x 2^e as m' x 2^(2 h). -/
def evenExp (m : Nat) (e : Int) : Nat × Int := if e % 2 = 0 then (m, e / 2) else (2 * m, (e - 1) / 2)

/-- VSQRTF. -/
def sqrtF (w : W32) : W32 × AFlags :=
  match flOf w with
  | .nan s => (qNaN, flagIf s AF.FP_INVALID)
  | .zero n => (zeroW n, 0)
  | .inf n => if n then (qNaN, AF.FP_INVALID) else (infW false, 0)
  | .fin n m e =>
    if n then (qNaN, AF.FP_INVALID)
    else
      let (m, h) := evenExp m e
      let r := isqrt (m * 2 ^ 160)
      boundF 3 1 none w 0 false (2 * r + if r * r = m * 2 ^ 160 then 0 else 1) (h - 81)

/-- VRSQF. -/
def rsqF (w : W32) : W32 × AFlags :=
  match flOf w with
  | .nan s => (qNaN, flagIf s AF.FP_INVALID)
  | .zero _ => (infW false, AF.FP_DIVZERO)
  | .inf n => if n then (qNaN, AF.FP_INVALID) else (zeroW false, 0)
  | .fin n m e =>
    if n then (qNaN, AF.FP_INVALID)
    else
      let (m, h) := evenExp m e
      let r := isqrt (2 ^ 240 / m)
      boundF 4 2 none w 0 false (2 * r + if r * r * m = 2 ^ 240 then 0 else 1) (-121 - h)

/-! ### Fixed point with 256 places: the elementary functions, computed closer than any bound of Table 4.5 (log entry 7) -/

abbrev fx1 : Nat := 2 ^ 256
/-- ln 2. -/
abbrev fxLn2 : Nat := 0xb17217f7d1cf79abc9e3b39803f2f6af40f343267298b62d8a0d175b8baafa2c
/-- 1 / sqrt(2 pi). -/
abbrev fxPhi0 : Nat := 0x662114cf50d942343f2cf1402eae38bfd3829f30512706d8c0471b4802639d2f

/-- x 2^e in fixed point, rounded down. -/
def toFx (x : Int) (e : Int) : Int := if 0 ≤ e + 256 then x * 2 ^ (e + 256).toNat else x.fdiv (2 ^ (-(e + 256)).toNat)

/-- Terms n, n + 1, ... of the exponential series of r, `t` the term before. -/
def expTerms : Nat → Nat → Int → Int → Int
  | 0, _, _, _ => 0
  | k + 1, n, r, t =>
    let t := (t * r).fdiv (fx1 * n)
    t + expTerms k (n + 1) r t

/-- e^x for x in fixed point: mantissa in fixed point and a power of two. -/
def expFx (x : Int) : Nat × Int :=
  let k := (x + fxLn2 / 2).fdiv fxLn2
  let r := x - k * fxLn2
  ((fx1 + expTerms 64 1 r fx1).toNat, k)

/-- e^x in fixed point (rounded down). -/
def expFixed (x : Int) : Nat :=
  let (m, k) := expFx x
  if 0 ≤ k then m * 2 ^ k.toNat else m / 2 ^ (-k).toNat

/-- z + z^3/3 + z^5/5 + ... from the term with denominator n on. -/
def atanhTerms : Nat → Nat → Nat → Nat → Nat
  | 0, _, _, _ => 0
  | k + 1, n, z2, t => t / n + atanhTerms k (n + 2) z2 (t * z2 / fx1)

/-- ln of m x 2^e, 2^23 <= m < 2^24. -/
def lnFx (m : Nat) (e : Int) : Int :=
  let z := (m - 2 ^ 23) * fx1 / (m + 2 ^ 23)
  (e + 23) * fxLn2 + 2 * atanhTerms 90 1 (z * z / fx1) z

/-- The fixed-point value x as an exact value for `boundF`. -/
def boundFx (fn b : Nat) (h : Option Int) (w : W32) (x : Int) (z : Bool) : W32 × AFlags :=
  if x = 0 then (zeroW z, AF.FP_UNDERFLOW) else boundF fn b h w 0 (decide (x < 0)) x.natAbs (-256)

/-- VEXPF: the limits are the decimal numbers of Table 4.5. -/
def expF (w : W32) : W32 × AFlags :=
  match flOf w with
  | .nan s => (qNaN, flagIf s AF.FP_INVALID)
  | .inf n => (if n then zeroW false else infW false, 0)
  | .zero _ => boundF 5 2 none w 0 false 1 0
  | .fin n m e =>
    let a := toFx (sgn n m) (if 0 < e then 0 else e)
    let big := decide (0 < e)
    if !n ∧ (big ∨ 88722 * (fx1 : Int) < 1000 * a) then (infW false, AF.FP_OVERFLOW)
    else if n ∧ (big ∨ 1000 * a < -87336 * (fx1 : Int)) then (zeroW false, AF.FP_UNDERFLOW)
    else
      let (q, k) := expFx a
      boundF 5 2 none w 0 false q (k - 256)

/-- VLOGF. -/
def logF (w : W32) : W32 × AFlags :=
  match flOf w with
  | .nan s => (qNaN, flagIf s AF.FP_INVALID)
  | .zero _ => (infW true, AF.FP_DIVZERO)
  | .inf n => if n then (qNaN, AF.FP_INVALID) else (infW false, 0)
  | .fin n m e =>
    if n then (qNaN, AF.FP_INVALID)
    else if m = 2 ^ 23 ∧ e = -23 then (zeroW false, 0)
    else boundFx 6 2 none w (lnFx m e) false

/-- |a| of a finite value, capped at 2^8, in fixed point. -/
def capFx (m : Nat) (e : Int) : Nat := if -15 < e then 256 * fx1 else (toFx m e).toNat

/-- VTANHF. -/
def tanhF (w : W32) : W32 × AFlags :=
  match flOf w with
  | .nan s => (qNaN, flagIf s AF.FP_INVALID)
  | .zero n => (zeroW n, 0)
  | .inf n => (BitVec.ofNat 32 (signBit n + 0x3F800000), 0)
  | .fin n m e =>
    let a := min (capFx m e) (64 * fx1)
    let t := expFixed (2 * a)
    let r := (t - fx1) * fx1 / (t + fx1)
    boundFx 7 2 (some (-26)) w (sgn n r) n

/-- VSIGF. -/
def sigF (w : W32) : W32 × AFlags :=
  match flOf w with
  | .nan s => (qNaN, flagIf s AF.FP_INVALID)
  | .zero _ => boundF 8 2 (some (-26)) w 0 false 1 (-1)
  | .inf n => (if n then zeroW false else BitVec.ofNat 32 0x3F800000, 0)
  | .fin n m e =>
    let a := min (capFx m e) (150 * fx1)
    let t := expFixed a
    -- 1 / (1 + e^-a) = t / (t + 1), and for -a: 1 / (t + 1)
    boundFx 8 2 (some (-26)) w (if n then ((fx1 * fx1 / (t + fx1) : Nat) : Int) else ((t * fx1 / (t + fx1) : Nat) : Int)) false

/-- a + a^3/3 + a^5/15 + ... from denominator n on. -/
def phiTerms : Nat → Nat → Nat → Nat → Nat
  | 0, _, _, _ => 0
  | k + 1, n, a2, t => t + phiTerms k (n + 2) a2 (t * a2 / fx1 / (n + 2))

/-- The normal distribution function less one half, for a >= 0 in fixed point, a at most 16. The exponential keeps its full mantissa, so that
one half less the answer is right to 50 places and more even at 16, where the product is tiny (R83). -/
def phiFx (a : Nat) : Nat :=
  let (m, k) := expFx (-((a * a / fx1 / 2 : Nat) : Int))
  (fxPhi0 * m / fx1) * phiTerms 500 1 (a * a / fx1) a / fx1 / 2 ^ (-k).toNat

/-- VGELUF. -/
def geluF (w : W32) : W32 × AFlags :=
  match flOf w with
  | .nan s => (qNaN, flagIf s AF.FP_INVALID)
  | .zero n => (zeroW n, 0)
  | .inf n => (if n then zeroW true else infW false, 0)
  | .fin n m e =>
    if 16 * fx1 ≤ capFx m e then
      (if n then (zeroW true, AF.FP_UNDERFLOW) else boundF 9 4 (some (-24)) w 0 false m e)
    else
      let a := capFx m e
      let p := phiFx a
      let q := if n then fx1 / 2 - p else fx1 / 2 + p
      boundF' w n m e q
where
  /-- The product of the exact operand and the distribution function. -/
  boundF' (w : W32) (n : Bool) (m : Nat) (e : Int) (q : Nat) : W32 × AFlags :=
    if q = 0 then (zeroW n, AF.FP_UNDERFLOW) else boundF 9 4 (some (-24)) w 0 n (m * q) (e - 256)

/-! ## Reductions and conversions -/

/-- One level of the tree of R85. -/
def pairSums : List W32 → List W32 × AFlags
  | a :: b :: r =>
    let x := addF (flOf a) (flOf b)
    let y := pairSums r
    (x.1 :: y.1, x.2 ||| y.2)
  | l => (l, 0)

/-- VSUMRF over 64 lanes: six levels (R85). -/
def sumTree : Nat → List W32 → W32 × AFlags
  | 0, l => (l.headD 0, 0)
  | k + 1, l =>
    let x := pairSums l
    let y := sumTree k x.1
    (y.1, x.2 ||| y.2)

/-- VMAXRF, VMINRF: NaN lanes are ignored, NaN where all are (Table 4.5). -/
def foldF (op : Fl → Fl → W32 × AFlags) (ls : List W32) : W32 × AFlags :=
  let fs := ls.map flOf
  match fs.filter fun a => !a.isNan with
  | [] => (qNaN, sigFlag fs)
  | a :: r => (r.foldl (fun x b => (op (flOf x) b).1) a.word, sigFlag fs)

/-- VCVTIF (R86). -/
def cvtIF (a : W32) : W32 × AFlags := packInt a.toInt 0 false

/-- x 2^e rounded to the nearest integer, ties to even. -/
def rheDyadic (x : Int) (e : Int) : Int := if 0 ≤ e then x * 2 ^ e.toNat else rhe x (-e).toNat

/-- VCVTFI (R86): rhe(a x 2^n), saturated to the format. -/
def cvtFI (n : Int) (fmt : Nat) (a : W32) : W32 × AFlags :=
  let (lo, hi) := fmtRange fmt
  match flOf a with
  | .nan s => (0, AF.CVT_SAT ||| flagIf s AF.FP_INVALID)
  | .inf neg => (BitVec.ofInt 32 (if neg then lo else hi), AF.CVT_SAT)
  | .zero _ => (0, 0)
  | .fin neg m e =>
    let r := satFlag (rheDyadic (sgn neg m) (e + n)) lo hi AF.CVT_SAT
    (BitVec.ofInt 32 r.1, r.2)

/-- Mantissa of an SB8 element of value x 2^e under exponent E, unrounded range (R71). -/
def sb8Mant (E : Nat) (v : Int × Int) : Int := rheDyadic v.1 (v.2 + 32 - E)

/-- The exponent search of R80 and R86 for a block: from `E` on, the first at which every element fits, at most 63. -/
def searchExp (fits : Nat → Bool) : Nat → Nat → Nat
  | 0, E => E
  | k + 1, E => if E < 63 ∧ !(fits E) then searchExp fits k (E + 1) else E

/-- VCVTFB on one block of 32 lanes (R86, R137): NaN lanes count as 0, infinities as values that never fit. OUT_EXP cancels:
the mantissa under exponent E is the lane's value x 2^(32 - E). -/
def cvtFB (ls : List W32) : List W32 × AFlags :=
  let fs := ls.map flOf
  let val := fun (a : Fl) => match a with
    | .fin n m e => (sgn n m, e)
    | .inf n => (sgn n 1, (400 : Int))
    | _ => (0, 0)
  let vs := fs.map val
  let fits := fun E => vs.all fun v => decide (-128 ≤ sb8Mant E v ∧ sb8Mant E v ≤ 127)
  let E := searchExp fits 64 0
  let ms := vs.map fun v => satFlag (sb8Mant E v) (-128) 127 AF.CVT_SAT
  let w := ms.map fun m => BitVec.ofNat 32 (wrapTo 8 m.1 + 256 * E)
  (w, (ms.foldl (fun f m => f ||| m.2) 0) ||| sigFlag fs ||| flagIf (fs.any Fl.isNan) AF.CVT_SAT ||| flagIf (E == 63) AF.SB8_EXP_MAX)

end Sys2Proof.Machine
end

