-- ==== Sys2Proof/Machine/VectorOps.lean ====
section
/-! DEFINITION. The vector unit (R82 to R86, R105, R135 to R137): what each vector command computes when its queue entry is
carried out. -/
namespace Sys2Proof.Machine

/-! ## Integer lanes (Table 4.4) -/

def laneAdds (a b : W32) : W32 × AFlags :=
  let r := satFlag (a.toInt + b.toInt) (-(2 ^ 31)) (2 ^ 31 - 1) AF.SAT
  (BitVec.ofInt 32 r.1, r.2)
def laneSubs (a b : W32) : W32 × AFlags :=
  let r := satFlag (a.toInt - b.toInt) (-(2 ^ 31)) (2 ^ 31 - 1) AF.SAT
  (BitVec.ofInt 32 r.1, r.2)
def laneMin (a b : W32) : W32 := if b.slt a then b else a
def laneMax (a b : W32) : W32 := if a.slt b then b else a
def laneAbs (a : W32) : W32 × AFlags :=
  let r := satFlag (a.toInt.natAbs : Int) (-(2 ^ 31)) (2 ^ 31 - 1) AF.SAT
  (BitVec.ofInt 32 r.1, r.2)
def laneShl (n : Nat) (a : W32) : W32 := if 32 ≤ n then 0 else a <<< n
def laneShra (n : Nat) (a : W32) : W32 := if 32 ≤ n then (if a.slt 0 then 0xFFFFFFFF else 0) else a.sshiftRight n
def laneShrr (n : Nat) (a : W32) : W32 := if 32 ≤ n then 0 else BitVec.ofInt 32 (rhe a.toInt n)
/-- VCMP: the relation of REL (Table 6.16). -/
def laneCmp (rel : Nat) (a b : W32) : W32 :=
  let r := match rel with
    | 0 => a == b
    | 1 => a != b
    | 2 => a.slt b
    | _ => a.sle b
  if r then 0xFFFFFFFF else 0
def laneSel (a b c : W32) : W32 := if c = 0 then b else a
/-- R79 on exact values: q = rhe(A x M, S), SAT outside the format, clamped to LO and HI. -/
def requant (a : Int) (m sh : Nat) (fmt : Nat) (lo hi : Int) : Int × AFlags :=
  let q := rhe (a * m) sh
  let (x, y) := fmtRange fmt
  (sat q lo hi, flagIf (decide (q < x ∨ y < q)) AF.SAT)
/-- R79 with M and S of a requant table: an M of 0 forces the output to 0 (R78). -/
def tableRq (a : Int) (m sh : Nat) (fmt : Nat) (lo hi : Int) : Int × AFlags := if m = 0 then (0, 0) else requant a m sh fmt lo hi
/-- VRQ (R137): M and S from the VB lane, LO and HI from the VC lane. -/
def laneRq (fmt : Nat) (a b c : W32) : W32 × AFlags :=
  let r := requant a.toInt (fld b 15 0) (min (fld b 21 16) 47) fmt (sfld c 15 0) (sfld c 31 16)
  (BitVec.ofInt 32 r.1, r.2)

/-! ## Whole registers -/

/-- Flags of a list of lane results, and the lanes. -/
def gather (l : List (W32 × AFlags)) : List W32 × AFlags := (l.map (·.1), l.foldl (fun f x => f ||| x.2) 0)

/-- The second operand: register VB, or under SB an S register's value at issue in every lane (Table 6.16). -/
def vecB (k : Core) (e : QEntry) (f : VecF) : List W32 := if f.sb then List.replicate 64 (e.s f.vb.toNat) else k.vec f.vb.toNat

def lanes1 (k : Core) (f : VecF) (g : W32 → W32 × AFlags) : List W32 × AFlags := gather ((k.vec f.va.toNat).map g)
def lanes2 (k : Core) (e : QEntry) (f : VecF) (g : W32 → W32 → W32 × AFlags) : List W32 × AFlags :=
  gather (List.zipWith g (k.vec f.va.toNat) (vecB k e f))
def lanes3 (k : Core) (e : QEntry) (f : VecF) (g : W32 → W32 → W32 → W32 × AFlags) : List W32 × AFlags :=
  gather (List.zipWith (fun (p : W32 × W32) c => g p.1 p.2 c) ((k.vec f.va.toNat).zip (vecB k e f)) (k.vec f.vc.toNat))
/-- A reduction writes its result to every lane (R135). -/
def reduce (r : W32 × AFlags) : List W32 × AFlags := (List.replicate 64 r.1, r.2)

def pure2 (g : W32 → W32 → W32) (a b : W32) : W32 × AFlags := (g a b, 0)
def pure1 (g : W32 → W32) (a : W32) : W32 × AFlags := (g a, 0)
def fl2 (g : Fl → Fl → W32 × AFlags) (a b : W32) : W32 × AFlags := g (flOf a) (flOf b)

/-- Destination register, lanes and flags of a command that writes a vector register from registers alone. -/
def vecResult (k : Core) (e : QEntry) : Option (Nat × List W32 × AFlags) :=
  match e.op with
  | .vbc _ f => some (f.vd.toNat, List.replicate 64 (e.s f.va.toNat), 0)
  | .vadd _ f => some (f.vd.toNat, lanes2 k e f (pure2 (· + ·)))
  | .vsub _ f => some (f.vd.toNat, lanes2 k e f (pure2 (· - ·)))
  | .vadds _ f => some (f.vd.toNat, lanes2 k e f laneAdds)
  | .vsubs _ f => some (f.vd.toNat, lanes2 k e f laneSubs)
  | .vmul _ f => some (f.vd.toNat, lanes2 k e f (pure2 (· * ·)))
  | .vmin _ f => some (f.vd.toNat, lanes2 k e f (pure2 laneMin))
  | .vmax _ f => some (f.vd.toNat, lanes2 k e f (pure2 laneMax))
  | .vabs _ f => some (f.vd.toNat, lanes1 k f laneAbs)
  | .vand _ f => some (f.vd.toNat, lanes2 k e f (pure2 (· &&& ·)))
  | .vor _ f => some (f.vd.toNat, lanes2 k e f (pure2 (· ||| ·)))
  | .vxor _ f => some (f.vd.toNat, lanes2 k e f (pure2 (· ^^^ ·)))
  | .vshl _ f => some (f.vd.toNat, lanes1 k f (pure1 (laneShl f.n.toNat)))
  | .vshra _ f => some (f.vd.toNat, lanes1 k f (pure1 (laneShra f.n.toNat)))
  | .vshrr _ f => some (f.vd.toNat, lanes1 k f (pure1 (laneShrr f.n.toNat)))
  | .vcmp _ f => some (f.vd.toNat, lanes2 k e f (pure2 (laneCmp f.rel.toNat)))
  | .vsel _ f => some (f.vd.toNat, lanes3 k e f fun a b c => (laneSel a b c, 0))
  | .vrq _ f => some (f.vd.toNat, lanes3 k e f (laneRq f.fmt.toNat))
  | .vsumr _ f => some (f.vd.toNat, reduce ((k.vec f.va.toNat).foldl (· + ·) 0, 0))
  | .vmaxr _ f => some (f.vd.toNat, reduce ((k.vec f.va.toNat).foldl laneMax (k.vlane f.va.toNat 0), 0))
  | .vminr _ f => some (f.vd.toNat, reduce ((k.vec f.va.toNat).foldl laneMin (k.vlane f.va.toNat 0), 0))
  | .vmov _ f => some (f.vd.toNat, k.vec f.va.toNat, 0)
  | .vaddf _ f => some (f.vd.toNat, lanes2 k e f (fl2 addF))
  | .vsubf _ f => some (f.vd.toNat, lanes2 k e f (fl2 fun a b => addF a b.neg))
  | .vmulf _ f => some (f.vd.toNat, lanes2 k e f (fl2 mulF))
  | .vfmaf _ f => some (f.vd.toNat, lanes3 k e f fun a b c => fmaF (flOf a) (flOf b) (flOf c))
  | .vminf _ f => some (f.vd.toNat, lanes2 k e f (fl2 minF))
  | .vmaxf _ f => some (f.vd.toNat, lanes2 k e f (fl2 maxF))
  | .vrcpf _ f => some (f.vd.toNat, lanes1 k f rcpF)
  | .vdivf _ f => some (f.vd.toNat, lanes2 k e f divF)
  | .vsqrtf _ f => some (f.vd.toNat, lanes1 k f sqrtF)
  | .vrsqf _ f => some (f.vd.toNat, lanes1 k f rsqF)
  | .vexpf _ f => some (f.vd.toNat, lanes1 k f expF)
  | .vlogf _ f => some (f.vd.toNat, lanes1 k f logF)
  | .vtanhf _ f => some (f.vd.toNat, lanes1 k f tanhF)
  | .vsigf _ f => some (f.vd.toNat, lanes1 k f sigF)
  | .vgeluf _ f => some (f.vd.toNat, lanes1 k f geluF)
  | .vsumrf _ f => some (f.vd.toNat, reduce (sumTree 6 (k.vec f.va.toNat)))
  | .vmaxrf _ f => some (f.vd.toNat, reduce (foldF maxF (k.vec f.va.toNat)))
  | .vminrf _ f => some (f.vd.toNat, reduce (foldF minF (k.vec f.va.toNat)))
  | .vcvtif _ f => some (f.vd.toNat, lanes1 k f cvtIF)
  | .vcvtfi _ f => some (f.vd.toNat, lanes1 k f (cvtFI (sfld f.n 5 0) f.fmt.toNat))
  | .vcvtfb _ f =>
    let a := cvtFB ((k.vec f.va.toNat).take 32)
    let b := cvtFB ((k.vec f.va.toNat).drop 32)
    some (f.vd.toNat, a.1 ++ b.1, a.2 ||| b.2)
  | _ => none

/-- Vector registers a command reads. -/
def vecReads (i : Instr) : List Nat :=
  let b := fun (f : VecF) => if f.sb then [] else [f.vb.toNat]
  match i with
  | .vadd _ f | .vsub _ f | .vadds _ f | .vsubs _ f | .vmul _ f | .vmin _ f | .vmax _ f | .vand _ f | .vor _ f | .vxor _ f
  | .vcmp _ f | .vaddf _ f | .vsubf _ f | .vmulf _ f | .vminf _ f | .vmaxf _ f | .vdivf _ f => f.va.toNat :: b f
  | .vsel _ f | .vrq _ f | .vfmaf _ f => f.va.toNat :: f.vc.toNat :: b f
  | .vabs _ f | .vshl _ f | .vshra _ f | .vshrr _ f | .vsumr _ f | .vmaxr _ f | .vminr _ f | .vmov _ f | .vrcpf _ f
  | .vsqrtf _ f | .vrsqf _ f | .vexpf _ f | .vlogf _ f | .vtanhf _ f | .vsigf _ f | .vgeluf _ f | .vsumrf _ f | .vmaxrf _ f
  | .vminrf _ f | .vcvtif _ f | .vcvtfi _ f | .vcvtfb _ f | .vst _ f => [f.va.toNat]
  | _ => []

/-- The vector register a command writes. -/
def vecWrites (i : Instr) : List Nat :=
  match i with
  | .vld _ f | .vbc _ f | .vadd _ f | .vsub _ f | .vadds _ f | .vsubs _ f | .vmul _ f | .vmin _ f | .vmax _ f | .vabs _ f
  | .vand _ f | .vor _ f | .vxor _ f | .vshl _ f | .vshra _ f | .vshrr _ f | .vcmp _ f | .vsel _ f | .vrq _ f | .vsumr _ f
  | .vmaxr _ f | .vminr _ f | .vmov _ f | .vaddf _ f | .vsubf _ f | .vmulf _ f | .vfmaf _ f | .vminf _ f | .vmaxf _ f
  | .vrcpf _ f | .vdivf _ f | .vsqrtf _ f | .vrsqf _ f | .vexpf _ f | .vlogf _ f | .vtanhf _ f | .vsigf _ f | .vgeluf _ f
  | .vsumrf _ f | .vmaxrf _ f | .vminrf _ f | .vcvtif _ f | .vcvtfi _ f | .vcvtfb _ f => [f.vd.toNat]
  | _ => []

/-- A vector register written whole: its lanes are sound again. -/
def State.setVec (s : State) (c v : Nat) (ls : List W32) : State :=
  { s with ue := s.ue.filter fun e => match e with
      | .vreg c' i => !(c' == c && i / 64 == v)
      | _ => true }.modCore c fun k => k.setVec v ls

/-- The rows of VLD and VST: the elements' row, and the exponents' row of SB8. -/
def vecRows (e : QEntry) (f : VecF) : List Nat :=
  e.row f.rw f.rwi :: if f.fmt = 2 then [e.row f.xr f.xri] else []

/-- Bytes of a part of a row: offset and element size of the formats of VLD and VST (R136). -/
def vecPart (f : VecF) : Nat × Nat :=
  match f.fmt.toNat with
  | 0 => (64 * f.part.toNat, 1)
  | 2 => (64 * f.part.toNat, 1)
  | 1 => (128 * (f.part.toNat % 2), 2)
  | _ => (0, 4)

/-- The lanes a VLD fills, from the elements' row and the exponents' row (R136). -/
def loadLanes (f : VecF) (row xrow : List Byte) : List W32 :=
  let (o, n) := vecPart f
  (List.range 64).map fun i =>
    let v := ofBytes ((List.range n).map fun j => row.getD (o + n * i + j) 0)
    match f.fmt.toNat with
    | 0 => BitVec.ofInt 32 (toSigned 8 v)
    | 1 => BitVec.ofInt 32 (toSigned 16 v)
    | 2 => (packInt (toSigned 8 v) (((xrow.getD (f.xb.toNat + i / 32) 0).toNat % 64 : Nat) - 32 : Int) false).1
    | _ => BitVec.ofNat 32 v

/-- Lane bytes a VST writes, with the flags met (R136). -/
def storeLanes (f : VecF) (ls : List W32) : List Byte × AFlags :=
  let n := (vecPart f).2
  let r := ls.map fun a => match f.fmt.toNat with
    | 0 =>
      let x := satFlag a.toInt (-128) 127 AF.CVT_SAT
      (leBytes n (wrapTo 8 x.1), x.2)
    | 1 =>
      let x := satFlag a.toInt (-32768) 32767 AF.CVT_SAT
      (leBytes n (wrapTo 16 x.1), x.2)
    | _ => (leBytes n a.toNat, (0 : AFlags))
  (r.flatMap (·.1), r.foldl (fun g x => g ||| x.2) 0)

/-- A masked write into one row of a core's scratchpad: bytes at an offset. -/
def State.rowPut (s : State) (c r o : Nat) (bs : List Byte) : State × Bool := s.store (rowAddr c r + o) (bs.map some)

end Sys2Proof.Machine
end

