-- ==== Sys2Proof/Machine/ConvOps.lean ====
section
/-! DEFINITION. The MAC array, the requantiser and pooling (R73 to R81, R131 to R134, R196 to R202, R213 to R217, R220). -/
namespace Sys2Proof.Machine

/-! ## Layer entry (Table 6.6) -/

def layMode (w : W128) : Nat := fld w 1 0
def layOfmt (w : W128) : Nat := fld w 4 2
def layKh (w : W128) : Nat := fld w 8 5
def layKw (w : W128) : Nat := fld w 12 9
def layDil (w : W128) : Nat := fld w 17 13 + 1
def layStr (w : W128) : Nat := 2 ^ fld w 19 18
def layPadm (w : W128) : Nat := fld w 21 20
def layPadv (w : W128) : Int := sfld w 37 22
def layAccExp (w : W128) : Nat := fld w 43 38
def layOutExp (w : W128) : Nat := fld w 49 44
def layRelu (w : W128) : Bool := bit w 50
def layLo (w : W128) : Int := sfld w 66 51
def layHi (w : W128) : Int := sfld w 82 67
def layIfmt (w : W128) : Nat := fld w 85 83

/-- A tile command as X.CONV and X.POOL share it: its layer, window edges, row placement and sizes (R131, R134). -/
structure Tile where
  lay : W128
  core : Nat
  /-- first input and output row, rows per input and output line -/
  inRow : Nat
  outRow : Nat
  ip : Nat
  opt : Nat
  /-- output lines and positions per line -/
  tl : Nat
  tp : Nat
  /-- input blocks per position; bytes per input element -/
  nib : Nat
  inB : Nat
  /-- four stored channels per position (R197) -/
  few : Bool
  /-- SB8 input layout (R198): X.CONV in mode 0b11 -/
  sb8 : Bool
  pt : Nat
  pb : Nat
  pl : Nat
  pr : Nat
  /-- valid output lines and positions, 0 for no limit -/
  vl : Nat
  vp : Nat
deriving DecidableEq, Repr

def tileWl (t : Tile) : Nat := (t.tl - 1) * layStr t.lay + (layKh t.lay - 1) * layDil t.lay + 1
def tileWp (t : Tile) : Nat := (t.tp - 1) * layStr t.lay + (layKw t.lay - 1) * layDil t.lay + 1

/-- One coordinate of a tap on an axis of n places with a padding places before and b after (R213, R214): the place it reads,
none for the pad element. -/
def tapAxis (padm n a b p : Nat) : Option Nat :=
  if a ≤ p ∧ p + b < n then some p
  else if n ≤ a + b then none
  else
    let last := n - b - 1
    match padm with
    | 1 => some (min (max p a) last)
    | 2 =>
      let m := last + 1 - a
      if m = 1 then some a
      else
        let d := (((p : Int) - a).emod (2 * (m - 1 : Nat))).toNat
        some (a + if m ≤ d then 2 * (m - 1) - d else d)
    | _ => none

/-- Window line and position that tap (ky, kx) of output (l, x) reads; none where it reads the pad element. -/
def tapAt (t : Tile) (l x ky kx : Nat) : Option (Nat × Nat) :=
  match tapAxis (layPadm t.lay) (tileWl t) t.pt t.pb (l * layStr t.lay + ky * layDil t.lay),
        tapAxis (layPadm t.lay) (tileWp t) t.pl t.pr (x * layStr t.lay + kx * layDil t.lay) with
  | some a, some b => some (a, b)
  | _, _ => none

/-- Tap (ky, kx) reads padding for the whole tile (R215). -/
def tapAllPad (t : Tile) (ky kx : Nat) : Bool :=
  ((List.range t.tl).all fun l =>
    let p := l * layStr t.lay + ky * layDil t.lay
    decide (p < t.pt ∨ tileWl t ≤ p + t.pb)) ||
  (List.range t.tp).all fun x =>
    let p := x * layStr t.lay + kx * layDil t.lay
    decide (p < t.pl ∨ tileWp t ≤ p + t.pr)

/-- A tap of an X.CONV is elided (R215). -/
def tapElided (t : Tile) (ky kx : Nat) : Bool :=
  decide (layPadm t.lay = 0) && decide (layPadv t.lay = 0) && tapAllPad t ky kx

/-- Taps of a kernel in the order of R202. -/
def tileTaps (t : Tile) : List (Nat × Nat) :=
  (List.range (layKh t.lay)).flatMap fun ky => (List.range (layKw t.lay)).map fun kx => (ky, kx)

/-- Scratchpad byte offset of byte b of the line that starts at row r; rows wrap (R131). -/
def lineByte (r b : Nat) : Nat := (256 * r + b) % 0x400000

/-- Offset in its line of position x of block ib: 64 channels, or the four stored ones (R196 to R198, mantissas for SB8). -/
def posByte (t : Tile) (x ib : Nat) : Nat :=
  if t.few then 4 * x * t.inB
  else if t.sb8 then x / 32 * ((8 * t.nib + ceilDiv t.nib 4) * 256) + 64 * (x % 32 * t.nib + ib)
  else (x * t.nib + ib) * 64 * t.inB

/-- Offset in its line of the first exponent byte of position x, block ib of an SB8 line of nb blocks (R198). -/
def expByte (nb x ib : Nat) : Nat :=
  x / 32 * ((8 * nb + ceilDiv nb 4) * 256) + 2048 * nb + 2 * (x % 32 * nb + ib)

/-- First row of input line wl. -/
def inLineRow (t : Tile) (wl : Nat) : Nat := (t.inRow + t.ip * wl) % 16384
def outLineRow (t : Tile) (l : Nat) : Nat := (t.outRow + t.opt * l) % 16384

/-- A byte of the core's scratchpad. -/
def State.spByte (s : State) (c off : Nat) : Byte := s.byte (spBase + c * 0x400000 + off)

/-- The 64 input values of a tap for one block: stored channels, or the pad element (R197, R214). -/
def State.tapInput (s : State) (t : Tile) (src : Option (Nat × Nat)) (ib : Nat) : List Int :=
  match src with
  | none => (List.range 64).map fun ch => if t.few && decide (4 ≤ ch) then 0 else layPadv t.lay
  | some (wl, wp) =>
    let r := inLineRow t wl
    (List.range 64).map fun ch =>
      if t.few && decide (4 ≤ ch) then 0
      else
        let b := posByte t wp ib + ch * t.inB
        toSigned (8 * t.inB) (ofBytes ((List.range t.inB).map fun j => s.spByte t.core (lineByte r (b + j))))

/-- Exponents of the two halves of a block in mode 0b11 (R76, R77). -/
def State.tapExp (s : State) (t : Tile) (src : Option (Nat × Nat)) (ib half : Nat) : Nat :=
  match src with
  | none => layAccExp t.lay
  | some (wl, wp) => (s.spByte t.core (lineByte (inLineRow t wl) (expByte t.nib wp ib + half))).toNat % 64

/-- Weight from input i to output o of the tile at row `row` of half h (R201). -/
def State.weight (s : State) (c h row mode i o : Nat) : Int :=
  if mode = 2 then
    let b := (s.byte (wsAddr c h row + 64 * i + o / 2)).toNat
    toSigned 4 (if o % 2 = 0 then b % 16 else b / 16)
  else toSigned 8 (s.byte (wsAddr c h row + 64 * i + o)).toNat

/-- Sum of products over channels [from, from + n). -/
def dotRange (ins : List Int) (w : Nat → Int) (from_ n : Nat) : Int :=
  (List.range n).foldl (fun a i => a + ins.getD (from_ + i) 0 * w (from_ + i)) 0

/-- The terms that one weight tile adds to the accumulator of output o, in order (R74, R76). -/
def tileTerms (mode accExp : Nat) (ins : List Int) (ex : Nat → Nat) (w : Nat → Int) : List Int :=
  match mode with
  | 1 => [256 * dotRange (ins.map fun a => a.fdiv 256) w 0 64, dotRange (ins.map fun a => a.fmod 256) w 0 64]
  | 3 => [rheDyadic (dotRange ins w 0 32) ((ex 0 : Int) - accExp), rheDyadic (dotRange ins w 32 32) ((ex 1 : Int) - accExp)]
  | _ => [dotRange ins w 0 64]

/-- Width of an accumulator (Table 4.2). -/
def accBits (mode : Nat) : Nat := if mode = 3 then 48 else 32

/-- Output channels of a block (R104). -/
def outChans (mode : Nat) : Nat := if mode = 2 then 128 else 64

/-! ## Requant table (R78) -/

def State.rqWord (s : State) (c h qoff ch i : Nat) : W32 := s.word (wsAddr c h qoff + 8 * ch + 4 * i)
def State.rqBias (s : State) (c h qoff ch : Nat) : Int := (s.rqWord c h qoff ch 0).toInt
def State.rqM (s : State) (c h qoff ch : Nat) : Nat := fld (s.rqWord c h qoff ch 1) 15 0
def State.rqS (s : State) (c h qoff ch : Nat) : Nat := fld (s.rqWord c h qoff ch 1) 21 16

/-- R80 on a block of 32 accumulators with their M and S: exponent, mantissas, flags. p / 2^(S + k) with E = OUT_EXP + k. -/
def sb8Block (outExp : Nat) (relu : Bool) (as : List (Int × Nat × Nat)) : Nat × List Int × AFlags :=
  let ps := as.map fun a =>
    let p := a.1 * (a.2.1 : Int)
    (if relu then max p 0 else p, a.2.2)
  let sMin := ps.foldl (fun m p => min m p.2) 63
  let E0 := outExp - min sMin outExp
  let q := fun (E : Nat) (p : Int × Nat) => rheDyadic p.1 ((outExp : Int) - E - p.2)
  let E := searchExp (fun E => ps.all fun p => decide (-128 ≤ q E p ∧ q E p ≤ 127)) 64 E0
  let ms := ps.map fun p => satFlag (q E p) (-128) 127 AF.SAT
  (E, ms.map (·.1), ms.foldl (fun f m => f ||| m.2) (flagIf (E == 63) AF.SB8_EXP_MAX))

/-! ## Writing an output position -/

/-- Bytes written at an address; the second answer: the first word in part of which they were not applied. -/
def State.storeMet (s : State) (a : Nat) (bs : List Byte) : State × Option Nat :=
  let r := s.store a (bs.map some)
  (r.1, if r.2 then (r.1.ueWords a bs.length).head? else none)

/-- Bytes written at an offset of the core's scratchpad, wrapping at its end. -/
def State.spStore (s : State) (c off : Nat) (bs : List Byte) : State × Option Nat :=
  let o := off % 0x400000
  let n := 0x400000 - o
  let r := s.storeMet (spBase + c * 0x400000 + o) (bs.take n)
  if bs.length ≤ n then r
  else
    let r' := r.1.storeMet (spBase + c * 0x400000) (bs.drop n)
    (r'.1, r.2 <|> r'.2)

/-- Output elements of one position and one block of 64 channels, channel 64 ob' on, with M and S of each: the store (offset in
the line, bytes) list and the flags. `nb` blocks per position. -/
def outBlock (t : Tile) (nb x blk : Nat) (as : List (Int × Nat × Nat)) : List (Nat × List Byte) × AFlags :=
  let mode := layMode t.lay
  let rq := fun (n : Nat) =>
    let r := as.map fun a => tableRq a.1 a.2.1 a.2.2 (n - 1) (layLo t.lay) (layHi t.lay)
    ([((x * nb + blk) * 64 * n, r.flatMap fun y => leBytes n (wrapTo (8 * n) y.1))], r.foldl (fun f y => f ||| y.2) (0 : AFlags))
  match layOfmt t.lay with
  | 0 => rq 1
  | 1 => rq 2
  | 2 =>
    let a := sb8Block (layOutExp t.lay) (layRelu t.lay) (as.take 32)
    let b := sb8Block (layOutExp t.lay) (layRelu t.lay) (as.drop 32)
    let m := x / 32 * ((8 * nb + ceilDiv nb 4) * 256) + 64 * (x % 32 * nb + blk)
    ([(m, (a.2.1 ++ b.2.1).map fun y => BitVec.ofNat 8 (wrapTo 8 y)), (expByte nb x blk, [BitVec.ofNat 8 a.1, BitVec.ofNat 8 b.1])],
     a.2.2 ||| b.2.2)
  | 3 => ([((x * nb + blk) * 256, as.flatMap fun a => leBytes 4 (wrapTo 32 a.1))], 0)
  | _ =>
    let e : Int := if mode = 3 then (layAccExp t.lay : Int) - 32 else 0
    ([((x * nb + blk) * 256, as.flatMap fun a => leBytes 4 (packInt a.1 e false).1.toNat)], 0)

/-- The position is inside VAL (R131). -/
def tileValid (t : Tile) (l x : Nat) : Bool := (decide (t.vl = 0) || decide (l < t.vl)) && (decide (t.vp = 0) || decide (x < t.vp))

/-- Place of an accumulator of line l, position x, channel index ch. -/
def accPlace (l x ch : Nat) : Nat := 128 * (1024 * l + x) + ch

/-- What runs through an X.CONV: the device, flags met, the first uncorrectable word that was written in part, accumulators kept. -/
structure ConvRun where
  s : State
  flags : AFlags := 0
  bad : Option Nat := none
  kept : SMap W48 := []

/-- Starting value of an accumulator: bias, or under ACCIN the kept value, free where the kept tile has no such place (R132). -/
def State.accStart (s : State) (t : Tile) (h qoff : Nat) (accin : Bool) (ob l x ch : Nat) : Int :=
  if accin then
    let v := match (if ob = 0 then SMap.find (s.core t.core).acc (accPlace l x ch) else none) with
      | some v => v.toInt
      | none => Config.accLeft s.free (accPlace l x (ob * 128 + ch))
    wrapSigned (accBits (layMode t.lay)) v
  else s.rqBias t.core h qoff (ob * outChans (layMode t.lay) + ch)

/-- Terms added one after another into an accumulator (R74). -/
def addTerms (n : Nat) (a : Int × AFlags) (ts : List Int) : Int × AFlags :=
  ts.foldl (fun a x =>
    let r := accAdd n a.1 x
    (r.1, a.2 ||| r.2)) a

/-- Accumulators of output block `ob` at line l, position x, all taps of the tile added (R202). -/
def State.convPos (s : State) (t : Tile) (h woff qoff : Nat) (accin : Bool) (ob l x : Nat) : List (Int × AFlags) :=
  let mode := layMode t.lay
  let start := (List.range (outChans mode)).map fun ch => (s.accStart t h qoff accin ob l x ch, (0 : AFlags))
  (tileTaps t).foldl (fun accs tap =>
    if tapElided t tap.1 tap.2 then accs
    else
      let src := tapAt t l x tap.1 tap.2
      (List.range t.nib).foldl (fun accs ib =>
        let row := woff + 16 * (((ob * layKh t.lay + tap.1) * layKw t.lay + tap.2) * t.nib + ib)
        let ins := s.tapInput t src ib
        let ex := s.tapExp t src ib
        accs.zipIdx.map fun a => addTerms (accBits mode) a.1
          (tileTerms mode (layAccExp t.lay) ins ex fun i => s.weight t.core h row mode i a.2)) accs) start

/-- One output position of a block finished: kept under ACCOUT, else requantised and, inside VAL, written. -/
def convStore (t : Tile) (h qoff nob : Nat) (accout : Bool) (ob l x : Nat) (src : State) (r : ConvRun) (as : List (Int × AFlags)) : ConvRun :=
  let mode := layMode t.lay
  let fl := as.foldl (fun f a => f ||| a.2) r.flags
  if accout then
    { r with flags := fl, kept := as.zipIdx.foldl (fun m a => SMap.put m (accPlace l x a.2) (BitVec.ofInt 48 a.1.1)) r.kept }
  else
    let per := outChans mode / 64
    let nb := nob * per
    (List.range per).foldl (fun r b =>
      let blk := ob * per + b
      let part := (List.range 64).map fun i =>
        ((as.getD (64 * b + i) (0, 0)).1, src.rqM t.core h qoff (64 * blk + i), src.rqS t.core h qoff (64 * blk + i))
      let o := outBlock t nb x blk part
      let r := { r with flags := r.flags ||| o.2 }
      if tileValid t l x then
        o.1.foldl (fun r w =>
          let y := r.s.spStore t.core (lineByte (outLineRow t l) w.1) w.2
          { r with s := y.1, bad := r.bad <|> y.2 }) r
      else r) { r with flags := fl }

/-- The whole X.CONV: output blocks one after another, each from the scratchpad as the blocks before left it. -/
def State.convRun (s : State) (t : Tile) (h woff qoff nob : Nat) (accin accout : Bool) : ConvRun :=
  (List.range nob).foldl (fun r ob =>
    let src := r.s
    (List.range t.tl).foldl (fun r l =>
      (List.range t.tp).foldl (fun r x =>
        convStore t h qoff nob accout ob l x src r (src.convPos t h woff qoff accin ob l x)) r) r) { s := s }

/-! ## Uncorrectable words in what a tile reads -/

/-- Rows of the scratchpad that the window of a tile reads (R163): for each tap and output that reads an element, the rows of
its bytes. `taps` are those not elided. -/
def tileReads (t : Tile) (taps : List (Nat × Nat)) (row : Nat) : Bool :=
  let nb := if t.few then 4 * t.inB else 64 * t.inB
  taps.any fun tap => (List.range t.tl).any fun l => (List.range t.tp).any fun x =>
    match tapAt t l x tap.1 tap.2 with
    | none => false
    | some (wl, wp) => (List.range t.nib).any fun ib =>
      let at_ := fun b => decide (lineByte (inLineRow t wl) b / 256 = row)
      at_ (posByte t wp ib) || at_ (posByte t wp ib + nb - 1) ||
      (t.sb8 && (at_ (expByte t.nib wp ib) || at_ (expByte t.nib wp ib + 1)))

/-- An uncorrectable word, if any, in the rows a tile reads. -/
def State.tileUe (s : State) (t : Tile) (taps : List (Nat × Nat)) : Option Nat :=
  (s.ueWords (spBase + t.core * 0x400000) 0x400000).find? fun w => tileReads t taps ((4 * w - spBase) % 0x400000 / 256)

/-- An uncorrectable word, if any, in a range of rows of a weight-store half. -/
def State.wsUe (s : State) (c h row bytes : Nat) : Option Nat := (s.ueWords (wsAddr c h row) bytes).head?

/-- First rows of the runs of weight tiles that an X.CONV loads, in order (R201, R202), `nib` tiles each. -/
def weightRows (t : Tile) (woff nob : Nat) : List Nat :=
  (List.range nob).flatMap fun ob => (tileTaps t).filterMap fun tap =>
    if tapElided t tap.1 tap.2 then none else some (woff + 16 * (((ob * layKh t.lay + tap.1) * layKw t.lay + tap.2) * t.nib))

/-- An uncorrectable word in the weight tiles that an X.CONV loads. -/
def State.weightUe (s : State) (t : Tile) (h woff nob : Nat) : Option Nat :=
  (weightRows t woff nob).findSome? fun row => s.wsUe t.core h row (4096 * t.nib)

/-- Single-bit errors in the weight tiles that an X.CONV loads are corrected (R165, R176). -/
def State.weightCe (s : State) (t : Tile) (h woff nob : Nat) : State :=
  (weightRows t woff nob).foldl (fun s row => s.correct (wsAddr t.core h row) (4096 * t.nib)) s

/-- Weight tiles pass through the array (R103): each load fills the shadow registers, which become the working ones between two steps. A step
uses one tile alone, so what stays is the last tile in both. -/
def State.tilesPassed (s : State) (t : Tile) (h woff nob : Nat) : State :=
  match (weightRows t woff nob).getLast? with
  | some row =>
    let w := s.bytes (wsAddr t.core h (row + 16 * (t.nib - 1))) 4096
    s.modCore t.core fun k => { k with work := w, shadow := w }
  | none => s

/-- Words of n entries of the requant table that are read: the biases, or each M with its S (R78). -/
def rqRead (bias scale : Bool) (base n : Nat) : List Nat :=
  (List.range (2 * n)).filterMap fun i => if (i % 2 = 0 ∧ bias) ∨ (i % 2 = 1 ∧ scale) then some (base + 4 * i) else none

/-- An uncorrectable word, if any, among some words. -/
def State.wordsUe (s : State) (ws : List Nat) : Option Nat := ws.findSome? fun a => (s.ueWords a 4).head?

/-- Single-bit errors in some words are corrected. -/
def State.wordsCe (s : State) (ws : List Nat) : State := ws.foldl (fun s a => s.correct a 4) s

/-! ## Pooling (R134, R216, R220) -/

/-- Value of channel ch of block ib for a tap: an INT8 or INT16 element, or the pad element. -/
def State.poolInput (s : State) (t : Tile) (src : Option (Nat × Nat)) (ib ch : Nat) : Int :=
  match src with
  | none => layPadv t.lay
  | some (wl, wp) =>
    let b := (wp * t.nib + ib) * 64 * t.inB + ch * t.inB
    toSigned (8 * t.inB) (ofBytes ((List.range t.inB).map fun j => s.spByte t.core (lineByte (inLineRow t wl) (b + j))))

/-- One output element of a pool: value and flags. -/
def State.poolOut (s : State) (t : Tile) (h qoff : Nat) (avg : Bool) (l x ib ch : Nat) : Int × AFlags :=
  let vs := (tileTaps t).map fun tap => s.poolInput t (tapAt t l x tap.1 tap.2) ib ch
  if avg then
    tableRq (vs.foldl (· + ·) 0) (s.rqM t.core h qoff (64 * ib + ch)) (s.rqS t.core h qoff (64 * ib + ch)) (layOfmt t.lay)
      (layLo t.lay) (layHi t.lay)
  else (sat (vs.foldl max (vs.headD (layPadv t.lay))) (layLo t.lay) (layHi t.lay), 0)

/-- The whole X.POOL. -/
def State.poolRun (s : State) (t : Tile) (h qoff : Nat) (avg : Bool) : ConvRun :=
  (List.range t.tl).foldl (fun r l => (List.range t.tp).foldl (fun r x => (List.range t.nib).foldl (fun r ib =>
    let os := (List.range 64).map fun ch => s.poolOut t h qoff avg l x ib ch
    let r := { r with flags := os.foldl (fun f o => f ||| o.2) r.flags }
    if tileValid t l x then
      let n := if layOfmt t.lay = 1 then 2 else 1
      let y := r.s.spStore t.core (lineByte (outLineRow t l) ((x * t.nib + ib) * 64 * n)) (os.flatMap fun o => leBytes n (wrapTo (8 * n) o.1))
      { r with s := y.1, bad := r.bad <|> y.2 }
    else r) r) r) { s := s }

end Sys2Proof.Machine
end

