-- ==== Sys2Proof/Machine/LoadCheck.lean ====
section
/-! DEFINITION. Instruction memory: writes with what they do to the load checks (R100, R114), and the load check itself (R110,
R113, R115 to R118, R123, R124, R306). -/
namespace Sys2Proof.Machine

/-! ## Writes -/

/-- LSTATE of directory entry e of bank b set. -/
def Core.setLstate (k : Core) (b : Bool) (e st : Nat) : Core := k.setIword b (2 * e + 1) (setFld (k.dirHi b e) 30 29 st)

/-- The USED entries of bank b whose extent holds command word w go to unchecked (R114). -/
def Core.uncheck (k : Core) (b : Bool) (w : Nat) : Core :=
  (List.range 16).foldl (fun k e =>
    let hi := k.dirHi b e
    let h := dirHdr (k.dirLo b e)
    if dirUsed hi ∧ h ≤ w ∧ w < h + dirLen hi then k.setLstate b e 0 else k) k

/-- One 32-bit word written into a bank of core c, with its effect on the load checks (R114). -/
def State.imemPut (s : State) (c : Nat) (b : Bool) (i : Nat) (v : W32) : State :=
  let loc := EccLoc.imem c (8192 * b.toNat + i)
  let s := { s with ue := s.ue.filter fun e => e ≠ loc, ce := s.ce.filter fun e => e ≠ loc }
  if 32 ≤ i then s.modCore c fun k => (k.setIword b i v).uncheck b (i / 4)
  else if i % 2 = 0 then s.modCore c fun k => (k.setIword b i v).setLstate b (i / 2) 0
  else if dirUsed v then
    { s with free := s.free + 1 }.modCore c fun k =>
      (k.setIword b i (setFld v 28 18 (Config.failWord s.free).toNat)).setLstate b (i / 2) 1
  else s.modCore c fun k => k.setIword b i (setFld v 30 18 0)

/-! ## Fields that an opcode does not use (R110) -/

def sclUse (f : SclF) (immx imm bi aa da b a d : Bool) : SclF :=
  { immx := if immx then f.immx else 0, imm := if imm then f.imm else 0, bi := bi && f.bi, aa := aa && f.aa, da := da && f.da,
    b := if b then f.b else 0, a := if a then f.a else 0, d := if d then f.d else 0 }

def ctlUse (f : CtlF) (imm target tsh qm idx cond bi b a : Bool) : CtlF :=
  { imm := if imm then f.imm else 0, target := if target then f.target else 0, tsh := if tsh then f.tsh else 0,
    qm := if qm then f.qm else 0, idx := if idx then f.idx else 0, cond := if cond then f.cond else 0, bi := bi && f.bi,
    b := if b then f.b else 0, a := if a then f.a else 0 }

def fxUse (f : FxF) (imm img dst len woff half ofs ar race : Bool) : FxF :=
  { f with imm := if imm then f.imm else 0, img := img && f.img, dst := if dst then f.dst else 0, len := if len then f.len else 0,
           woff := if woff then f.woff else 0, half := half && f.half, ofs := if ofs then f.ofs else 0,
           ar := if ar then f.ar else 0, race := if race then f.race else 0 }

/-- VEC fields: `mem` those of VLD and VST, then FMT, REL, N, VC, VB (with SB), VA, VD. -/
def vecUse (f : VecF) (mem fmt rel n vc vb va vd : Bool) : VecF :=
  { xb := if mem then f.xb else 0, xri := if mem then f.xri else 0, xr := if mem then f.xr else 0,
    part := if mem then f.part else 0, rwi := if mem then f.rwi else 0, rw := if mem then f.rw else 0, sb := vb && f.sb,
    fmt := if fmt then f.fmt else 0, rel := if rel then f.rel else 0, n := if n then f.n else 0, vc := if vc then f.vc else 0,
    vb := if vb then f.vb else 0, va := if va then f.va else 0, vd := if vd then f.vd else 0 }

/-- The SLU fields that S.OPEN uses are all; S.CLOSE uses WIN and SYNC. -/
def sluUse (f : SluF) : SluF := { f with t := 0, ten := false, nr := 0, rowi := 0, row := 0 }

/-- Two vector operands. -/
def vec2 (f : VecF) : VecF := vecUse f false false false false false true true true
/-- One vector operand. -/
def vec1 (f : VecF) : VecF := vecUse f false false false false false false true true
/-- A shift: one operand and N. -/
def vecSh (f : VecF) : VecF := vecUse f false false false true false false true true
/-- Three vector operands. -/
def vec3 (f : VecF) : VecF := vecUse f false false false false true true true true

/-- The fields of a command that its opcode uses are kept, the others are 0. A command that uses a field only where another
field selects it uses that field (log entry 27). -/
def usedFields (i : Instr) : Instr :=
  match i with
  | .nop c f => .nop c (sclUse f false false false false false false false false)
  | .movi c f => .movi c (sclUse f f.da true false false true false false true)
  | .mov c f => .mov c (sclUse f false false false true true false true true)
  | .add c f => .add c (sclUse f false true true true true true true true)
  | .sub c f => .sub c (sclUse f false true true true true true true true)
  | .mul c f => .mul c (sclUse f false true true false false true true true)
  | .mada c f => .mada c (sclUse f false true true true true true true true)
  | .andS c f => .andS c (sclUse f false true true false false true true true)
  | .orS c f => .orS c (sclUse f false true true false false true true true)
  | .xorS c f => .xorS c (sclUse f false true true false false true true true)
  | .shl c f => .shl c (sclUse f false true true false false true true true)
  | .shr c f => .shr c (sclUse f false true true false false true true true)
  | .sra c f => .sra c (sclUse f false true true false false true true true)
  | .minS c f => .minS c (sclUse f false true true false false true true true)
  | .maxS c f => .maxS c (sclUse f false true true false false true true true)
  | .slt c f => .slt c (sclUse f false true true false false true true true)
  | .cshr c f => .cshr c (sclUse f false true true false false true true true)
  | .rtime c f => .rtime c (sclUse f false false false false false false false true)
  | .unitId c f => .unitId c (sclUse f false false false false false false false true)
  | .endItem c f => .endItem c (ctlUse f false false false false false false false false false)
  | .br c f => .br c (ctlUse f false true false false false false false false false)
  | .bc c f => .bc c (ctlUse f true true false false false true true true true)
  | .loop c f => .loop c (ctlUse f true true true false true false true false true)
  | .drain c f => .drain c (ctlUse f false false false true false false false false false)
  | .fCopy c f => .fCopy c { f with mc := false }
  | .fWgt c f => .fWgt c (fxUse f false false false true true true true true true)
  | .fRqt c f => .fRqt c (fxUse f true true false true true true false false true)
  | .fImem c f => .fImem c (fxUse f false false true true false false true true true)
  | .fPad c f => .fPad c (fxUse f true false false false false false false false false)
  | .fRarm c f => .fRarm c (fxUse f true false false false false false true true true)
  | .wRarm c f => .wRarm c (fxUse f true false false false false false true true true)
  | .vld c f => .vld c (vecUse f true true false false false false false true)
  | .vst c f => .vst c (vecUse f true true false false false false true false)
  | .vbc c f => .vbc c (vec1 f)
  | .vadd c f => .vadd c (vec2 f)
  | .vsub c f => .vsub c (vec2 f)
  | .vadds c f => .vadds c (vec2 f)
  | .vsubs c f => .vsubs c (vec2 f)
  | .vmul c f => .vmul c (vec2 f)
  | .vmin c f => .vmin c (vec2 f)
  | .vmax c f => .vmax c (vec2 f)
  | .vabs c f => .vabs c (vec1 f)
  | .vand c f => .vand c (vec2 f)
  | .vor c f => .vor c (vec2 f)
  | .vxor c f => .vxor c (vec2 f)
  | .vshl c f => .vshl c (vecSh f)
  | .vshra c f => .vshra c (vecSh f)
  | .vshrr c f => .vshrr c (vecSh f)
  | .vcmp c f => .vcmp c (vecUse f false false true false false true true true)
  | .vsel c f => .vsel c (vec3 f)
  | .vrq c f => .vrq c (vecUse f false true false false true true true true)
  | .vsumr c f => .vsumr c (vec1 f)
  | .vmaxr c f => .vmaxr c (vec1 f)
  | .vminr c f => .vminr c (vec1 f)
  | .vmov c f => .vmov c (vec1 f)
  | .vaddf c f => .vaddf c (vec2 f)
  | .vsubf c f => .vsubf c (vec2 f)
  | .vmulf c f => .vmulf c (vec2 f)
  | .vfmaf c f => .vfmaf c (vec3 f)
  | .vminf c f => .vminf c (vec2 f)
  | .vmaxf c f => .vmaxf c (vec2 f)
  | .vrcpf c f => .vrcpf c (vec1 f)
  | .vdivf c f => .vdivf c (vec2 f)
  | .vsqrtf c f => .vsqrtf c (vec1 f)
  | .vrsqf c f => .vrsqf c (vec1 f)
  | .vexpf c f => .vexpf c (vec1 f)
  | .vlogf c f => .vlogf c (vec1 f)
  | .vtanhf c f => .vtanhf c (vec1 f)
  | .vsigf c f => .vsigf c (vec1 f)
  | .vgeluf c f => .vgeluf c (vec1 f)
  | .vsumrf c f => .vsumrf c (vec1 f)
  | .vmaxrf c f => .vmaxrf c (vec1 f)
  | .vminrf c f => .vminrf c (vec1 f)
  | .vcvtif c f => .vcvtif c (vec1 f)
  | .vcvtfi c f => .vcvtfi c (vecUse f false true false true false false true true)
  | .vcvtfb c f => .vcvtfb c (vecSh f)
  | .tWait c f => .tWait c { f with dr := 0 }
  | .tUpd c f => .tUpd c { f with dr := 0 }
  | .sClose c f => .sClose c (sluUse f)
  | i => i

/-! ## Conditions of one command (Table 6.7) -/

/-- The combinations of DA, AA and BI that Table 6.9 allows. -/
def sclKinds (i : Instr) : Bool :=
  match i with
  | .add _ f | .sub _ f => f.da == f.aa
  | .mada _ f => f.da && f.aa && !f.bi
  | .rtime _ f => decide (f.d.toNat ≤ 14)
  | _ => true

/-- An A register index above 7. -/
def aIndexBad (i : Instr) : Bool :=
  let bad := fun (f : SclF) => (f.da && decide (7 < f.d.toNat)) || (f.aa && decide (7 < f.a.toNat))
  match i with
  | .movi _ f | .mov _ f | .add _ f | .sub _ f | .mada _ f => bad f
  | _ => false

/-- Tally offsets a command names. -/
def tallyOffsets (i : Instr) : List Nat :=
  (match syncFieldOf i with
    | some y => (if y.wen then [y.wt.toNat] else []) ++ (if y.sen then [y.st.toNat] else [])
    | none => []) ++
  match i with
  | .tWait _ f | .tUpd _ f | .tRupd _ f => [f.t.toNat]
  | .sOpen _ f => if f.ten then [f.t.toNat] else []
  | _ => []

/-- Conditions of Table 6.7 on one command of a program with header words h; `layer` gives the layer entries. -/
def commandBad (h : List W32) (layer : Nat → W128) (i : Instr) : Bool :=
  decide (usedFields i ≠ i) || !(sclKinds i) || aIndexBad i ||
  (tallyOffsets i).any (fun o => decide (hdrNshared h + hdrNpriv h ≤ o)) ||
  match i with
  | .bc _ f => decide (5 < f.cond.toNat)
  | .xConv _ f =>
    let l := layer f.layer.toNat
    let wide := layMode l = 2
    let cob := f.cob.toNat + 1
    decide (hdrNlayer h ≤ f.layer.toNat) ||
    decide ((if wide then 512 else 1024) < 32 * (f.tw.toNat + 1) * (f.tl.toNat + 1)) ||
    decide (262144 < f.woff.toNat * 256 + layKh l * layKw l * (f.cib.toNat + 1) * cob * 4096) ||
    decide (262144 < f.qoff.toNat * 256 + cob * (if wide then 1024 else 512)) ||
    (f.accout && decide (1 < cob)) || decide (1 < f.ich.toNat) ||
    decide (f.ich = 1 ∧ (f.cib ≠ 0 ∨ layMode l = 3))
  | .xPool _ f =>
    let l := layer f.layer.toNat
    decide (hdrNlayer h ≤ f.layer.toNat) || decide (1024 < 32 * (f.tw.toNat + 1) * (f.tl.toNat + 1)) ||
    decide (1 < layOfmt l) || (!f.func && decide (layOfmt l ≠ layIfmt l)) ||
    (f.func && decide (262144 < f.qoff.toNat * 256 + (f.cb.toNat + 1) * 512))
  | .fHop _ f => decide (2 < f.buf.toNat ∨ hdrRole h f.buf.toNat ≠ 4)
  | .fRqt _ f => decide (hdrImgLen h f.img.toNat < f.imm.toNat + f.len.toNat) || decide (262144 < f.woff.toNat * 256 + 8 * f.len.toNat)
  | .fWgt _ f => decide (1024 < f.woff.toNat + f.len.toNat)
  | .xWlds _ f => decide (1024 < f.woff.toNat + 16 * f.nt.toNat)
  | .fImem _ f => decide (2048 < f.dst.toNat + f.len.toNat)
  | .sOpen _ f => !((BitVec.ofNat 8 (hdrSluice h)).getLsbD f.win.toNat)
  | .tRupd _ f => decide (hdrNshared h ≤ f.t.toNat)
  | .vld _ f | .vst _ f =>
    decide (4 < f.fmt.toNat) || decide (f.fmt = 1 ∧ 1 < f.part.toNat) || decide ((f.fmt = 3 ∨ f.fmt = 4) ∧ f.part ≠ 0)
  | .vrq _ f => decide (1 < f.fmt.toNat)
  | .vcvtfi _ f => !(f.fmt == 0 || f.fmt == 1 || f.fmt == 3)
  | _ => false

/-! ## Conditions of the header and of layer entries -/

/-- The lowest header word 0 to 3 that holds a failing field, for directory program ID pid and length len. FAIL_WORD names 0 to
3 as program words of 16 bytes (R118). -/
def headerBad (h : List W32) (pid len : Nat) : List Nat :=
  let w := fun i => h.getD i 0
  let roles := (List.range 3).map (hdrRole h)
  let w0 := fld (w 0) 31 28 ≠ 1 ∨ fld (w 0) 15 0 ≠ pid ∨ fld (w 0) 27 16 ≠ 0 ∨ bit (w 1) 31 = true ∨ fld (w 1) 15 13 ≠ 0 ∨
    16 < hdrNlayer h ∨ len ≤ 4 + hdrNlayer h ∨ hdrInNum h = 0 ∨ hdrInDen h = 0 ∨ fld (w 3) 31 16 ≠ 0 ∨
    1024 < hdrNshared h + hdrNpriv h
  let w2 := fld (w 8) 31 11 ≠ 0 ∨ (roles.any fun r => decide (4 < r)) = true ∨ 1 < (roles.filter fun r => r = 4).length ∨
    fld (w 10) 31 16 ≠ 0 ∨ w 11 ≠ 0
  let w3 := w 15 ≠ 0
  (if w0 then [0] else []) ++ (if w2 then [2] else []) ++ (if w3 then [3] else [])

/-- PADV lies in the range of format fmt (INT16 for 1, else 8 bits). -/
def padvBad (l : W128) (fmt : Nat) : Bool :=
  let r := fmtRange (if fmt = 1 then 1 else 0)
  decide (layPadv l < r.1 ∨ r.2 < layPadv l)

/-- Conditions of Table 6.7 on a layer entry that X.POOL names (`pool`) or X.CONV names (`conv`). -/
def layerBad (l : W128) (conv pool : Bool) : Bool :=
  decide (fld l 127 86 ≠ 0) || decide (layKh l = 0 ∨ 11 < layKh l ∨ layKw l = 0 ∨ 11 < layKw l) ||
  decide (fld l 19 18 = 3 ∨ layPadm l = 3) || decide (4 < layOfmt l) || decide (layOfmt l = 3 ∧ layMode l = 3) ||
  (decide (layOfmt l ≤ 1) &&
    decide (layLo l < (fmtRange (layOfmt l)).1 ∨ layHi l < layLo l ∨ (fmtRange (layOfmt l)).2 < layHi l)) ||
  ((conv || !pool) && padvBad l (layMode l)) ||
  (pool && (padvBad l (layIfmt l) || decide (1 < layIfmt l)))

/-! ## Structure (R123, R124, R117) -/

/-- Loop bodies of a program: the LOOP word and its TARGET. -/
def loopsOf (cmds : List (Nat × Option Instr)) : List (Nat × Nat) :=
  cmds.filterMap fun x => match x.2 with
    | some (.loop _ f) => some (x.1, f.target.toNat)
    | _ => none

/-- The LOOP word of the innermost body that holds word w. -/
def innermost (ls : List (Nat × Nat)) (w : Nat) : Option Nat := ((ls.filter fun l => l.1 < w ∧ w ≤ l.2).getLast?).map (·.1)

/-- Words that break the rules on branches, loops and END. -/
def structureBad (h : List W32) (len : Nat) (cmds : List (Nat × Option Instr)) : List Nat :=
  let ls := loopsOf cmds
  let at_ := fun w => (cmds.find? fun x => x.1 = w).bind (·.2)
  (match at_ (len - 1) with
    | some (.endItem _ _) => []
    | some (.br _ _) => []
    | _ => [len - 1]) ++
  cmds.filterMap fun x => match x.2 with
    | some (.br _ f) | some (.bc _ f) =>
      if f.target.toNat ≤ x.1 ∨ len ≤ f.target.toNat ∨ innermost ls f.target.toNat ≠ innermost ls x.1 then some x.1 else none
    | some (.loop _ f) =>
      let outer := ls.filter fun l => l.1 < x.1 ∧ x.1 ≤ l.2
      if f.target.toNat ≤ x.1 ∨ len ≤ f.target.toNat ∨ 4 ≤ outer.length ∨ (outer.any fun l => decide (l.2 ≤ f.target.toNat)) then some x.1
      else none
    | some (.endItem _ _) =>
      if hdrNpriv h = 0 then none
      else match at_ (x.1 - 1) with
        | some (.drain _ f) => if f.qm = 7 then none else some x.1
        | _ => some x.1
    | _ => none

/-! ## Requant images -/

/-- An image of the header holds an entry with S above 47 or bits [31:22] set, or a word that reads as uncorrectable (R78, R248). -/
def State.imageBad (s : State) (h : List W32) (x : Nat) : Bool :=
  let a := hdrImgBase h x
  let n := hdrImgLen h x
  !((s.ueWords a (8 * n)).isEmpty) ||
  (List.range n).any fun i =>
    let w := s.word (a + 8 * i + 4)
    decide (47 < fld w 21 16 ∨ fld w 31 22 ≠ 0)

/-! ## The check -/

/-- A condition of the directory entry itself (R113). -/
def Core.dirBad (k : Core) (b : Bool) (e : Nat) : Bool :=
  let lo := k.dirLo b e
  let hi := k.dirHi b e
  let others := (List.range 16).filter fun o => decide (o ≠ e) && dirUsed (k.dirHi b o)
  others.any (fun o => dirPid (k.dirLo b o) == dirPid lo) ||
  decide (dirHdr lo < 8 ∨ 2048 < dirHdr lo + dirLen hi) ||
  others.any (fun o => decide (dirHdr (k.dirLo b o) < dirHdr lo + dirLen hi ∧ dirHdr lo < dirHdr (k.dirLo b o) + dirLen (k.dirHi b o))) ||
  decide (dirLen hi < 5 ∨ 2040 < dirLen hi) || decide (fld hi 17 11 ≠ 0) || decide (fld lo 31 27 ≠ 0)

/-- The first word of the requant images that reads as uncorrectable, or, where read link ECC finds an error that it cannot correct, the
first of the first image read (R248). -/
def State.imageUe (s : State) (h : List W32) (linkEcc : Bool) : Option Nat :=
  [0, 1].findSome? fun x =>
    let a := hdrImgBase h x
    let n := 8 * hdrImgLen h x
    if linkEcc ∧ 0 < n ∧ a < lpddrEnd ∧ s.rdB Pg.MEM Off.MEM.MEM_CFG 27 then some (a / 4) else (s.ueWords a n).head?

/-- What the load check of entry e of bank b of core c finds: the failing word (R118), none where the program passes. RSV bits of a layer entry
and a reserved COND code of BC fail it too, as R110 wants them 0 or listed (log entry 69). -/
def State.loadCheck (s : State) (c : Fin 32) (b : Bool) (e : Nat) : Option Nat :=
  let k := s.core c
  let lo := k.dirLo b e
  let hi := k.dirHi b e
  if k.dirBad b e then some 0x7FF
  else
    let base := dirHdr lo
    let h := k.header b base
    let len := dirLen hi
    let layer := fun i => k.cword b (base + 4 + i)
    let first := 4 + hdrNlayer h
    let cmds := (List.range (len - first)).map fun i => (first + i, decodeWord c (k.cword b (base + first + i)))
    let convs := cmds.filterMap fun x => match x.2 with
      | some (.xConv _ f) => some f.layer.toNat
      | _ => none
    let pools := cmds.filterMap fun x => match x.2 with
      | some (.xPool _ f) => some f.layer.toNat
      | _ => none
    let bad := headerBad h (dirPid lo) len ++
      (if s.imageBad h 0 || s.imageBad h 1 then [3] else []) ++
      ((List.range (min (hdrNlayer h) (len - 4))).filter fun i => layerBad (layer i) (convs.contains i) (pools.contains i)).map (4 + ·) ++
      (cmds.filterMap fun x => match x.2 with
        | none => some x.1
        | some i => if commandBad h layer i then some x.1 else none) ++
      structureBad h len cmds ++
      s.ue.filterMap fun u => match u with
        | .imem c' i => if c' = c.val ∧ 8192 * b.toNat + 4 * base ≤ i ∧ i < 8192 * b.toNat + 4 * (base + len) then some ((i - 8192 * b.toNat) / 4 - base) else none
        | _ => none
    bad.min?

/-- The load check of entry e of bank b of core c ends (R118): LSTATE passed, or failed with FAIL_WORD; an image word that reads as
uncorrectable is counted and recorded (R248). -/
def State.checkEnds (s : State) (c : Fin 32) (b : Bool) (e : Nat) (linkEcc : Bool) : State :=
  let k := s.core c
  let ue := if k.dirBad b e then none else s.imageUe (k.header b (dirHdr (k.dirLo b e))) linkEcc
  let found := (s.loadCheck c b e).toList ++ (ue.map fun _ => 3).toList
  let s := match ue with
    | some w => s.ueMet w (s.coreUnit c)
    | none => s
  match found.min? with
  | some w => s.modCore c fun k => (k.setIword b (2 * e + 1) (setFld (k.dirHi b e) 28 18 w)).setLstate b e 3
  | none => s.modCore c fun k => k.setLstate b e 2

/-- LOAD_CHECK_DONE (R118): the check of an entry in LSTATE 0b01 ends with LSTATE passed or failed and FAIL_WORD set. -/
def execLoadCheckDone (core : Fin 32) (bank : Bool) (check : CheckEnd) (s : State) : Out :=
  let hi := (s.core core).dirHi bank check.entry
  .next (if dirUsed hi ∧ dirLstate hi = 1 then s.checkEnds core bank check.entry check.linkEcc else s)

end Sys2Proof.Machine
end

