-- ==== Sys2Proof/Machine/XqOps.lean ====
section
/-! DEFINITION. The execute engine (R98, R104, R131 to R137, R142): what an XQ entry reads and writes, and its effect when it is
carried out. -/
namespace Sys2Proof.Machine

/-- The tile of an X.CONV entry (R131). -/
def convTile (c : Nat) (e : QEntry) (f : XconvF) : Tile :=
  let ed := e.s f.edge.toNat
  let va := e.s f.val.toNat
  let mode := layMode e.layer
  { lay := e.layer, core := c, inRow := e.row f.rb f.ini, outRow := e.row f.rb f.outi, ip := f.ip.toNat, opt := f.opt.toNat,
    tl := f.tl.toNat + 1, tp := 32 * (f.tw.toNat + 1), nib := f.cib.toNat + 1, inB := if mode = 1 then 2 else 1,
    few := f.ich = 1, sb8 := mode = 3 && f.ich != 1, pt := fld ed 31 24, pb := fld ed 23 16, pl := fld ed 15 8, pr := fld ed 7 0,
    vl := fld va 31 16, vp := fld va 15 0 }

/-- The tile of an X.POOL entry (R134). -/
def poolTile (c : Nat) (e : QEntry) (f : XpoolF) : Tile :=
  let ed := e.s f.edge.toNat
  let va := e.s f.val.toNat
  { lay := e.layer, core := c, inRow := e.row f.rb f.ini, outRow := e.row f.rb f.outi, ip := f.ip.toNat, opt := f.opt.toNat,
    tl := f.tl.toNat + 1, tp := 32 * (f.tw.toNat + 1), nib := f.cb.toNat + 1, inB := if layIfmt e.layer = 1 then 2 else 1,
    few := false, sb8 := false, pt := fld ed 31 24, pb := fld ed 23 16, pl := fld ed 15 8, pr := fld ed 7 0,
    vl := fld va 31 16, vp := fld va 15 0 }

/-! ## What an entry reads and writes (R98): rows at their number, vector registers at 20000 + v, the kept accumulators at
30000, the weight store at 40000 -/

/-- Rows of the bytes b0 to b1 of a line. -/
def lineRows (row b0 b1 : Nat) : List Nat := (List.range (b1 / 256 + 1 - b0 / 256)).map fun i => (row + b0 / 256 + i) % 16384

/-- Rows of the window of a tile that are not padding. -/
def tileIn (t : Tile) : List Nat :=
  let n := tileWp t - t.pr - t.pl
  if n = 0 then []
  else
    let x := tileWp t - t.pr - 1
    let e0 := posByte t t.pl 0
    let e1 := max (posByte t x (t.nib - 1) + (if t.few then 4 * t.inB else 64 * t.inB) - 1)
      (if t.sb8 then expByte t.nib x (t.nib - 1) + 1 else 0)
    (List.range (tileWl t - t.pb)).flatMap fun wl => if t.pt ≤ wl then lineRows (inLineRow t wl) e0 e1 else []

/-- Rows that a tile writes; nb blocks per output position. -/
def tileOut (t : Tile) (nb : Nat) : List Nat :=
  let lines := if t.vl = 0 then t.tl else min t.tl t.vl
  let n := if t.vp = 0 then t.tp else min t.tp t.vp
  let last := if layOfmt t.lay = 2 then expByte nb (n - 1) (nb - 1) + 1
    else n * nb * 64 * (if layOfmt t.lay = 0 then 1 else if layOfmt t.lay = 1 then 2 else 4) - 1
  (List.range lines).flatMap fun l => lineRows (outLineRow t l) 0 last

/-- Output blocks of 64 channels of an X.CONV. -/
def convNb (e : QEntry) (f : XconvF) : Nat := (f.cob.toNat + 1) * (outChans (layMode e.layer) / 64)

/-- Resources an XQ entry reads. -/
def xqReads (c : Nat) (e : QEntry) : List Nat :=
  match e.op with
  | .xConv _ f => tileIn (convTile c e f) ++ [40000] ++ (if f.accin then [30000] else [])
  | .xPool _ f => tileIn (poolTile c e f) ++ (if f.func then [40000] else [])
  | .xWlds _ f => (List.range (16 * f.nt.toNat)).map fun i => (e.row f.rb f.rowi + i) % 16384
  | .vld _ f => vecRows e f
  | i => (vecReads i).map (20000 + ·)

/-- Resources an XQ entry writes. -/
def xqWrites (c : Nat) (e : QEntry) : List Nat :=
  match e.op with
  | .xConv _ f => 30000 :: if f.accout then [] else tileOut (convTile c e f) (convNb e f)
  | .xPool _ f => tileOut (poolTile c e f) (f.cb.toNat + 1)
  | .xWlds _ _ => [40000]
  | .xWflip _ => [40000]
  | .vst _ f => vecRows e f
  | i => (vecWrites i).map (20000 + ·)

/-- The unit an XQ entry uses (R110): 0 the array side, 1 the vector side, 2 none (tally entries and markers). -/
def xqUnit (i : Instr) : Nat :=
  match i with
  | .xConv _ _ | .xWlds _ _ | .xWflip _ => 0
  | .xPool _ _ | .vst _ _ => 1
  | i => if (vecWrites i).isEmpty then 2 else 1

def meets (a b : List Nat) : Bool := a.any fun x => b.contains x

/-- Entry e may start while p, placed before it, is in progress (R98): one on the array side, the other on the vector side. -/
def xqOverlap (c : Nat) (p e : QEntry) : Bool :=
  decide (xqUnit p.op ≠ xqUnit e.op ∧ xqUnit p.op < 2 ∧ xqUnit e.op < 2) && !(meets (xqWrites c p) (xqReads c e ++ xqWrites c e))

/-! ## Effects -/

/-- An entry's own outcome fails its item with ECC_UNCORR at word w (R166, R374): the entry makes no tally update. -/
def State.entryEcc (s : State) (c : Nat) (q : Queue) (e : QEntry) (w : Nat) : State :=
  (s.modCore c fun k => k.modEntry q e.key fun e => { e with pend := [], noUpd := true }).eccFail c e.item w

/-- A write of the entry would have covered an uncorrectable word in part (R166, R248). -/
def State.entryPart (s : State) (c : Nat) (q : Queue) (e : QEntry) (a n : Nat) : State :=
  s.entryEcc c q e ((s.ueWords a n).headD (a / 4))

/-- Correctable words in the rows a tile reads are corrected. -/
def State.correctTile (s : State) (t : Tile) (taps : List (Nat × Nat)) : State :=
  (s.ceWords (spBase + t.core * 0x400000) 0x400000).foldl (fun s w =>
    if tileReads t taps ((4 * w - spBase) % 0x400000 / 256) then s.correct (4 * w) 4 else s) s

/-- Array steps of an X.CONV (R217). -/
def convSteps (t : Tile) (nob : Nat) : Nat :=
  t.tp * t.tl * ((tileTaps t).filter fun p => !(tapElided t p.1 p.2)).length * t.nib * nob * (if layMode t.lay = 1 then 2 else 1)

/-- STEP_CNT raised. -/
def State.addSteps (s : State) (c n : Nat) : State :=
  let p := Pg.CORE c
  let v := (s.rd p Off.CORE.STEP_CNT_HI).toNat * 2 ^ 32 + (s.rd p Off.CORE.STEP_CNT_LO).toNat + n
  (s.wr p Off.CORE.STEP_CNT_LO (BitVec.ofNat 32 v)).wr p Off.CORE.STEP_CNT_HI (BitVec.ofNat 32 (v / 2 ^ 32))

/-- X.CONV carried out (R131, R132, R202). -/
def State.doConv (s : State) (c : Nat) (e : QEntry) (f : XconvF) : State :=
  let t := convTile c e f
  let k := s.core c
  let h := k.half.toNat
  let nob := f.cob.toNat + 1
  let taps := (tileTaps t).filter fun p => !(tapElided t p.1 p.2)
  let accin := f.accin && k.kept
  let accUe := accin && s.ue.any fun x => match x with
    | .acc c' _ => c' == c
    | _ => false
  if accUe then
    let s := { s with ue := s.ue.filter fun x => match x with
        | .acc c' _ => c' != c
        | _ => true }
    (((s.modCore c Core.dropAcc).modCore c fun k => k.modEntry .xq e.key fun e => { e with noUpd := true }).raise (Pg.CORE c) 1 ST.ECC_UNCORR
      (s.coreUnit c) 0).failItem c e.item ST.ECC_UNCORR 0
  else
    let table := rqRead (!accin) (!f.accout && decide (layOfmt e.layer < 3)) (wsAddr c h f.qoff.toNat) (nob * outChans (layMode e.layer))
    match s.tileUe t taps <|> s.weightUe t h f.woff.toNat nob <|> s.wordsUe table with
    | some w => (s.modCore c Core.dropAcc).entryEcc c .xq e w
    | none =>
      let s := ((s.correctTile t taps).weightCe t h f.woff.toNat nob).wordsCe table
      let r := s.convRun t h f.woff.toNat f.qoff.toNat nob accin f.accout
      let s' := (r.s.setAFlags c r.flags).addSteps c (convSteps t nob)
      let s' := { s' with free := s'.free + accin.toNat }
      let s' := (s'.modCore c fun k => { k with acc := r.kept, kept := f.accout }).tilesPassed t h f.woff.toNat nob
      match r.bad with
      | some w => s'.entryEcc c .xq e w
      | none => s'

/-- X.POOL carried out (R134). -/
def State.doPool (s : State) (c : Nat) (e : QEntry) (f : XpoolF) : State :=
  let t := poolTile c e f
  let h := (s.core c).half.toNat
  let taps := tileTaps t
  let table := rqRead false f.func (wsAddr c h f.qoff.toNat) (64 * (f.cb.toNat + 1))
  match s.tileUe t taps <|> s.wordsUe table with
  | some w => s.entryEcc c .xq e w
  | none =>
    let s := (s.correctTile t taps).wordsCe table
    let r := s.poolRun t h f.qoff.toNat f.func
    let s' := r.s.setAFlags c r.flags
    match r.bad with
    | some w => s'.entryEcc c .xq e w
    | none => s'

/-- Transposition of a 64 x 64 byte tile (R133). -/
def transpose64 (b : List Byte) : List Byte := (List.range 4096).map fun n => b.getD (64 * (n % 64) + n / 64) 0

/-- X.WLDS carried out (R133): one tile of 16 rows after the other. -/
def State.doWlds (s : State) (c : Nat) (e : QEntry) (f : XwldsF) : State :=
  let rows := (List.range (16 * f.nt.toNat)).map fun i => (e.row f.rb f.rowi + i) % 16384
  match rows.findSome? fun r => (s.ueWords (rowAddr c r) 256).head? with
  | some w => s.entryEcc c .xq e w
  | none =>
    let s := rows.foldl (fun s r => s.correct (rowAddr c r) 256) s
    (List.range f.nt.toNat).foldl (fun s' i =>
      let b := (List.range 16).flatMap fun j => s.bytes (rowAddr c ((e.row f.rb f.rowi + 16 * i + j) % 16384)) 256
      (s'.store (wsAddr c f.half.toNat (f.woff.toNat + 16 * i)) ((if f.trans then transpose64 b else b).map some)).1) s

/-- VLD carried out (R136). -/
def State.doVld (s : State) (c : Nat) (e : QEntry) (f : VecF) : State :=
  let rows := vecRows e f
  match rows.findSome? fun r => (s.ueWords (rowAddr c r) 256).head? with
  | some w => s.entryEcc c .xq e w
  | none =>
    let s := rows.foldl (fun s r => s.correct (rowAddr c r) 256) s
    s.setVec c f.vd.toNat (loadLanes f (s.bytes (rowAddr c (e.row f.rw f.rwi)) 256) (s.bytes (rowAddr c (e.row f.xr f.xri)) 256))

/-- VST carried out (R136). -/
def State.doVst (s : State) (c : Nat) (e : QEntry) (f : VecF) : State :=
  let ls := (s.core c).vec f.va.toNat
  let d := storeLanes f ls
  let a := s.rowPut c (e.row f.rw f.rwi) (vecPart f).1 d.1
  let b := if f.fmt = 2 then
      a.1.rowPut c (e.row f.xr f.xri) f.xb.toNat [BitVec.ofNat 8 (fld (ls.getD 0 0) 13 8), BitVec.ofNat 8 (fld (ls.getD 32 0) 13 8)]
    else (a.1, false)
  let s' := b.1.setAFlags c d.2
  if a.2 then s'.entryPart c .xq e (rowAddr c (e.row f.rw f.rwi) + (vecPart f).1) d.1.length
  else if b.2 then s'.entryPart c .xq e (rowAddr c (e.row f.xr f.xri) + f.xb.toNat) 2
  else s'

/-- An uncorrectable lane among the vector registers an entry reads. -/
def State.vregBad (s : State) (c : Nat) (i : Instr) : Bool :=
  s.ue.any fun x => match x with
    | .vreg c' n => c' == c && (vecReads i).contains (n / 64)
    | _ => false

/-- The effect of an XQ entry (R142). -/
def State.doXq (s : State) (c : Nat) (e : QEntry) : State :=
  if s.vregBad c e.op then s.coreOut c OC.ECC_CORE
  else match e.op with
    | .xConv _ f => s.doConv c e f
    | .xPool _ f => s.doPool c e f
    | .xWlds _ f => s.doWlds c e f
    | .vld _ f => s.doVld c e f
    | .vst _ f => s.doVst c e f
    | _ => match vecResult (s.core c) e with
      | some (d, ls, fl) => (s.setVec c d ls).setAFlags c fl
      | none => s

end Sys2Proof.Machine
end

