-- ==== Sys2Proof/Machine/Transfer.lean ====
section
/-! DEFINITION. Transfers of the fetch and writeback engines (R126 to R130, R138, R139, R376): their lines and rows, what refuses
them (R127, R129, R180, R182), the gates their rows wait at (Table 9.3), and the data one granted row moves. -/
namespace Sys2Proof.Machine

/-! ## Geometry -/

/-- Lines of a transfer: NL, bytes per line, valid bytes and lines, memory-side pitch in bytes, rows per line, memory-side base, first
scratchpad row. -/
structure Geo where
  nl : Nat
  lb : Nat
  vb : Nat
  vl : Nat
  mp : Nat
  rp : Nat
  base : W48
  row : Nat
deriving DecidableEq, Repr

/-- COPY format (R126); bits [3:0] of the base are ignored. -/
def copyGeo (e : QEntry) (f : CopyF) : Geo :=
  { nl := f.nl.toNat, lb := 16 * f.lb.toNat, vb := (e.s f.vb.toNat).toNat, vl := (e.s f.vl.toNat).toNat, mp := 16 * f.mp.toNat,
    rp := f.rp.toNat, base := (e.addr f.ar f.ofs) &&& 0xFFFFFFFFFFF0, row := e.row f.row f.rowi }

/-- GLZ format (R139). -/
def glzGeo (e : QEntry) (f : GlzF) : Geo :=
  { nl := f.nl.toNat, lb := 16 * f.lb.toNat, vb := (e.s f.vb.toNat).toNat, vl := (e.s f.vl.toNat).toNat, mp := 0,
    rp := f.rp.toNat, base := 0, row := e.row f.row f.rowi }

/-- Valid lines, and valid bytes of each (R126). -/
def Geo.lines (g : Geo) : Nat := min g.vl g.nl
def Geo.bytes (g : Geo) : Nat := min g.vb g.lb
/-- Bytes from the first to the last that the transfer reads or writes on the memory side, 0 where there is none (R376). -/
def Geo.len (g : Geo) : Nat := if g.lines = 0 ∨ g.bytes = 0 then 0 else g.mp * (g.lines - 1) + g.bytes
/-- Bytes moved. -/
def Geo.total (g : Geo) : Nat := g.lines * g.bytes
/-- Scratchpad rows of a line. -/
def Geo.lineRows (g : Geo) : Nat := ceilDiv g.lb 256
def Geo.rowOf (g : Geo) (k j : Nat) : Nat := (g.row + g.rp * k + j) % 16384
/-- Rows of lines and bytes that hold valid data. -/
def Geo.valid (g : Geo) : List (Nat × Nat) :=
  (List.range g.lines).flatMap fun k => (List.range (ceilDiv g.bytes 256)).map fun j => (k, j)
/-- All rows of the transfer. -/
def Geo.rows (g : Geo) : List (Nat × Nat) :=
  (List.range g.nl).flatMap fun k => (List.range g.lineRows).map fun j => (k, j)
/-- Valid bytes in row j of a line. -/
def Geo.inRow (g : Geo) (j : Nat) : Nat := min 256 (g.bytes - 256 * j)
/-- Rows of the receiving core that get at least one byte of a transfer to local address a (R172). -/
def Geo.touched (g : Geo) (core a : Nat) : List Nat :=
  if g.bytes = 0 then []
  else (List.range g.lines).flatMap fun k =>
    let b := a - (spBase + core * 0x400000) + g.mp * k
    (List.range ((b + g.bytes - 1) / 256 + 1 - b / 256)).map (b / 256 + ·)

/-- Lines and rows of an F.HOP (R128): bytes per line, rows per line. -/
def hopBytes (f : HopF) : Nat := (if f.bayer then 8 else 2) * f.nc.toNat
def hopRow (e : QEntry) (f : HopF) (y j : Nat) : Nat := (e.row f.row f.rowi + f.rp.toNat * y + j) % 16384
def hopRows (f : HopF) : List (Nat × Nat) :=
  (List.range f.nl.toNat).flatMap fun y => (List.range (ceilDiv (hopBytes f) 256)).map fun j => (y, j)

/-- Pixel of element i of line y of an F.HOP: frame line and column (R128). -/
def hopPixel (e : QEntry) (f : HopF) (y i : Nat) : Int × Int :=
  let ln := (e.s f.ln.toNat).toInt
  let cl := (e.s f.cl.toNat).toInt
  if f.bayer then (ln + 2 * y + (i % 4 / 2 : Nat), cl + 2 * (i / 4 : Nat) + (i % 2 : Nat)) else (ln + y, cl + i)

/-- Elements in row j of a line. -/
def hopElems (f : HopF) (j : Nat) : List Nat := (List.range (min 128 (hopBytes f / 2 - 128 * j))).map (128 * j + ·)

/-- A pixel lies inside the image of a claim's port. -/
def State.inImage (s : State) (n : Nat) (p : Int × Int) : Bool :=
  decide (0 ≤ p.1 ∧ p.1 < s.imgHeight n ∧ 0 ≤ p.2 ∧ p.2 < s.imgWidth n)

/-- Frame lines inside the image that an F.HOP reads. -/
def State.hopReads (s : State) (e : QEntry) (f : HopF) (n : Nat) : List Nat :=
  let w := f.nc.toNat * (if f.bayer then 2 else 1)
  let cl := (e.s f.cl.toNat).toInt
  let cols := decide (cl < s.imgWidth n ∧ 0 < cl + w)
  if !cols then []
  else ((List.range f.nl.toNat).flatMap fun y => e.hopLines y).filterMap fun (l : Int) =>
    if 0 ≤ l ∧ l < s.imgHeight n then some l.toNat else none

/-- Bytes an FX transfer moves, and its source: memory for F.WGT and F.IMEM, the image for F.RQT (R129, R130). -/
def fxBytes (i : Instr) : Nat :=
  match i with
  | .fWgt _ f => 256 * f.len.toNat
  | .fRqt _ f => 8 * f.len.toNat
  | .fImem _ f => 16 * f.len.toNat
  | _ => 0

def fxSource (it : Item) (e : QEntry) (dev : Nat) : W48 :=
  match e.op with
  | .fWgt _ f | .fImem _ f => e.addr f.ar f.ofs
  | .fRqt _ f => BitVec.ofNat 48 (dev * 2 ^ 39 + (hdrImgBase it.hdr f.img.toNat + 8 * f.imm.toNat))
  | _ => 0

/-! ## Kinds of entry -/

/-- A transfer of the fetch or writeback engine (R97). -/
def isTransfer (i : Instr) : Bool :=
  match i with
  | .fCopy _ _ | .fHop _ _ | .fWgt _ _ | .fRqt _ _ | .fImem _ _ | .wCopy _ _ | .wGlz _ _ => true
  | _ => false

/-- The race a command names and the kinds that allow it (R179). -/
def raceUse (i : Instr) : Option (Nat × List Nat) :=
  match i with
  | .fCopy _ f => some (f.race.toNat, [RK.FETCH])
  | .fWgt _ f | .fRqt _ f | .fImem _ f | .fRarm _ f => some (f.race.toNat, [RK.FETCH])
  | .fHop _ f => some (f.race.toNat, [RK.HOP])
  | .wCopy _ f => some (f.race.toNat, [if f.mc then RK.MCAST else RK.WRITEBACK])
  | .wGlz _ f => some (f.race.toNat, [RK.WRITEBACK])
  | .wRarm _ f => some (f.race.toNat, [RK.WRITEBACK, RK.MCAST])
  | _ => none

/-! ## Destinations of a W.COPY (R138) -/

/-- A destination of a W.COPY: memory or staging of a device, this core's scratchpad, the scratchpad of another core. -/
inductive Dest where
  | memory (dev : Nat) (a : Nat)
  | own (a : Nat)
  | sluice (dev core : Nat) (a : Nat)
  | none
deriving DecidableEq, Repr

/-- The destination at local address a of device dev; a transfer without bytes needs no region. -/
def State.destAt (s : State) (c dev a len : Nat) : Dest :=
  if spBase ≤ a ∧ a < spBase + 32 * 0x400000 then
    if dev = s.devId ∧ (a - spBase) / 0x400000 = c then
      (if len = 0 ∨ s.regionOf a len = some (.scratch c) then .own a else .none)
    else .sluice dev ((a - spBase) / 0x400000) a
  else if len = 0 then .memory dev a
  else if dev = s.devId then
    match s.regionOf a len with
    | some .lpddr => .memory dev a
    | some (.staging _) => .memory dev a
    | _ => .none
  else if a + len ≤ lpddrEnd then .memory dev a else .none

/-- The stripe of an item under a race. -/
def State.stripe (s : State) (r c item : Nat) : Option Stripe := s.stripes.find? fun x => x.race = r ∧ x.core = c ∧ x.item = item

/-- Device of destination i of a W.COPY entry: the member's for MC = 1 (R138). -/
def State.destDev (s : State) (e : QEntry) (f : CopyF) (i : Nat) : Nat :=
  if f.mc then s.memberDev (e.race.getD 0) i else rigDev (copyGeo e f).base

def State.dest (s : State) (c : Nat) (e : QEntry) (f : CopyF) (i : Nat) : Dest :=
  s.destAt c (s.destDev e f i) (rigLocal (copyGeo e f).base) (copyGeo e f).len

/-- Destinations of a W.COPY entry: the members that admitted its stripe, or the one destination as 0. -/
def State.dests (s : State) (c : Nat) (e : QEntry) (f : CopyF) : List Nat :=
  if f.mc then ((s.stripe (e.race.getD 0) c e.item).map (·.dests)).getD [] else [0]

/-! ## Refusals -/

/-- Memory that F.COPY, F.WGT and F.IMEM read (R127, R376): LPDDR5X of any device, host window SRAM of this one, within one region. -/
def State.sourceOk (s : State) (a : W48) (len : Nat) : Bool :=
  if len = 0 then true
  else if rigDev a = s.devId then
    match s.regionOf (rigLocal a) len with
    | some .lpddr => true
    | some (.staging _) => true
    | _ => false
  else decide (rigLocal a + len ≤ lpddrEnd)

/-- The extent of a BOUND lane holds the bytes from a on (R182); a lane that is not BOUND, or PITCH 0, has no extent. -/
def State.inExtent (s : State) (r c : Nat) (a : W48) (len : Nat) : Bool :=
  let l := s.lane r c
  if l.st ≠ .bound ∨ s.racePitch r = 0 ∨ len = 0 then true
  else
    let m := if s.raceKind r = RK.MCAST then 2 ^ 39 else 2 ^ 48
    let lo := l.base.toNat % m
    decide (lo ≤ a.toNat % m ∧ a.toNat % m + len ≤ lo + l.count.toNat * s.racePitch r)

/-- The memory-side range that R182 checks. -/
def entryRange (it : Item) (e : QEntry) (dev : Nat) : W48 × Nat :=
  match e.op with
  | .fCopy _ f | .wCopy _ f => ((copyGeo e f).base, (copyGeo e f).len)
  | .fWgt _ _ | .fImem _ _ => (fxSource it e dev, fxBytes e.op)
  | _ => (0, 0)

/-- A refusal of a command by the rules of its kind (R100, R127, R128, R129, R138, R376). -/
def State.kindRefused (s : State) (c : Nat) (it : Item) (e : QEntry) : Bool :=
  match e.op with
  | .fCopy _ f => !(s.sourceOk (copyGeo e f).base (copyGeo e f).len)
  | .fWgt _ f => f.half == (s.core c).half || !(s.sourceOk (fxSource it e s.devId) (fxBytes e.op))
  | .fRqt _ f => f.half == (s.core c).half
  | .fImem _ _ => (s.core c).swap || s.cfgBusy || !(s.sourceOk (fxSource it e s.devId) (fxBytes e.op))
  | .fHop _ f => match it.claim with
    | some cl => (s.hopReads e f cl.port).any fun l => !(decide (max cl.first cl.rel ≤ l ∧ l ≤ cl.last))
    | none => true
  | .wCopy _ f => if f.mc then (s.members (e.race.getD 0)).all fun i => s.dest c e f i == .none else s.dest c e f 0 == .none
  | _ => false

/-- A refusal of an entry is counted and logged with the core and the queue position (R127). -/
def State.refused (s : State) (c : Nat) (q : Queue) (e : QEntry) (code : Nat) : State :=
  let pos := queueCode q * 32 + ((s.core c).q q).findIdx fun x => x.key = e.key
  (s.bump (Pg.CORE c) Off.CORE.REFUSE_CNT).raise (Pg.CORE c) 4 code (s.coreUnit c) pos

/-- The entry is refused (R127): counted and logged, and complete without its effect. -/
def State.refuseEntry (s : State) (c : Nat) (q : Queue) (e : QEntry) (code : Nat) : State :=
  (s.refused c q e code).modCore c fun k => k.modEntry q e.key fun e => { e with st := .done, refused := true, pend := [] }

/-- A refusal under R180: also counted by the race. -/
def State.refuseRace (s : State) (c : Nat) (q : Queue) (e : QEntry) (r : Nat) : State :=
  let s := (s.bumpRace r Off.RACE.RS_REFUSE_CNT).raise (Pg.RACE r) 0 ST.STATE (s.coreUnit c) r
  s.refuseEntry c q e ST.STATE

/-! ## Gates (Table 9.3) -/

/-- The channel of a local LPDDR5X address (R245). -/
def State.memChanOf (s : State) (a : Nat) : Nat :=
  let f := s.rdF Pg.MEM Off.MEM.MEM_CFG 31 30
  let b := fun hi lo => a / 2 ^ lo % 2 ^ (hi - lo + 1)
  if f = 1 ∨ f = 2 then (if f = 2 then 4 else 0) + ((b 9 8 ^^^ b 13 12) ^^^ b 17 16)
  else (b 10 8 ^^^ b 15 13) ^^^ b 20 18

/-- The gate of memory at an address of a device: none where no route leads there now. -/
def State.memGate (s : State) (dev a : Nat) : Option Gate :=
  if dev ≠ s.devId then (s.egress dev).map fun p => .dl (Fin.ofNat 8 p.1)
  else if a < lpddrEnd then some (.mem (Fin.ofNat 8 (s.memChanOf a)))
  else some .host

/-- Memory-side address of a row of a transfer: device and local address of its first byte. -/
def State.rowMem (s : State) (c : Nat) (it : Item) (e : QEntry) (p : Nat × Nat) : Nat × Nat :=
  match e.op with
  | .fCopy _ f =>
    let g := copyGeo e f
    (rigDev g.base, rigLocal g.base + g.mp * (p.1 % 1024) + 256 * p.2)
  | .wCopy _ f =>
    let g := copyGeo e f
    (s.destDev e f (p.1 / 1024), rigLocal g.base + g.mp * (p.1 % 1024) + 256 * p.2)
  | _ =>
    let a := fxSource it e s.devId
    let _ := c
    (rigDev a, rigLocal a + 256 * p.2)

/-- The gate that a pending row waits at. -/
def State.rowGate (s : State) (c : Nat) (it : Item) (e : QEntry) (p : Nat × Nat) : Option Gate :=
  match e.op with
  | .fHop _ _ => it.claim.map fun cl => .hop (Fin.ofNat 24 cl.port)
  | .wGlz _ f => some (.glz (Fin.ofNat 8 f.glz.toNat))
  | _ =>
    let m := s.rowMem c it e p
    s.memGate m.1 m.2

/-- Rows of an entry that a gate grants. -/
def State.gatedRows (s : State) (c : Nat) (it : Item) (e : QEntry) : List (Nat × Nat) :=
  match e.op with
  | .fCopy _ f => (copyGeo e f).valid
  | .fWgt _ _ | .fRqt _ _ | .fImem _ _ => (List.range (ceilDiv (fxBytes e.op) 256)).map fun j => (0, j)
  | .fHop _ f => match it.claim with
    | some cl => (hopRows f).filter fun p => (hopElems f p.2).any fun i => s.inImage cl.port (hopPixel e f p.1 i)
    | none => []
  | .wCopy _ f => (s.dests c e f).flatMap fun i => match s.dest c e f i with
    | .memory _ _ => (copyGeo e f).valid.map fun p => (1024 * i + p.1, p.2)
    | .sluice dev _ _ => if dev = s.devId then [] else (copyGeo e f).valid.map fun p => (1024 * i + p.1, p.2)
    | _ => []
  | .wGlz _ f => (glzGeo e f).valid
  | _ => []

/-- Number of row r of the scratchpad of a core of a device, over all devices. -/
def rowId (dev c r : Nat) : Nat := (32 * dev + c) * 16384 + r

/-- Scratchpad rows that an entry writes (R97), of every member that has no stripe of it yet too. -/
def State.entryWrites (s : State) (c : Nat) (e : QEntry) : List Nat :=
  match e.op with
  | .fCopy _ f => let g := copyGeo e f; g.rows.map fun p => rowId s.devId c (g.rowOf p.1 p.2)
  | .fHop _ f => (hopRows f).map fun p => rowId s.devId c (hopRow e f p.1 p.2)
  | .wCopy _ f =>
    let g := copyGeo e f
    (if f.mc ∧ e.st ≠ .started then s.members (e.race.getD 0) else s.dests c e f).flatMap fun i => match s.dest c e f i with
      | .own a => (g.touched c a).map (rowId s.devId c)
      | .sluice dev core a => (g.touched core a).map (rowId dev core)
      | _ => []
  | _ => []

/-! ## Data of a row -/

/-- Bytes of a fetched row of an F.COPY: the valid bytes, then the pad pattern (R126). -/
def padRow (pad : W32) (j n : Nat) (data : List Byte) : List Byte :=
  (List.range n).map fun i => if i < data.length then data.getD i 0 else BitVec.ofNat 8 (pad.toNat / 2 ^ (8 * ((256 * j + i) % 4)))

/-- A write of an entry into memory of this device; a part that an uncorrectable word keeps out fails the item. -/
def State.entryStore (s : State) (c : Nat) (q : Queue) (e : QEntry) (a : Nat) (bs : List Byte) : State :=
  let r := s.store a (bs.map some)
  if r.2 then r.1.entryPart c q e a bs.length else r.1

/-- Row (k, j) of an F.COPY with its memory bytes. -/
def State.putCopyRow (s : State) (c : Nat) (e : QEntry) (f : CopyF) (k j : Nat) (data : List Byte) : State :=
  let g := copyGeo e f
  s.entryStore c .fq e (rowAddr c (g.rowOf k j)) (padRow e.pad j (min 256 (g.lb - 256 * j)) data)

/-- Row j of an FX transfer with its memory bytes: weight store or standby bank (R129, R130). -/
def State.putFxRow (s : State) (c : Nat) (e : QEntry) (j : Nat) (data : List Byte) : State :=
  match e.op with
  | .fWgt _ f | .fRqt _ f => s.entryStore c .fq e (wsAddr c f.half.toNat (f.woff.toNat + j)) data
  | .fImem _ f =>
    if (s.core c).swap || s.cfgBusy then s.refuseEntry c .fq e ST.STATE
    else
      let b := !(s.core c).active
      ((words32 data).zipIdx).foldl (fun s w => s.imemPut c b ((4 * f.dst.toNat + 64 * j + w.2) % 8192) w.1) s.prevStale
  | _ => s

/-- A fetched row with its memory bytes. -/
def State.putFetched (s : State) (c : Nat) (e : QEntry) (p : Nat × Nat) (data : List Byte) : State :=
  match e.op with
  | .fCopy _ f => s.putCopyRow c e f p.1 p.2 data
  | _ => s.putFxRow c e p.2 data

/-- Valid bytes that a gated row moves. -/
def moved (e : QEntry) (p : Nat × Nat) : Nat :=
  match e.op with
  | .fCopy _ f | .wCopy _ f => (copyGeo e f).inRow p.2
  | .wGlz _ f => (glzGeo e f).inRow p.2
  | .fHop _ f => min 256 (hopBytes f - 256 * p.2)
  | i => min 256 (fxBytes i - 256 * p.2)

/-- Scratchpad-side bytes of a gated row: of an F.COPY the pad bytes too (R126, R184). -/
def rowBytes (e : QEntry) (p : Nat × Nat) : Nat :=
  match e.op with
  | .fCopy _ f => min 256 ((copyGeo e f).lb - 256 * p.2)
  | _ => moved e p

/-- The header of a read or write for a row of a lane: its urgency and tie keys (R184). -/
def State.rowMsg (s : State) (c : Nat) (it : Item) (r : Nat) (op : MsgOp) (len a n : Nat) : Msg :=
  { op := op, len := BitVec.ofNat 4 len, addr := BitVec.ofNat 39 a, bytes := BitVec.ofNat 9 (n - 1),
    urg := BitVec.ofNat 24 (s.urgency r c), tie := BitVec.ofNat 5 it.tiePort, race := BitVec.ofNat 6 r, core := BitVec.ofNat 5 c }

/-- The words that a read of n bytes of the local map finds uncorrectable: the stored ones, or, where read link ECC is in use and found an
error it cannot correct, the first word (R248; log entry 57). -/
def State.readUe (s : State) (linkEcc : Bool) (a n : Nat) : Option Nat :=
  if linkEcc ∧ a < lpddrEnd ∧ 0 < n ∧ s.rdB Pg.MEM Off.MEM.MEM_CFG 27 then some (a / 4) else (s.ueWords a n).head?

/-- A granted row of an F.COPY, F.WGT, F.RQT or F.IMEM: read here, or asked of another device (Table 15.4). -/
def State.fetchRow (s : State) (c : Nat) (it : Item) (e : QEntry) (p : Nat × Nat) (linkEcc : Bool) : State :=
  let m := s.rowMem c it e p
  let n := moved e p
  if m.1 ≠ s.devId then s.sendStream m.1 (s.rowMsg c it (e.race.getD 0) .rdReq 1 m.2 n) c e.item e.key p
  else match s.readUe linkEcc m.2 n with
    | some w => s.entryEcc c .fq e w
    | none => let s := s.correct m.2 n; s.putFetched c e p (s.bytes m.2 n)

/-- The code of a hopper pixel and its INT16 (R72, R128). -/
def State.hopCode (s : State) (n i slot x : Nat) : Int :=
  let w := s.hopWidth n i
  let a := s.slotAddr n i slot + x * w / 8
  let v := ofBytes (s.bytes a 3) / 2 ^ (x * w % 8) % 2 ^ w
  if v = 2 ^ w - 1 then -1 else v

/-- A pixel of an F.HOP: the hopper's, or the low half of the pad pattern (R128). -/
def State.hopValue (s : State) (cl : Claim) (pad : W32) (p : Int × Int) : Int :=
  if s.inImage cl.port p then
    match ((s.port cl.port).stream cl.stream).held.find? fun l => l.frame = cl.frame ∧ (l.line : Int) = p.1 with
    | some l => s.hopCode cl.port cl.stream l.slot p.2.toNat
    | none => 0
  else (fld pad 15 0 : Nat)

/-- Uncorrectable hopper words under the pixels of a row. -/
def State.hopUe (s : State) (cl : Claim) (e : QEntry) (f : HopF) (y j : Nat) : Option Nat :=
  (hopElems f j).findSome? fun i =>
    let p := hopPixel e f y i
    if s.inImage cl.port p then
      match ((s.port cl.port).stream cl.stream).held.find? fun l => l.frame = cl.frame ∧ (l.line : Int) = p.1 with
      | some l =>
        let w := s.hopWidth cl.port cl.stream
        let a := s.slotAddr cl.port cl.stream l.slot + p.2.toNat * w / 8
        (s.ueWords a ((p.2.toNat * w % 8 + w + 7) / 8)).head?
      | none => none
    else none

/-- Row j of line y of an F.HOP written (R128). -/
def State.putHopRow (s : State) (c : Nat) (cl : Claim) (e : QEntry) (f : HopF) (y j : Nat) : State :=
  s.entryStore c .fq e (rowAddr c (hopRow e f y j))
    ((hopElems f j).flatMap fun i => leBytes 2 (wrapTo 16 (s.hopValue cl e.pad (hopPixel e f y i))))

/-- A granted row of an F.HOP. -/
def State.hopRowDo (s : State) (c : Nat) (it : Item) (e : QEntry) (f : HopF) (p : Nat × Nat) : State :=
  match it.claim with
  | none => s
  | some cl => match s.hopUe cl e f p.1 p.2 with
    | some w => s.entryEcc c .fq e w
    | none => s.putHopRow c cl e f p.1 p.2

/-- A scratchpad row read by the writeback engine: the whole row is read (R163, R166). -/
def State.spRowUe (s : State) (c r : Nat) : Option Nat := (s.ueWords (rowAddr c r) 256).head?

/-- The T.RUPD that adds 1 to a tally of device dev and stands directly behind an entry of the WQ: a fused write and update with the entry's last
row (R287; log entry 30). -/
def Core.pairedAdd (k : Core) (e : QEntry) (dev : Nat) : Option QEntry :=
  match (k.wq.dropWhile fun x => x.key != e.key).drop 1 with
  | a :: _ => match a.upd with
    | some (_, false, v, some d) => if v = 1 ∧ d = dev ∧ a.item = e.item ∧ a.wait.isNone ∧ a.cond.isNone then some a else none
    | _ => none
  | [] => none

/-- The last row of a W.COPY with the add behind it: one WR_TALLY on a path of level 2; else the row alone, the pair counted as a fallback
(R287). -/
def State.sendPair (s : State) (dev : Nat) (m : Msg) (c : Nat) (it : Item) (e a : QEntry) : State :=
  match a.upd with
  | none => s.sendStream dev m c e.item e.key
  | some (o, _, _, _) =>
    if s.pathL2 dev then
      let s := s.modCore c fun k => (k.modEntry .wq a.key fun x => { x with fused := true }).modItem it.key fun it => { it with shared := true }
      s.sendStream dev { m with op := .wrTally, value := BitVec.ofNat 32 (it.tally c o) } c e.item e.key
    else
      let s := match s.egress dev with
        | some (p, _) => s.bump (Pg.DL p) Off.DL.FALLBACK_CNT
        | none => s
      s.sendStream dev m c e.item e.key

/-- A granted row of a W.COPY: written here, or sent (Table 15.4). -/
def State.copyRowDo (s : State) (c : Nat) (it : Item) (e : QEntry) (f : CopyF) (p : Nat × Nat) (last : Bool) : State :=
  let g := copyGeo e f
  let m := s.rowMem c it e p
  let n := moved e p
  let r := g.rowOf (p.1 % 1024) p.2
  match s.spRowUe c r with
  | some w => s.entryEcc c .wq e w
  | none =>
    let s := s.correct (rowAddr c r) 256
    let data := s.bytes (rowAddr c r) n
    if m.1 = s.devId then s.entryStore c .wq e m.2 data
    else
      let op := match s.dest c e f (p.1 / 1024) with
        | .sluice _ _ _ => MsgOp.wrSp
        | _ => MsgOp.wrMem
      let msg := { s.rowMsg c it (e.race.getD 0) op (1 + ceilDiv n 32) m.2 n with
        xfer := BitVec.ofNat 8 e.xfer, data := data, mask := List.replicate n true }
      match if last ∧ !f.mc then (s.core c).pairedAdd e m.1 else none with
      | some a => s.sendPair m.1 msg c it e a
      | none => s.sendStream m.1 msg c e.item e.key

/-- Lines of a W.GLZ as their valid bytes (R139). -/
def State.glzData (s : State) (c : Nat) (g : Geo) : List (List Byte) :=
  (List.range g.lines).map fun k => ((List.range (ceilDiv g.bytes 256)).flatMap fun j => s.bytes (rowAddr c (g.rowOf k j)) 256).take g.bytes

/-- Pixels per line of a W.GLZ (R232). -/
def State.glzPixels (s : State) (e : QEntry) (f : GlzF) : Nat :=
  let x := s.glzCtx f.glz.toNat f.ctx.toNat
  if x.stride = 0 then 0 else (glzGeo e f).bytes / x.stride * x.q

/-- The line a W.GLZ starts at. -/
def glzLine (e : QEntry) (f : GlzF) : Nat := (e.s f.line.toNat).toNat

/-- No other W.GLZ of the core brings pixels to the same band. -/
def Core.lastGlz (k : Core) (e : QEntry) (f : GlzF) : Bool :=
  !(k.wq.any fun o => match o.op with
    | .wGlz _ h => decide (o.key ≠ e.key ∧ o.item = e.item) && o.st == .started && !o.pend.isEmpty && h.glz == f.glz && h.ctx == f.ctx && glzLine o h == glzLine e f
    | _ => false)

/-- The pixels of a W.GLZ pass once its last row is granted (log entry 28). -/
def State.glzPass (s : State) (c : Nat) (e : QEntry) (f : GlzF) : State :=
  s.passGlz f.glz.toNat f.ctx.toNat (glzLine e f) c e.item e.key e.xfer (s.glzPixels e f) (s.glzData c (glzGeo e f)) ((s.core c).lastGlz e f)

/-- A granted row of a W.GLZ. -/
def State.glzRowDo (s : State) (c : Nat) (e : QEntry) (f : GlzF) (p : Nat × Nat) (last : Bool) : State :=
  let r := (glzGeo e f).rowOf p.1 p.2
  match s.spRowUe c r with
  | some w => s.entryEcc c .wq e w
  | none =>
    let s := s.correct (rowAddr c r) 256
    if last then s.glzPass c e f else s

/-- A granted row is moved; `last` tells that no other row of the entry is pending. -/
def State.moveRow (s : State) (c : Nat) (it : Item) (e : QEntry) (p : Nat × Nat) (last linkEcc : Bool) : State :=
  match e.op with
  | .fHop _ f => s.hopRowDo c it e f p
  | .wCopy _ f => s.copyRowDo c it e f p last
  | .wGlz _ f => s.glzRowDo c e f p last
  | _ => s.fetchRow c it e p linkEcc

/-! ## Rows that pass no gate -/

/-- Rows of an F.COPY that hold pad only, of an F.HOP wholly outside the image, and local moves of a W.COPY, made when the entry
completes (log entry 29). -/
def State.freeRows (s : State) (c : Nat) (it : Item) (e : QEntry) : State :=
  match e.op with
  | .fCopy _ f =>
    let g := copyGeo e f
    (g.rows.filter fun p => !(decide (p.1 < g.lines ∧ 256 * p.2 < g.bytes))).foldl (fun s p => s.putCopyRow c e f p.1 p.2 []) s
  | .fHop _ f => match it.claim with
    | some cl => ((hopRows f).filter fun p => !((hopElems f p.2).any fun i => s.inImage cl.port (hopPixel e f p.1 i))).foldl
        (fun s p => s.putHopRow c cl e f p.1 p.2) s
    | none => s
  | .wCopy _ f =>
    let g := copyGeo e f
    (s.dests c e f).foldl (fun s i => match s.dest c e f i with
      | .own a => g.valid.foldl (fun s p => match s.spRowUe c (g.rowOf p.1 p.2) with
          | some w => s.entryEcc c .wq e w
          | none =>
            let s := s.correct (rowAddr c (g.rowOf p.1 p.2)) 256
            s.entryStore c .wq e (a + g.mp * p.1 + 256 * p.2) (s.bytes (rowAddr c (g.rowOf p.1 p.2)) (g.inRow p.2))) s
      | _ => s) s
  | _ => s

end Sys2Proof.Machine
end

