-- ==== Sys2Proof/Machine/SluiceOps.lean ====
section
/-! DEFINITION. Sluice transfers (R168 to R174): the check of an extent against the receiving core's windows, and landing. -/
namespace Sys2Proof.Machine

/-- A window holds a row. -/
def Win.holds (w : Win) (r : Nat) : Bool := decide (r < 16384 ∧ (r + 16384 - w.first) % 16384 < w.rows)

/-- The window that accepts a transfer over some rows: OPEN and holding every one; the lowest OPEN one where there is no row. -/
def Core.windowFor (k : Core) (rows : List Nat) : Option Nat :=
  (List.range 8).find? fun i =>
    let w := k.wins.getD i {}
    w.st == .opened && rows.all w.holds

def Core.modWin (k : Core) (i : Nat) (f : Win → Win) : Core := { k with wins := modNth f k.wins i }

/-- The arrival tally of window i of core c is added 1 (R141, R173). -/
def State.arrive (s : State) (c i : Nat) : State :=
  match ((s.core c).wins.getD i {}).tally with
  | some t => s.tallyDo .arrival t false 1
  | none => s

/-- Rows of a transfer are checked (R172). Accepted: the window counts it, at once where it has no byte. The answer is none where it
is refused, else whether something is still to land. -/
def State.acceptTransfer (s : State) (c : Nat) (rows : List Nat) (src : LandSrc) (bytes : Nat) : State × Option Bool :=
  if !s.coreIn c then (s, none)
  else match (s.core c).windowFor rows with
    | none => (s, none)
    | some i =>
      if rows.isEmpty then (s.arrive c i, some false)
      else (s.modCore c fun k => k.modWin i fun w => { w with landing := w.landing ++ [{ src := src, rows := bytes, err := false }] }, some true)

/-- A transfer has landed (R173): the arrival tally, the acknowledgement to a sender on this device, the completion of a CLOSING
window. `err`: a part was not applied, so the sending item fails with ECC_UNCORR and no tally is added. -/
def State.landed (s : State) (c i : Nat) (l : Landing) (err : Bool) : State :=
  let s := s.modCore c fun k => k.modWin i fun w => { w with landing := w.landing.filter fun x => x.src ≠ l.src }
  let s := if err then s else s.arrive c i
  let s := s.modCore c fun k => k.settleWin i
  match l.src with
  | .here c' key =>
    let s := s.modCore c' fun k => k.modEntry .wq key fun e =>
      { e with acks := e.acks.filter fun a => a ≠ (s.devId, c), noUpd := e.noUpd || err }
    if err then match ((s.core c').wq.find? fun e => e.key = key) with
      | some e => s.failItem c' e.item ST.ECC_UNCORR 0
      | none => s
    else s
  | .remote _ _ _ _ => s

/-- The rows of a transfer of core c' of this device are written into core c's scratchpad; the answer tells whether a part was not
applied or could not be read. -/
def State.landRows (s : State) (c' : Nat) (e : QEntry) (g : Geo) (a : Nat) : State × Bool :=
  g.valid.foldl (fun (r : State × Bool) p =>
    match r.1.spRowUe c' (g.rowOf p.1 p.2) with
    | some w => (r.1.entryEcc c' .wq e w, true)
    | none =>
      let s := r.1.correct (rowAddr c' (g.rowOf p.1 p.2)) 256
      let b := a + g.mp * p.1 + 256 * p.2
      let n := g.inRow p.2
      let w := s.store b ((s.bytes (rowAddr c' (g.rowOf p.1 p.2)) n).map some)
      (if w.2 then w.1.ueMet ((s.ueWords b n).headD (b / 4)) (s.coreUnit c') else w.1, r.2 || w.2)) (s, false)

/-- A transfer of a core of this device lands in window i of core c. -/
def State.landHere (s : State) (c i : Nat) (l : Landing) (c' key : Nat) : State :=
  match (s.core c').wq.find? fun e => e.key = key with
  | none => s
  | some e => match e.op with
    | .wCopy _ f =>
      let g := copyGeo e f
      let r := s.landRows c' e g (rigLocal g.base)
      r.1.landed c i l r.2
    | _ => s

/-- A transfer of a core of this device. -/
def LandSrc.local_ : LandSrc → Option (Nat × Nat)
  | .here c key => some (c, key)
  | .remote _ _ _ _ => none

/-- SLUICE_LANDING (R173): the first transfer that window win of the core accepted from a core of this device lands. One from another
device lands with its last WR_SP. -/
def execSluiceLanding (core : Fin 32) (win : Fin 8) (s : State) : Out :=
  .next (match ((s.core core).wins.getD win {}).landing.findSome? fun l => l.src.local_.map fun x => (l, x) with
    | some (l, c', key) => s.landHere core win l c' key
    | none => s)

end Sys2Proof.Machine
end

