-- ==== Sys2Proof/Machine/QueueEngine.lean ====
section
/-! DEFINITION. The engines (R95 to R98, R122, R129, R130, R142, R168 to R174, R181, R182, R189 to R191, R232 to R237): starting the
head entry of a queue, completing an entry, and retirement. The weir's gates stand in Gates.lean. -/
namespace Sys2Proof.Machine

/-! ## Retirement (R96) -/

/-- What the retirement of an entry does: its transfer is counted, an F.HOP with REL ends its item's claim up to the last line it read
(R39, R128), the tally update takes place. -/
def State.retireEntry (s : State) (c : Nat) (e : QEntry) : State :=
  let s := if isTransfer e.op then s.bump (Pg.CORE c) Off.CORE.XFER_CNT else s
  match (s.core c).item e.item with
  | none => s
  | some it =>
    let s := match e.op, it.claim with
      | .fHop _ f, some cl =>
        if f.rel ∧ !e.refused then
          match (s.hopReads e f cl.port).max? with
          | some l => (s.modCore c fun k => k.modItem it.key fun it => { it with claim := some { cl with rel := max cl.rel (l + 1) } }).retireLines cl.port cl.stream
          | none => s
        else s
      | _, _ => s
    match e.upd with
    | some (o, set, v, d) => if e.noUpd ∨ e.fused then s else s.updTally c it e.key o (d.getD s.devId) set v
    | none => s

/-- Queues that the command the sequencer of core c stands at goes into (Table 6.2). -/
def State.seqQueues (s : State) (c : Nat) : List Queue :=
  match s.seqCommand c with
  | some (.endItem _ _) => [.fq, .xq, .wq]
  | some (.tWait _ f) | some (.tUpd _ f) | some (.tRupd _ f) => (talQueue f.q).toList
  | some _ =>
    let op := (((s.core c).seqWord.getD 0).extractLsb' 0 8).toNat
    if 0x40 ≤ op ∧ op ≤ 0x46 ∨ 0xE8 ≤ op then [.fq]
    else if 0x60 ≤ op ∧ op ≤ 0xB4 then [.xq]
    else if 0xC0 ≤ op ∧ op ≤ 0xC2 then [.wq]
    else []
  | none => []

/-- The first entry leaves a queue; a stall for room in that queue ends (R95). -/
def State.popQueue (s : State) (c : Nat) (q : Queue) (r : List QEntry) : State :=
  let free := (s.seqQueues c).contains q
  s.modCore c fun k => { k.setQ q r with stalled := k.stalled && !free }

/-- Entries retire from the front of a queue while they have completed; END markers retire there (R122). `fuel` is the queue's length. -/
def State.retire (s : State) (c : Nat) (q : Queue) : Nat → State
  | 0 => s
  | fuel + 1 => match (s.core c).q q with
    | [] => s
    | e :: r =>
      if e.marker then
        let s := s.popQueue c q r
        (if q = .xq then s.modCore c Core.dropAcc else s).retire c q fuel
      else if e.st = .done then ((s.popQueue c q r).retireEntry c e).retire c q fuel
      else s

/-- After an entry of a queue has completed: retirement, and the heads that follow are registered. -/
def State.settleQueue (s : State) (c : Nat) (q : Queue) : State := (s.retire c q 33).heads c

/-- An entry has completed. -/
def State.entryDone (s : State) (c : Nat) (q : Queue) (key : Nat) : State :=
  (s.modCore c fun k => k.modEntry q key fun e => { e with st := .done }).settleQueue c q

/-! ## Blocked races (R188) -/

/-- Slots of the message that takes a row to another device (Table 15.4). -/
def rowSlots (e : QEntry) (p : Nat × Nat) : Nat :=
  match e.op with
  | .wCopy _ _ => 1 + ceilDiv (moved e p) 32
  | _ => 1

/-- A pending row cannot be accepted now: its lane is short of space (R183, R237, R280, R282). -/
def State.rowShort (s : State) (c : Nat) (it : Item) (e : QEntry) (p : Nat × Nat) : Bool :=
  let r := e.race.getD 0
  let k := s.raceKind r
  (decide (k = RK.FETCH ∨ k = RK.HOP) && (s.lane r c).item == e.item && s.laneShort r c) ||
  match e.op with
  | .wGlz _ f => s.bandWaits f.glz.toNat f.ctx.toNat (glzLine e f)
  | .fHop _ _ => false
  | _ =>
    let m := s.rowMem c it e p
    decide (m.1 ≠ s.devId) && !(s.canSend m.1 (rowSlots e p))

/-- Pending rows: core, queue, entry, item, row. -/
def State.pendingRows (s : State) : List (Nat × Queue × QEntry × Item × (Nat × Nat)) :=
  (List.range 32).flatMap fun c => [Queue.fq, Queue.wq].flatMap fun q => ((s.core c).q q).flatMap fun e =>
    match (s.core c).item e.item with
    | some it => if e.st = .started then e.pend.map fun p => (c, q, e, it, p) else []
    | none => []

/-- Races that are blocked now. -/
def State.blockedRaces (s : State) : List Nat :=
  let rows := s.pendingRows
  (List.range 64).filter fun r =>
    let mine := rows.filter fun x => x.2.2.1.race == some r
    s.raceKind r != RK.MCAST && !mine.isEmpty && mine.all fun x => s.rowShort x.1 x.2.2.2.1 x.2.2.1 x.2.2.2.2

/-- The set of blocked races is taken anew, and entries into it are counted. -/
def State.scanBlocked (s : State) : State :=
  let b := s.blockedRaces
  let s := (b.filter fun r => !(s.blocked.contains r)).foldl (fun s r => s.bumpRace r Off.RACE.RS_BLOCK_CNT) s
  { s with blocked := b }

/-! ## Multicast admission (R189 to R191) -/

def State.creditTally (s : State) (r i : Nat) : W32 := s.tally ((fld (s.rdRace r Off.RACE.RD_MCAST) 13 0 + i) % 16384)
def State.mcDepth (s : State) (r : Nat) : Nat := fld (s.rdRace r Off.RACE.RD_MCAST) 27 24
def State.mcSlack (s : State) (r : Nat) : Nat := fld (s.rdRace r Off.RACE.RD_MCAST) 31 28
def State.sent (s : State) (r i : Nat) : W32 := SMap.get (fun _ => 0) s.mcSent (16 * r + i)
def State.setSent (s : State) (r i : Nat) (v : W32) : State := { s with mcSent := SMap.set (fun _ => 0) s.mcSent (16 * r + i) v }
def State.pruned (s : State) (r i : Nat) : Option W32 := SMap.get (fun _ => none) s.mcPruned (16 * r + i)
def State.setPruned (s : State) (r i : Nat) (v : Option W32) : State := { s with mcPruned := SMap.set (fun _ => none) s.mcPruned (16 * r + i) v }
def State.modStripe (s : State) (r c item : Nat) (f : Stripe → Stripe) : State :=
  { s with stripes := modFirst (fun x => x.race = r ∧ x.core = c ∧ x.item = item) f s.stripes }

/-- A pruning or rejoin notice for member i of race r, on a level-2 path; else the fallback is counted (R191, R287). -/
def State.notice (s : State) (r i : Nat) (op : MsgOp) (frame : W32) : State :=
  let d := s.memberDev r i
  if s.pathL2 d then
    s.sendStream d { op := op, race := BitVec.ofNat 6 r, value := BitVec.ofNat 32 (fld (s.raceMemb r i) 13 0), frame := frame } noWork noWork noWork
  else match s.egress d with
    | some (p, _) => s.bump (Pg.DL p) Off.DL.FALLBACK_CNT
    | none => s

/-- Member i admits the stripe of an item (R189). -/
def State.admitOne (s : State) (r c item i : Nat) : State :=
  (s.setSent r i (s.sent r i + 1)).modStripe r c item fun x => { x with dests := x.dests ++ [i], held := x.held.filter fun h => h.1 ≠ i }

/-- Member i has room for one more stripe. -/
def State.hasCredit (s : State) (r i : Nat) : Bool := decide ((s.sent r i - s.creditTally r i).toNat < s.mcDepth r)

/-- Member i is pruned (R190): up to the latest frame among the items held for it. -/
def State.prune (s : State) (r i : Nat) : State :=
  let mine := s.stripes.filter fun (x : Stripe) => decide (x.race = r) && x.held.any fun h => h.1 == i
  match mine with
  | [] => s
  | x :: xs =>
    let f := xs.foldl (fun f y => if serialLe f y.frame then y.frame else f) x.frame
    let s := { s with stripes := s.stripes.map fun (x : Stripe) => if x.race = r then { x with held := x.held.filter fun h => h.1 ≠ i } else x }
    let s := s.setPruned r i (some f)
    let s := s.wrRace r Off.RACE.RS_PRUNE (setBit (s.rdRace r Off.RACE.RS_PRUNE) i true)
    let s := (s.wrRace r Off.RACE.RS_PRUNE_FRAME f).bumpRace r Off.RACE.RS_MISS_CNT
    let s := s.raise Pg.WEIR 2 ST.MISSED (unitIdOf 2 s.devId 0) (r * 2 ^ 18 + s.memberDev r i) f.toNat
    s.notice r i .prune f

/-- The number of stripes held for member i. -/
def State.heldCount (s : State) (r i : Nat) : Nat := (s.stripes.filter fun (x : Stripe) => decide (x.race = r) && x.held.any fun h => h.1 == i).length

/-- No stripe of a frame is sent to member i: it was pruned for that frame, also where it has rejoined with a later one (R190). -/
def State.excluded (s : State) (r i : Nat) (frame : W32) : Bool :=
  match s.pruned r i with
  | some f => serialLe frame f
  | none => false

/-- The stripe of an item meets the members of a race for the first time (R189, R191). -/
def State.newStripe (s : State) (r c : Nat) (it : Item) : State :=
  let fr := descFrame it.desc
  let x : Stripe := { race := r, core := c, item := it.key, frame := fr, dests := [], held := [] }
  let s := { s with stripes := s.stripes ++ [x] }
  (s.members r).foldl (fun s i =>
    if s.excluded r i fr then s
    else
      let back := bit (s.rdRace r Off.RACE.RS_PRUNE) i
      let s := if back then s.setSent r i (s.creditTally r i) else s
      if s.hasCredit r i then
        let s := s.admitOne r c it.key i
        if back then (s.wrRace r Off.RACE.RS_PRUNE (setBit (s.rdRace r Off.RACE.RS_PRUNE) i false)).notice r i .rejoin fr else s
      else s.modStripe r c it.key fun x => { x with held := x.held ++ [(i, s.now)] }) s

/-- The stripe of an item is admitted as far as credit goes, and members held too often are pruned; it may go ahead when the answer is
true (R189, R190). -/
def State.admitTransfer (s : State) (r c : Nat) (it : Item) : State × Bool :=
  let s : State := match s.stripe r c it.key with
    | none => s.newStripe r c it
    | some x => x.held.foldl (fun (s : State) (h : Nat × W64) => if s.hasCredit r h.1 then s.admitOne r c it.key h.1 else s) s
  let s := (s.members r).foldl (fun s i => if s.mcSlack r < s.heldCount r i then s.prune r i else s) s
  match s.stripe r c it.key with
  | some x => (if x.dests.isEmpty then s else s.modCore c fun k => k.modItem it.key fun it => { it with mcast := true }, x.held.isEmpty)
  | none => (s, true)

/-! ## Starting the head (R96 to R98) -/

/-- Transfers of a queue in flight. -/
def Core.inFlight (k : Core) (q : Queue) : List QEntry := (k.q q).filter fun e => isTransfer e.op && e.st == .started

/-- Entries of a queue before entry e that have started and not completed. -/
def Core.before (k : Core) (q : Queue) (e : QEntry) : List QEntry := ((k.q q).takeWhile fun x => x.key != e.key).filter fun x => x.st == .started

/-- The conditions under which the head may start, apart from its tally wait: room and rows (R97), units and operands (R98), earlier
transfers of a re-armed race (R130), X.WFLIP alone (R133). -/
def State.mayStart (s : State) (c : Nat) (q : Queue) (it : Item) (e : QEntry) : Bool :=
  let k := s.core c
  match q with
  | .xq => match e.op with
    | .xWflip _ =>
      (k.xq.head?.map (·.key)) == some e.key &&
      !(k.fq.any fun x => x.st == .started && match x.op with
        | .fWgt _ f | .fRqt _ f => f.half != k.half
        | _ => false)
    | _ => (k.before q e).all fun p => xqOverlap c p e
  | _ =>
    if isTransfer e.op then
      let e := { e with race := (raceUse e.op).bind fun r => s.raceFor it r.1 }
      decide ((k.inFlight q).length < 6) && (k.inFlight q).all fun p => !(meets (s.entryWrites c p) (s.entryWrites c e))
    else match e.op with
      | .fRarm _ f | .wRarm _ f => match s.raceFor it f.race.toNat with
        | some r => !((k.before q e).any fun p => p.race == some r)
        | none => true
      | _ => true

/-- An entry is marked as started, with the rows that gates are to grant. -/
def State.mark (s : State) (c : Nat) (q : Queue) (it : Item) (e : QEntry) : State :=
  { s with nextKey := s.nextKey + 1 }.modCore c fun k => k.modEntry q e.key fun x =>
    { x with st := .started, startNo := s.nextKey, race := e.race, pad := e.pad, xfer := e.xfer, pend := s.gatedRows c it e, movedAt := s.now }

/-- The lowest transfer number that no W.COPY in flight on the core uses (Table 15.5). -/
def Core.freeXfer (k : Core) : Nat := ((List.range 256).find? fun n => !((k.inFlight .wq).any fun e => e.xfer == n)).getD 0

/-- The sluice transfers of a W.COPY begin: extents are checked on this device, opened on others (R172, R174). -/
def State.openTransfers (s : State) (c : Nat) (it : Item) (e : QEntry) (f : CopyF) : State :=
  let g := copyGeo e f
  (s.dests c e f).foldl (fun s i => match s.dest c e f i with
    | .sluice dev core a =>
      let rows := g.touched core a
      if dev = s.devId then
        match s.acceptTransfer core rows (.here c e.key) g.total with
        | (s, some true) => s.modCore c fun k => k.modEntry .wq e.key fun e => { e with acks := e.acks ++ [(s.devId, core)] }
        | (s, some false) => s
        | (s, none) => (s.boundsCount core s.devId c).boundsFail c e.key e.item (s.coreUnit core)
      else
        let m := s.rowMsg c it (e.race.getD 0) .xferOpen 1 a 1
        s.sendStream dev { m with xfer := BitVec.ofNat 8 e.xfer, value := BitVec.ofNat 32 g.total, quanta := rows } c e.item e.key
    | _ => s) s

/-- Members of a multicast W.COPY whose device does not take the transfer at this address: each refusal is counted and logged as under R127
(R138, R376). -/
def State.refuseMembers (s : State) (c : Nat) (q : Queue) (e : QEntry) (f : CopyF) : State :=
  (s.dests c e f).foldl (fun s i => if s.dest c e f i = .none then s.refused c q e ST.STATE else s) s

/-- A transfer starts under race r: its lane, its extent, its own conditions, its rows (R127, R180 to R182). -/
def State.startTransfer (s : State) (c : Nat) (q : Queue) (it : Item) (e : QEntry) (r : Nat) : State :=
  let range := entryRange it e s.devId
  if !(s.inExtent r c range.1 range.2) then (s.refuseRace c q e r).settleQueue c q
  else if s.kindRefused c it e then (s.refuseEntry c q e ST.STATE).settleQueue c q
  else match e.op with
    | .wCopy _ f =>
      if f.mc then
        match s.admitTransfer r c it with
        | (s, true) => ((s.refuseMembers c q e f).mark c q it e).openTransfers c it e f
        | (s, false) => s
      else (s.mark c q it e).openTransfers c it e f
    | .wGlz _ f =>
      let g := f.glz.toNat
      let x := f.ctx.toNat
      let line := glzLine e f
      let n := s.glzPixels e f
      let col := if s.opensBand g x line c e.item then 0 else (((s.glaze g).band x line).map (·.col)).getD 0
      if s.glzRefused g x line f.nl.toNat n col then
        ((((s.bump (Pg.GLZ g) Off.GLZ.REFUSE_CNT).raise (Pg.GLZ g) 0 ST.STATE (s.coreUnit c) x)).refuseEntry c q e ST.STATE).settleQueue c q
      else if s.opensBand g x line c e.item ∧ ((s.glaze g).band x line).isNone ∧ 64 ≤ (s.glaze g).openBands then
        s.modCore c fun k => k.modEntry q e.key fun e => { e with held := e.held <|> some s.now, race := some r }
      else
        let b := s.beginGlz g x line c e.item e.key (glzGeo e f).lines n (descFrame it.desc)
        let e := { e with xfer := b.2 }
        let s := b.1.mark c q it e
        if (s.gatedRows c it e).isEmpty then s.glzPass c e f else s
    | _ => s.mark c q it e

/-- A transfer or re-arm under its race (R178 to R182). -/
def State.startRace (s : State) (c : Nat) (q : Queue) (it : Item) (e : QEntry) (r0 : Nat) (kinds : List Nat) : State :=
  match s.raceFor it r0 with
  | none => (s.refuseRace c q e r0).settleQueue c q
  | some r =>
    if !(s.raceValid r) ∨ !(kinds.contains (s.raceKind r)) then (s.refuseRace c q e r).settleQueue c q
    else
      let s := s.takeLane r c it.key
      if (s.lane r c).st = .ended then (s.refuseRace c q e r).settleQueue c q
      else match e.op with
        | .fRarm _ f | .wRarm _ f => (s.rearm r c (e.addr f.ar f.ofs) f.imm).entryDone c q e.key
        | _ =>
          let k := s.core c
          let e := { e with race := some r, pad := if k.padItem = it.key then k.pad else 0, xfer := k.freeXfer }
          s.startTransfer c q it e r

/-- S.OPEN takes effect (R141, R169). -/
def State.openWin (s : State) (c : Nat) (it : Item) (e : QEntry) (f : SluF) : State :=
  let k := s.core c
  let first := e.row f.row f.rowi
  let n := f.nr.toNat
  let w : Win := { st := .opened, first := first, rows := n, tally := if f.ten then some (it.tally c f.t.toNat) else none, item := it.key }
  let clash := (List.range 8).any fun i =>
    let o := k.wins.getD i {}
    decide (i ≠ f.win.toNat) && o.st != .closed && decide ((o.first + 16384 - first) % 16384 < n ∨ (first + 16384 - o.first) % 16384 < o.rows)
  if n = 0 ∨ 16384 < n then (s.refuseEntry c .fq e ST.BAD_DESC).settleQueue c .fq
  else if (k.wins.getD f.win.toNat {}).st ≠ .closed ∨ clash then (s.refuseEntry c .fq e ST.STATE).settleQueue c .fq
  else (s.modCore c fun k => { k with wins := k.wins.set f.win.toNat w }).entryDone c .fq e.key

/-- S.CLOSE takes effect: the window goes to CLOSING, the entry completes when it is CLOSED (R170). -/
def State.shutWin (s : State) (c : Nat) (e : QEntry) (w : Nat) : State :=
  if ((s.core c).wins.getD w {}).st ≠ .opened then (s.refuseEntry c .fq e ST.STATE).settleQueue c .fq
  else
    let s := s.modCore c fun k => (k.modEntry .fq e.key fun e => { e with st := .started, acks := [closeToken w] }).closeWin w
    if ((s.core c).wins.getD w {}).st = .closed then s.entryDone c .fq e.key else s

/-- The head entry of a queue starts. -/
def State.startEntry (s : State) (c : Nat) (q : Queue) (it : Item) (e : QEntry) : State :=
  match e.op with
  | .tWait _ _ | .tUpd _ _ | .tRupd _ _ => s.entryDone c q e.key
  | .fPad _ f => (s.modCore c fun k => { k with pad := f.imm, padItem := it.key }).entryDone c q e.key
  | .sOpen _ f => s.openWin c it e f
  | .sClose _ f => s.shutWin c e f.win.toNat
  | .xWflip _ => (s.modCore c fun k => { k with half := !k.half }).entryDone c q e.key
  | op => match raceUse op with
    | some (r0, kinds) => s.startRace c q it e r0 kinds
    | none => s.modCore c fun k => k.modEntry q e.key fun e => { e with st := .started }

/-- The wait of an entry has been released, or it has none. -/
def QEntry.waited (e : QEntry) : Bool :=
  match e.cond, e.wait with
  | none, _ => true
  | some _, some w => w.released
  | some _, none => false

/-- An uncorrectable queue entry is met (R306). -/
def State.queueBad (s : State) (c : Nat) (q : Queue) (i : Nat) : Bool := s.ue.contains (.queue c q i)

/-- QUEUE_ENTRY_START (R96): the engine starts its head entry once its wait condition, transfer room and ordering conditions hold. -/
def execQueueEntryStart (core : Fin 32) (q : Queue) (s : State) : Out :=
  .next (if !s.coreIn core then s
    else
      let s := s.heads core
      let k := s.core core
      match k.head q with
      | none => s
      | some e => match k.item e.item with
        | none => s
        | some it =>
          if s.queueBad core q ((k.q q).findIdx fun x => x.key = e.key) then s.coreOut core OC.ECC_CORE
          else if e.waited && s.mayStart core q it e then ((s.startEntry core q it e).heads core).scanBlocked else s)

/-! ## Completion (R142) -/

/-- A W.GLZ that closed its band completes once the band's lines are written (R235). -/
def State.glzOpenLines (s : State) (c : Nat) (e : QEntry) (f : GlzF) : Bool :=
  (s.glaze f.glz.toNat).bands.any fun b => b.closed && b.core == c && b.item == e.item && b.entry == e.key

/-- A started entry has had all its effects but those that come with completion. -/
def State.mayComplete (s : State) (c : Nat) (q : Queue) (e : QEntry) : Bool :=
  e.st == .started && e.pend.isEmpty && e.acks.isEmpty && !(s.heldFor c e.key) &&
  (match e.op with
    | .wGlz _ f => !(s.glzOpenLines c e f)
    | _ => true) &&
  (q != .xq || ((s.core c).before q e).all fun p => !(meets (xqWrites c e) (xqReads c p)))

/-- A multicast W.COPY: receivers that accept write in full (R174). -/
def QEntry.multicast (e : QEntry) : Bool :=
  match e.op with
  | .wCopy _ f => f.mc
  | _ => false

/-- The operation of an entry completes. -/
def State.completeEntry (s : State) (c : Nat) (q : Queue) (e : QEntry) : State :=
  let s := match q, (s.core c).item e.item with
    | .xq, _ => s.doXq c e
    | _, some it => if e.noUpd && !e.multicast then s else s.freeRows c it e
    | _, none => s
  s.entryDone c q e.key

/-- ENTRY_COMPLETE (R142): the operation of entry idx of a queue completes with its effects visible at the destination. -/
def execEntryComplete (core : Fin 32) (q : Queue) (idx : Fin 32) (s : State) : Out :=
  .next (if !s.coreIn core then s
    else match ((s.core core).q q)[idx.val]? with
      | some e => if s.mayComplete core q e then (s.completeEntry core q e).scanBlocked else s
      | none => s)

end Sys2Proof.Machine
end

