-- ==== Sys2Proof/Machine/CoreRegs.lean ====
section
/-! DEFINITION. The CORE pages (R100, R101, R114, R167, R295, R301, R307, R333, R373): instruction memory by register, swap requests,
CORE_CMD, the scrubber, and the other registers with rules of their own. -/
namespace Sys2Proof.Machine

/-! ## Instruction memory by register -/

/-- An IMEM write or SWAP is refused: IMEM_CTRL.CODE and FAULT_SUM bit 0 (R100, R114). -/
def State.imemRefuse (s : State) (c : Nat) : State :=
  (s.wrF (Pg.CORE c) Off.CORE.IMEM_CTRL 23 16 ST.STATE).raise (Pg.CORE c) 0 ST.STATE (s.coreUnit c) 0

/-- IMEM_SEL moves on by one word within its bank (R373). -/
def State.imemNext (s : State) (c : Nat) : State :=
  s.wrF (Pg.CORE c) Off.CORE.IMEM_SEL 12 0 ((s.rdF (Pg.CORE c) Off.CORE.IMEM_SEL 12 0 + 1) % 8192)

/-- An IMEM_DATA write (R100, R295, R333). -/
def State.imemWrite (s : State) (c : Nat) (v : W32) : State :=
  let k := s.core c
  let b := s.rdB (Pg.CORE c) Off.CORE.IMEM_SEL 13
  if !(s.domainOn c) ∨ s.cfgBusy ∨ b = k.active ∨ k.swap then s.imemRefuse c
  else ((s.imemPut c b (s.rdF (Pg.CORE c) Off.CORE.IMEM_SEL 12 0) v).imemNext c).prevStale

/-- IMEM_DATA_WRITE (R100): writes an instruction word to the standby bank and advances IMEM_SEL. -/
def execImemDataWrite (_src : Agent) (core : Fin 32) (v : W32) (s : State) : Out := .next (s.imemWrite core v)

/-- The word that IMEM_SEL addresses. -/
def State.imemWord (s : State) (c : Nat) : W32 :=
  (s.core c).iword (s.rdB (Pg.CORE c) Off.CORE.IMEM_SEL 13) (s.rdF (Pg.CORE c) Off.CORE.IMEM_SEL 12 0)

/-- IMEM_DATA_READ (R373): a read by the management controller returns the word and advances IMEM_SEL. -/
def execImemDataRead (core : Fin 32) (s : State) : Out := .next { s.imemNext core with out := [s.imemWord core] }

/-- A USED entry of the standby bank is unchecked or being checked (R114). -/
def Core.standbyUnchecked (k : Core) : Bool :=
  (List.range 16).any fun e => dirUsed (k.dirHi (!k.active) e) && decide (dirLstate (k.dirHi (!k.active) e) < 2)

/-- A swap of core c is requested (R101, R102): items accepted before the request may hold it back. -/
def State.requestSwap (s : State) (c : Nat) : State :=
  s.modCore c fun k => if k.swap then k else { k with swap := true, swapKey := s.nextKey }

/-- IMEM_CTRL.SWAP written 1 (R101, R114, R295, R333). -/
def State.swapWrite (s : State) (c : Nat) : State :=
  if !(s.domainOn c) ∨ s.cfgBusy ∨ (s.core c).standbyUnchecked then s.imemRefuse c else (s.requestSwap c).prevStale

/-- IMEM_SWAP (R101): IMEM_CTRL.SWAP requests a bank swap. -/
def execImemSwap (_src : Agent) (core : Fin 32) (s : State) : Out := .next (s.swapWrite core)

/-! ## CORE_CMD -/

/-- A write to CORE_CMD, SP_RESERVE or SCRUB_CTRL is refused (R301). -/
def State.coreRefuse (s : State) (c code : Nat) : State :=
  (s.wrF (Pg.CORE c) Off.CORE.CORE_STATE 23 16 code).logState (Pg.CORE c) code (s.coreUnit c) Off.CORE.CORE_STATE

/-- CAUSE of an OUT by register (Table 17.4). -/
def outCause : Agent → Nat
  | .host _ => OC.HOST
  | .mc => OC.MC

/-- CORE_CMD OUT: accepted in IDLE or RUN (R301, R308). -/
def State.cmdOut (s : State) (src : Agent) (c : Nat) : State :=
  if s.domainOn c ∧ s.coreIn c then s.coreOut c (outCause src) else s.coreRefuse c ST.STATE

/-- CORE_CMD_OUT (R308): takes a core out of service. -/
def execCoreCmdOut (src : Agent) (core : Fin 32) (s : State) : Out := .next (s.cmdOut src core)

/-- CORE_CMD RETURN: accepted in OUT; the contents of the core are as they were left (R301). -/
def State.cmdReturn (s : State) (c : Nat) : State :=
  if s.domainOn c ∧ (s.core c).st = .out then s.modCore c fun k => { k with st := .idle } else s.coreRefuse c ST.STATE

/-- CORE_CMD_RETURN (R301): puts an OUT core back in IDLE. -/
def execCoreCmdReturn (_src : Agent) (core : Fin 32) (s : State) : Out := .next (s.cmdReturn core)

/-- A CORE_CMD write by its CMD field: 0 is no command (R375). -/
def State.coreCmd (s : State) (src : Agent) (c : Nat) (v : W32) : State :=
  match fld v 1 0 with
  | 0 => s
  | 1 => s.cmdOut src c
  | 2 => s.cmdReturn c
  | _ => s.coreRefuse c ST.BAD_DESC

/-- LIVENESS_TIMEOUT (R307): a liveness ring with no transition for 2 µs takes its core OUT. -/
def execLivenessTimeout (core : Fin 32) (s : State) : Out :=
  .next (if s.coreIn core then s.coreOut core OC.LIVENESS else s)

/-! ## Other writes of a CORE page -/

/-- A write to SP_RESERVE: ROWS at most 16,384 (R301). -/
def State.spReserveWrite (s : State) (c : Nat) (v : W32) : State :=
  if 16384 < fld v 14 0 then s.coreRefuse c ST.BAD_DESC else s.wrMasked (Pg.CORE c) Off.CORE.SP_RESERVE v

/-- A write to SCRUB_CTRL: PASS at least 1 (R301). -/
def State.scrubCtrlWrite (s : State) (c : Nat) (v : W32) : State :=
  if fld v 15 0 = 0 then s.coreRefuse c ST.BAD_DESC else s.wrMasked (Pg.CORE c) Off.CORE.SCRUB_CTRL v

/-! ## The scrubber (R167) -/

/-- Rows of a pass: the scratchpad, then both weight-store halves. -/
abbrev scrubRows : Nat := 18432

/-- Byte address of row i of a pass. -/
def scrubAddr (c i : Nat) : Nat := if i < 16384 then rowAddr c i else wsAddr c ((i - 16384) / 1024) ((i - 16384) % 1024)

/-- Rig-time periods of a millisecond (R48). -/
abbrev periodsPerMs : Nat := 100000

/-- An uncorrectable word found by the scrubber is counted and logged and fails no item. -/
def State.scrubFound (s : State) (c w : Nat) : State :=
  ((s.bump (Pg.CORE c) Off.CORE.ECC_UE_CNT).faultAddr (Pg.CORE c) (4 * w)).raise (Pg.CORE c) 2 ST.ECC_UNCORR (s.coreUnit c) 0 (4 * w)

/-- The scrubber reads the next row: corrected words are counted and rewritten. A pass still under way after its period is counted once
(at the first row read after that: log entry 56). -/
def State.scrubRow (s : State) (c : Nat) : State :=
  let k := s.core c
  let a := scrubAddr c k.scrub
  let start := if k.scrub = 0 then s.now else k.scrubAt
  let counted := decide (k.scrub ≠ 0) && k.scrubLate
  let late := s.later start (s.rdF (Pg.CORE c) Off.CORE.SCRUB_CTRL 15 0 * periodsPerMs)
  let s := (s.ueWords a 256).foldl (fun s w => s.scrubFound c w) (s.correct a 256)
  let s := s.modCore c fun k => { k with scrub := (k.scrub + 1) % scrubRows, scrubAt := start, scrubLate := late }
  if late ∧ !counted then s.bump (Pg.CORE c) Off.CORE.SCRUB_LATE_CNT else s

/-- CORE_SCRUB_ROW (R167): the core scrubber reads one row and rewrites corrected words. -/
def execCoreScrubRow (core : Fin 32) (s : State) : Out :=
  .next (if s.domainOn core ∧ s.rdB (Pg.CORE core) Off.CORE.SCRUB_CTRL 31 then s.scrubRow core else s)

end Sys2Proof.Machine
end

