-- ==== Sys2Proof/Machine/TallyRegs.lean ====
section
/-! DEFINITION. The TALLY pages (R150, R155, R159, R373). -/
namespace Sys2Proof.Machine

/-- Register of TALLY page n. -/
def tallyPage (n : Nat) : Nat := 0x070 + n

/-- The tally that T_IDX.IDX of page n selects. -/
def State.tallySel (s : State) (n : Nat) : Nat := 1024 * n + s.rdF (tallyPage n) Off.TALLY.T_IDX 9 0

/-- IDX advances after an accepted write while INC is 1 (R373). -/
def State.tallyNext (s : State) (n : Nat) : State :=
  if s.rdB (tallyPage n) Off.TALLY.T_IDX 31 then
    s.wrF (tallyPage n) Off.TALLY.T_IDX 9 0 ((s.rdF (tallyPage n) Off.TALLY.T_IDX 9 0 + 1) % 1024)
  else s

/-- A write to T_SET or T_ADD: one operation of Table 7.1; a refusal is recorded in T_CODE and FAULT_SUM bit 0 (R150, R159). -/
def State.tallyWrite (s : State) (n : Nat) (set : Bool) (v : W32) : State :=
  let t := s.tallySel n
  match s.tallyOp .reg t set v with
  | (s, true) => (s.wr (tallyPage n) Off.TALLY.T_CODE (BitVec.ofNat 32 (ST.STATE * 2 ^ 24 + t % 1024))).raise (tallyPage n) 0 ST.STATE
      (s.tallyHolder t) t
  | (s, false) => s.tallyNext n

/-- TALLY_T_SET_WRITE (R159): sets the selected tally. -/
def execTallyTSetWrite (_src : Agent) (page : Fin 16) (v : W32) (s : State) : Out := .next (s.tallyWrite page true v)

/-- TALLY_T_ADD_WRITE (R159): adds to the selected tally. -/
def execTallyTAddWrite (_src : Agent) (page : Fin 16) (v : W32) (s : State) : Out := .next (s.tallyWrite page false v)

/-- TALLY_T_ATTR_WRITE (R159): sets STRICT of the selected tally, for waits registered after it. -/
def execTallyTAttrWrite (_src : Agent) (page : Fin 16) (v : W32) (s : State) : Out :=
  .next ((s.setStrict (s.tallySel page) (bit v 0)).tallyNext page)

/-- A write to WAIT_LIMIT: 0 is refused (R159). -/
def State.waitLimitWrite (s : State) (n : Nat) (v : W32) : State :=
  if v = 0 then s.wrF (tallyPage n) Off.TALLY.T_CODE 31 24 ST.BAD_DESC else s.wr (tallyPage n) Off.TALLY.WAIT_LIMIT v

end Sys2Proof.Machine
end

