-- ==== Sys2Proof/Machine/Intake.lean ====
section
/-! DEFINITION. Packets of a sensor port (R27, R28, R40, R41, R61, R64, R187), the intake's corrections and statistics (R35, R65 to R67), and FSYNC
pulses (R42). -/
namespace Sys2Proof.Machine

/-! ## Frame starts -/

/-- Lines of ended or cut frames that have not retired, over every hopper stream (R187). -/
def State.backlog (s : State) : Nat :=
  (s.ports.map fun p => (p.streams.map fun st =>
    (st.held.filter fun l => match st.frame l.frame with
      | some f => f.ended || f.cut.isSome
      | none => true).length).sum).sum

/-- Shed class of a port (R187). -/
def State.shedClass (s : State) (n : Nat) : Nat :=
  if n < 16 then fld (s.rd Pg.WEIR Off.WEIR.SHED_CLASS0) (2 * n + 1) (2 * n)
  else fld (s.rd Pg.WEIR Off.WEIR.SHED_CLASS1) (2 * (n - 16) + 1) (2 * (n - 16))

/-- An admitted frame of port n is shed (R187). -/
def State.sheds (s : State) (n : Nat) : Bool :=
  s.rdB Pg.WEIR Off.WEIR.SHED_CTRL 31 && decide (s.rdF Pg.WEIR Off.WEIR.SHED_CTRL 15 0 < s.backlog) && decide (s.shedClass n ≠ 0) &&
  (List.range 24).all fun m => !(s.port m).flowing || decide (s.shedClass m ≤ s.shedClass n)

/-- Drop cause of a frame that starts, if it is not taken in (R40, R187). -/
def State.startCause (s : State) (n i : Nat) : Option Nat :=
  if s.freeSlots n i < s.rdF (Pg.SP n) Off.SP.ADMIT 7 0 then some 0
  else if s.sheds n then some 5
  else none

/-- The shed of a frame is counted (R187). -/
def State.countShed (s : State) (n : Nat) : State :=
  ((s.bump Pg.WEIR Off.WEIR.SHED_CNT).wrF Pg.WEIR Off.WEIR.SHED_STATE 4 0 n).raise Pg.WEIR 1 ST.DROPPED_FRAME (unitIdOf 2 s.devId 0) n

/-- The frame in progress ends with lines missing: it is cut at the first of them (R41). -/
def State.closeFrame (s : State) (n i : Nat) : State :=
  let st := (s.port n).stream i
  match st.cur with
  | none => s
  | some f =>
    let got := Stream.received st f
    (if got < s.imgHeight n then s.cutFrame n i f got 4 else s).endFrame n i

/-- The lowest-numbered enabled stream takes the next frame number, with the tag in force L frames on (R61, R64); a pending table swap takes
effect first (R44). -/
def State.takeNumber (s : State) (n : Nat) : State :=
  let s := s.doPending n
  let l := s.latency n
  s.modPort n fun p =>
    { p with next := p.next + 1, cur := some p.next, loaded := false, tagFresh := false,
             tags := ((p.tags ++ [(p.next + BitVec.ofNat 32 l, p.tagNow, !p.tagFresh)]).filter fun t => serialLe p.next t.1) }

/-- The number of the frame that starts on a stream other than the lowest (R61). -/
def State.sharedNumber (s : State) (n : Nat) : W32 × State :=
  match (s.port n).cur with
  | some f => (f, s)
  | none =>
    let (k, s) := s.newFree
    (Config.frameBefore k, s)

/-- A frame of one stream starts. -/
def State.startFrame (s : State) (n i : Nat) (fn : W16) : State :=
  let s := s.closeFrame n i
  let (num, s) : W32 × State :=
    if (s.enabled n).head? = some i then
      let s := s.takeNumber n
      (((s.port n).cur).getD 0, s)
    else s.sharedNumber n
  let p := s.port n
  let tag := (p.tags.find? fun t => t.1 == num).getD (num, p.tagNow, true)
  let cause := s.startCause n i
  let f : Frame :=
    { num := num, csi := fn, admitted := cause.isNone, cause := cause.getD 0, lines := 0, cut := none, ended := false, recorded := false,
      statEn := s.rdB Pg.STAT Off.STAT.STAT_CFG 31 (4 * n + i), fsTime := s.now, feTime := 0, tag := tag.2.1, carried := tag.2.2,
      late := p.lateFor.contains num, stats := {} }
  let s := s.modPort n fun p => p.modStream i fun st => { st with frames := f :: st.frames, cur := some num, last := some num }
  match cause with
  | none => s.bump (Pg.SP n) Off.SP.FRAME_CNT
  | some c => ((if c = 5 then s.countShed n else s).frameLost n c i 0x3FFF).markReady

/-- A frame start on a virtual channel. -/
def State.frameStart (s : State) (n vc : Nat) (fn : W16) : State :=
  if (s.port n).flowing then
    let s := s.modPort n fun p => { p with lastFs := s.now }
    if (s.port n).st = .stream then (s.onVc n vc).foldl (fun s i => s.startFrame n i fn) s
    else ((s.onVc n vc).foldl (fun s i => s.closeFrame n i) s).tryStop n
  else s

/-! ## Packet headers (R27, R32, R41) -/

/-- The frames in progress of some streams are cut as format errors. -/
def State.formatError (s : State) (n : Nat) (is : List Nat) : State :=
  is.foldl (fun s i =>
    let st := (s.port n).stream i
    match st.cur with
    | some f => (s.cutFrame n i f (Stream.received st f) 4).markReady
    | none => s) s

/-- Every frame in progress of the port is cut as a format error: the packet cannot be told from any other. -/
def State.headerLost (s : State) (n : Nat) : State := s.formatError n (s.enabled n)

/-- RAW24, which Table 2.1 does not support: data type 0x27 (PRESUMED, log entry 66). -/
abbrev dtRaw24 : BitVec 6 := 0x27

/-- A packet that uses an unsupported feature (R27): a format error of the frames in progress on its virtual channel. -/
def State.unsupported (s : State) (n vc : Nat) : State :=
  if (s.port n).flowing then s.formatError n (s.onVc n vc) else s

/-- A packet header is seen: counted when corrected; the answer tells whether the packet can be used. -/
def State.header (s : State) (n : Nat) (ecc : PktHdr) (clean : Bool) : State × Bool :=
  let s := s.trainSee n (decide (ecc = .ok ∨ ecc = .early) && clean) (decide (ecc = .ok))
  match ecc with
  | .ok => (s, true)
  | .early => (s, true)
  | .corrected => (s.bump (Pg.SP n) Off.SP.ECC_CNT, true)
  | .uncorrectable => (if (s.port n).flowing then s.headerLost n else s, false)

/-- FRAME_START_PACKET (R40): numbers the frame, applies any pending table swap, and tests the frame for admission and shedding. -/
def execFrameStartPacket (port : Fin 24) (vc : BitVec 5) (csiFn : BitVec 16) (ecc : PktHdr) (s : State) : Out :=
  .next (match s.header port ecc true with
    | (s, true) => s.frameStart port vc.toNat csiFn
    | (s, false) => s)

/-- FRAME_END_PACKET (R40): ends the frame, which is cut when lines are missing. -/
def execFrameEndPacket (port : Fin 24) (vc : BitVec 5) (ecc : PktHdr) (s : State) : Out :=
  .next (match s.header port ecc true with
    | (s, true) =>
      if (s.port port).flowing then (((s.onVc port vc.toNat).foldl (fun s i => s.closeFrame port i) s).markReady).tryStop port else s
    | (s, false) => s)

/-! ## Lines -/

/-- A line is not taken in: its frame is cut where it was admitted (R41), else the line is counted as lost. -/
def State.lineBad (s : State) (n i : Nat) (f : W32) (y cause : Nat) : State :=
  ((s.modPort n fun p => p.modStream i fun st => st.modFrame f fun x => { x with lost := if x.admitted then x.lost else x.lost + 1 }).cutFrame
    n i f y cause).markReady

/-- A line of the frame in progress of a stream, taken into the receiver's holding lines (R28). -/
def State.takeLine (s : State) (n i : Nat) (f : W32) (pixels : List (BitVec 20)) (crcOk : Bool) : State :=
  let st := (s.port n).stream i
  let y := Stream.received st f
  let s := if crcOk then s else s.bump (Pg.SP n) Off.SP.CRC_CNT
  match st.frame f with
  | none => s
  | some fr =>
    if fr.cut.isSome then s
    else if s.imgHeight n ≤ y ∨ pixels.length ≠ s.imgWidth n then s.lineBad n i f y 4
    else if !crcOk ∧ !(s.rdB (Pg.SP n) Off.SP.INTAKE_CTRL 29) then s.lineBad n i f y 3
    else if 2 ≤ st.rx.length then s.lineBad n i f y 4
    else s.modPort n fun p => p.modStream i fun st => { st with rx := st.rx ++ [⟨f, y, pixels, crcOk⟩] }

/-- The enabled stream of a virtual channel and data type. -/
def State.streamOf (s : State) (n vc dt : Nat) : Option Nat :=
  (s.onVc n vc).find? fun i => decide (fld (s.streamReg n i) 25 20 = dt)

/-- LINE_PACKET (R28): a long packet of pixel data is taken into the receiver's holding lines, or lost on overrun. A packet of no enabled
stream is discarded and counted, one of an unsupported type is a format error (R27). -/
def execLinePacket (port : Fin 24) (vc : BitVec 5) (dt : BitVec 6) (pixels : List (BitVec 20)) (crcOk : Bool) (ecc : PktHdr) (t : W64)
    (s : State) : Out :=
  .next (s.atTime t fun s => match s.header port ecc crcOk with
    | (s, false) => s
    | (s, true) =>
      if dt = dtRaw24 then s.unsupported port vc.toNat
      else if (s.port port).flowing then
        match s.streamOf port vc.toNat dt.toNat with
        | none => s.modPort port fun p => { p with discarded := p.discarded + 1 }
        | some i => match ((s.port port).stream i).cur with
          | some f => s.takeLine port i f pixels crcOk
          | none => s
      else s)

/-! ## Corrections (R35) -/

/-- CFA phase of a pixel. -/
def cfaPhase (c : CorrCopy) (x y : Nat) : Nat := 2 * ((y + fld (c.reg 0) 1 1) % 2) + (x + fld (c.reg 0) 0 0) % 2

/-- The statistics tap L of a raw code: black level and linearisation. -/
def tapOf (c : CorrCopy) (p : Nat) (r : Nat) : Int :=
  let d : Int := r - (fld (c.reg (1 + p)) 19 0 : Nat)
  let lin := c.reg 5
  if bit lin 31 ∧ 0 ≤ d then
    let sh := fld lin 3 0
    let d := min d.toNat (64 * 2 ^ sh)
    let i := min (d / 2 ^ sh) 63
    let k : Nat → Int := fun j => (fld (c.entry 0 j) 23 0 : Nat)
    k i + rhe ((k (i + 1) - k i) * ((d : Int) - i * 2 ^ sh)) sh
  else d

/-- The gain map applied to L. -/
def gainOf (c : CorrCopy) (p x y : Nat) (l : Int) : Int :=
  let g := c.reg 6
  if bit g 31 then
    let sx := fld g 3 0
    let sy := fld g 11 8
    let gx := min (x / 2 ^ sx) (fld g 30 24 - 2)
    let fx : Int := (x : Int) - gx * 2 ^ sx
    let gy := min (y / 2 ^ sy) (fld g 22 16 - 2)
    let fy : Int := (y : Int) - gy * 2 ^ sy
    let k : Nat → Nat → Int := fun j i => (fld (c.entry 1 (p * 3185 + j * 65 + i)) 15 0 : Nat)
    let top := k gy gx * (2 ^ sx - fx) + k gy (gx + 1) * fx
    let bot := k (gy + 1) gx * (2 ^ sx - fx) + k (gy + 1) (gx + 1) * fx
    rhe (l * rhe (top * (2 ^ sy - fy) + bot * fy) (sx + sy)) 12
  else l

/-- The hopper code of a pixel of packing width w; `defect`: it is in the defect list. -/
def hopCode (c : CorrCopy) (w p : Nat) (v : Int) (defect : Bool) : Nat :=
  let m : Int := min (2 ^ w - 2) 32766
  let sh := fld (c.reg 8) 3 0
  if defect then 2 ^ w - 1
  else if bit (c.reg 8) 31 then
    let t := (((fld (c.reg (9 + p)) 15 0 : Nat) : Int) * v + (c.reg (13 + p)).toInt).fdiv (2 ^ sh)
    min (isqrt (max t 0).toNat) m.toNat
  else (min (max (v.fdiv (2 ^ sh)) 0) m).toNat

/-- Columns of the defects of a line, of the first COUNT entries. -/
def defectCols (c : CorrCopy) (y : Nat) : List Nat :=
  if bit (c.reg 7) 31 then
    (List.range (fld (c.reg 7) 13 0)).filterMap fun i => if (c.defect i).1 = y then some (c.defect i).2 else none
  else []

/-- A line's tap values, none for a defect, with the phase of each pixel. -/
def lineTaps (c : CorrCopy) (y : Nat) (px : List (BitVec 20)) : List (Option Int) :=
  let ds := defectCols c y
  px.zipIdx.map fun v => if ds.contains v.2 then none else some (tapOf c (cfaPhase c v.2 y) v.1.toNat)

/-- A line's hopper codes. -/
def lineCodes (c : CorrCopy) (w y : Nat) (px : List (BitVec 20)) : List Nat :=
  let ds := defectCols c y
  px.zipIdx.map fun v =>
    let p := cfaPhase c v.2 y
    hopCode c w p (gainOf c p v.2 y (tapOf c p v.1.toNat)) (ds.contains v.2)

/-- Codes of w bits packed little-endian with no gaps (R37). -/
def packCodes (w : Nat) (codes : List Nat) : List Byte :=
  leBytes (ceilDiv (codes.length * w) 8) (codes.foldr (fun c n => c + n * 2 ^ w) 0)

/-! ## Statistics (R65) -/

/-- Zone of a pixel, none beyond the last zone (R65). -/
def zoneOf (w h x y : Nat) : Option Nat :=
  let zw := 2 * (w / 64)
  let zh := 2 * (h / 48)
  if x < 32 * zw ∧ y < 24 * zh then some (32 * (y / zh) + x / zw) else none

/-- One value of a channel (0 R, 1 G, 2 B, 3 Y) enters the statistics. -/
def Stats.add (a : Stats) (sh : Nat) (zone : Option Nat) (ch : Nat) (v : Int) : Stats :=
  let bin := min ((max v 0).toNat / 2 ^ sh) 255
  let n := SMap.get (fun _ => 0) a.hist (256 * ch + bin)
  let a := { a with hist := SMap.put a.hist (256 * ch + bin) (min (n + 1) 0xFFFFFF), sat := a.sat || decide (0xFFFFFF ≤ n),
                    cnt := SMap.put a.cnt ch (SMap.get (fun _ => 0) a.cnt ch + 1) }
  match zone with
  | none => a
  | some z =>
    let k := 4 * z + ch
    { a with zsum := SMap.put a.zsum k (SMap.get (fun _ => 0) a.zsum k + v), zcnt := SMap.put a.zcnt k (SMap.get (fun _ => 0) a.zcnt k + 1) }

/-- The quads of two lines, each with its left column. -/
def quads : Nat → List (Option Int) → List (Option Int) → List (Nat × Int)
  | x, some a :: some b :: r, some c :: some d :: q => (x, rhe (a + b + c + d) 2) :: quads (x + 2) r q
  | x, _ :: _ :: r, _ :: _ :: q => quads (x + 2) r q
  | _, _, _ => []

/-- A line enters a frame's statistics. A colour code 0b11, which Table 18.7 gives no colour, counts as channel Y: DESIGN CHOICE (log entry
67). -/
def State.statLine (s : State) (n i : Nat) (y : Nat) (taps : List (Option Int)) (a : Stats) : Stats :=
  let sh := s.rdF Pg.STAT Off.STAT.STAT_CFG 20 16 (4 * n + i)
  let w := s.imgWidth n
  let h := s.imgHeight n
  let c := (s.port n).act
  let col := ((s.port n).profile.map (·.colours)).getD []
  let a := taps.zipIdx.foldl (fun (a : Stats) v => match v.1 with
    | some l => a.add sh (zoneOf w h v.2 y) (col.getD (cfaPhase c v.2 y) 0) l
    | none => { a with defects := a.defects + 1 }) a
  if y % 2 = 0 then { a with prev := taps }
  else { (quads 0 a.prev taps).foldl (fun (a : Stats) q => a.add sh (zoneOf w h q.1 (y - 1)) 3 q.2) a with prev := [] }

/-! ## The intake -/

/-- A line enters its slot: whole words of the slot are sound again (R37). -/
def State.fillSlot (s : State) (n i slot : Nat) (bs : List Byte) : State :=
  let a := s.slotAddr n i slot
  let size := s.slotBytes n i
  let inside := fun e => match e with
    | EccLoc.mem w => decide (a ≤ 4 * w ∧ 4 * w < a + size)
    | _ => false
  ({ s with ue := s.ue.filter fun e => !inside e, ce := s.ce.filter fun e => !inside e }).putBytes a bs

/-- HIGH of HOP_LEVEL follows the lines held (Table 2.8). -/
def State.hopHigh (s : State) (n i : Nat) : State :=
  if s.rdF (Pg.SP n) Off.SP.HOP_LEVEL 31 16 < s.heldLines n i then s.wrF (Pg.SP n) Off.SP.HOP_LEVEL 31 16 (s.heldLines n i) else s

/-- A line of an admitted frame goes into the hopper (R35, R37); lines that no item claims retire at once (R39), and quanta whose lines are
complete become ready (R26). -/
def State.deliver (s : State) (n i : Nat) (l : RxLine) (slot : Nat) : State :=
  let codes := lineCodes (s.port n).act (s.hopWidth n i) l.line l.pixels
  let s := s.fillSlot n i slot (packCodes (s.hopWidth n i) codes)
  let s := s.modPort n fun p => p.modStream i fun st => { st with held := st.held ++ [⟨l.frame, l.line, slot⟩] }
  ((s.hopHigh n i).retireLines n i).markReady

/-- A line is counted in its frame, and enters its statistics. -/
def State.countLine (s : State) (n i : Nat) (l : RxLine) (fr : Frame) : State :=
  let taps := lineTaps (s.port n).act l.line l.pixels
  let stats := if fr.statEn then s.statLine n i l.line taps fr.stats else fr.stats
  s.modPort n fun p => p.modStream i fun st => st.modFrame l.frame fun x => { x with lines := x.lines + 1, stats := stats }

/-- The intake takes a line out of the receiver's holding lines. -/
def State.intakeLine (s : State) (n i : Nat) (l : RxLine) : State :=
  match ((s.port n).stream i).frame l.frame with
  | none => s
  | some fr =>
    if (fr.cut.map fun x => decide (x.1 ≤ l.line)).getD false then s
    else if !fr.admitted then (s.countLine n i l fr).pruneFrames n i
    else match s.freeSlot n i with
      | none => (s.cutFrame n i l.frame l.line 1).markReady
      | some slot => ((s.countLine n i l fr).deliver n i l slot).pruneFrames n i

/-- LINE_INTAKE (R35): the intake corrects a held line into the hopper, takes its statistics, releases waiting reads and makes quanta ready. -/
def execLineIntake (port : Fin 24) (stream : Fin 4) (s : State) : Out :=
  .next (match ((s.port port).stream stream).rx with
    | [] => s
    | l :: rest => (s.modPort port fun p => p.modStream stream fun st => { st with rx := rest }).intakeLine port stream l)

/-! ## Other packets (R27) -/

/-- Embedded data enters the statistics of a frame: the first 768 bytes (Table 3.5). -/
def Stats.embed (a : Stats) (bs : List Byte) : Stats :=
  { a with emb := (a.emb ++ bs).take 768, embTrunc := a.embTrunc || decide (768 < a.emb.length + bs.length) }

/-- EMBEDDED_DATA_PACKET (R27): copied into the statistics record of the frames in progress of its virtual channel. -/
def execEmbeddedDataPacket (port : Fin 24) (head : PktHead) (bytes : List Byte) (s : State) : Out :=
  .next (match s.header port head.ecc true with
    | (s, true) => (s.onVc port head.vc.toNat).foldl (fun s i => s.modPort port fun p => p.modStream i fun st => match st.cur with
        | some f => st.modFrame f fun x => if x.cut.isNone then { x with stats := x.stats.embed bytes } else x
        | none => st) s
    | (s, false) => s)

/-- LINE_SHORT_PACKET (R27): a line start or line end short packet is accepted and ignored; its header counts (R32, R41). -/
def execLineShortPacket (port : Fin 24) (head : PktHead) (s : State) : Out := .next (s.header port head.ecc true).1

/-- DISCARDED_PACKET (R27): a packet of another data type is discarded and counted; one that uses an unsupported feature is a format error as
well. -/
def execDiscardedPacket (port : Fin 24) (head : PktHead) (pkt : OtherPkt) (s : State) : Out :=
  .next (match s.header port head.ecc true with
    | (s, true) =>
      let s := if pkt.unsupported ∨ pkt.dt = dtRaw24 then s.unsupported port head.vc.toNat else s
      s.modPort port fun p => { p with discarded := p.discarded + 1 }
    | (s, false) => s)

/-! ## Statistics records (R66, R67, R303) -/

/-- Words 1 to 15 of a record. -/
def State.statHead (s : State) (n i : Nat) (f : Frame) (late : Bool) : List W32 :=
  let a := f.stats
  let k := 4 * n + i
  let zw := 2 * (s.imgWidth n / 64)
  let zh := 2 * (s.imgHeight n / 48)
  let cnt := fun j => BitVec.ofNat 32 (SMap.get (fun _ => 0) a.cnt j)
  [BitVec.ofNat 32 (2 ^ 28 + n * 2 ^ 16 + i * 2 ^ 12 + a.embTrunc.toNat * 32 + a.sat.toNat * 16 + late.toNat * 8 + f.carried.toNat * 4 +
     f.cut.isSome.toNat * 2 + f.admitted.toNat),
   f.num,
   BitVec.ofNat 32 (f.tag.toNat * 2 ^ 16 + f.csi.toNat),
   f.fsTime.setWidth 32, (f.fsTime >>> 32).setWidth 32, f.feTime.setWidth 32, (f.feTime >>> 32).setWidth 32,
   BitVec.ofNat 32 ((match f.cut with
     | some (_, c) => c
     | none => 0) * 2 ^ 16 + f.lines),
   BitVec.ofNat 32 a.defects,
   BitVec.ofNat 32 (zh * 2 ^ 20 + zw * 2 ^ 8 + s.rdF Pg.STAT Off.STAT.STAT_CFG 20 16 k),
   BitVec.ofNat 32 a.emb.length, cnt 0, cnt 1, cnt 2, cnt 3]

/-- Zone mean of a channel (R65). -/
def Stats.mean (a : Stats) (z ch : Nat) : W32 :=
  let n := SMap.get (fun _ => 0) a.zcnt (4 * z + ch)
  if n = 0 then 0x80000000 else BitVec.ofInt 32 (rdiv (16 * SMap.get (fun _ => 0) a.zsum (4 * z + ch)) n)

/-- A record from offset 4 on (Table 3.5). -/
def State.statBytes (s : State) (n i : Nat) (f : Frame) (late : Bool) : List Byte :=
  let a := f.stats
  wordBytes (s.statHead n i f late) ++ List.replicate 0xC0 0 ++
  ((List.range 1024).flatMap fun j => leBytes 3 (SMap.get (fun _ => 0) a.hist j)) ++
  a.emb ++ List.replicate (768 - a.emb.length) 0 ++
  wordBytes ((List.range 768).flatMap fun z => (List.range 4).map (a.mean z))

/-- A record is written to its ring, SEQ last, and its tally added to (R303). -/
def State.writeStat (s : State) (n i : Nat) (f : Frame) : State :=
  let k := 4 * n + i
  let late := f.late || (s.port n).lateFor.contains f.num
  let seq := s.rd Pg.STAT Off.STAT.STAT_SEQ k
  let a := s.statBase k + 0x4000 * (seq.toNat % max 1 (s.statDepth k))
  let s := (s.store (a + 4) ((s.statBytes n i f late).map some)).1
  let s := (s.store a ((leBytes 4 seq.toNat).map some)).1
  let s := (s.wr Pg.STAT Off.STAT.STAT_SEQ (seq + 1) k).bump Pg.STAT Off.STAT.REC_CNT
  let u := unitIdOf 2 s.devId 0
  let s := if !f.admitted ∨ f.cut.isSome then s.raise Pg.STAT 0 ST.DROPPED_FRAME u k else s
  let s := if f.stats.sat then s.raise Pg.STAT 1 ST.OK u k else s
  let cfg := s.rd Pg.STAT Off.STAT.STAT_CFG k
  if bit cfg 30 then s.tallyDo .stat (fld cfg 13 0) false 1 else s

/-- The oldest frame of a stream whose record is due: it has ended or been cut, and its lines have been taken in. -/
def Stream.due (st : Stream) : Option Frame :=
  st.frames.reverse.find? fun f => (f.ended || f.cut.isSome) && f.statEn && !f.recorded && !(st.rx.any fun l => l.frame == f.num)

/-- STAT_RECORD_WRITE (R67): after frame end or cut, the frame's statistics record is written to its ring and the statistics tally is added. -/
def execStatRecordWrite (port : Fin 24) (stream : Fin 4) (s : State) : Out :=
  .next (match ((s.port port).stream stream).due with
    | none => s
    | some f =>
      let s := if s.rdB Pg.STAT Off.STAT.STAT_CFG 31 (4 * port.val + stream.val) then s.writeStat port stream f else s
      (s.modPort port fun p => p.modStream stream fun st => st.modFrame f.num fun x => { x with recorded := true }).pruneFrames port stream)

/-! ## FSYNC (R42) -/

/-- One trigger of a port (R42): a pulse, or a longer one that is counted, whether or not FS_EN drives the pin. -/
def State.trigger (s : State) (n : Nat) : State :=
  let s := if (s.port n).fsyncEnd.isSome then s.count (Pg.SP n) Off.HDR.EVENT_CNT else s
  s.modPort n fun p => { p with fsyncEnd := some (s.now + BitVec.ofNat 64 (s.rdF (Pg.SP n) Off.SP.FSYNC_CTRL 15 0)) }

/-- FSYNC_PULSE_END (R42): a pulse ends after WIDTH rig-time periods. -/
def execFsyncPulseEnd (port : Fin 24) (t : W64) (s : State) : Out :=
  .next (s.atTime t fun s => match (s.port port).fsyncEnd with
    | some e => if e ≤ s.now then s.modPort port fun p => { p with fsyncEnd := none } else s
    | none => s)

/-- Level of pin FSYNCn (R42): inactive while FS_EN is 0. -/
def State.fsyncPin (s : State) (n : Nat) : Bool :=
  ((s.port n).fsyncEnd.isSome && s.rdB (Pg.SP n) Off.SP.FSYNC_CTRL 31) != s.rdB (Pg.SP n) Off.SP.FSYNC_CTRL 30

end Sys2Proof.Machine
end

