-- ==== Sys2Proof/Machine/CfgOps.lean ====
section
/-! DEFINITION. COMMIT and REVERT of a configuration set (R329, R333 to R336). -/
namespace Sys2Proof.Machine

/-- A CFG command or entry is refused: CODE (Table 18.8). -/
def State.cfgCode (s : State) (code : Nat) : State := s.wrF Pg.CFG Off.CFG.CFG_STATE 23 16 code

/-- A CFG command is refused by a register write. -/
def State.cfgRefuse (s : State) (code : Nat) : State :=
  (s.cfgCode code).logState Pg.CFG code (unitIdOf 2 s.devId 0) Off.CFG.CFG_CMD

/-- A COMMIT or REVERT is refused: FAULT_SUM bit 1 too (R339). -/
def State.cfgEntryRefuse (s : State) (code : Nat) (v : W32) : State :=
  (s.cfgCode code).raise Pg.CFG 1 code (unitIdOf 2 s.devId 0) v.toNat

/-- Version of a set that may be missing: 0 (R337). -/
def cfgVer (c : Option CfgSet) : W32 := (c.map (·.version)).getD 0

/-- SWAP on every core in IDLE, RUN or OUT. -/
def State.swapCores (s : State) : State :=
  (List.range 32).foldl (fun s c => if (s.core c).st = .off then s else s.requestSwap c) s

/-- A COMMIT or REVERT is accepted: APPLYING, its time and count, the swaps of cores and of the ports given. -/
def State.startApply (s : State) (ports : List Nat) : State :=
  let s := { s with mgmt := { s.mgmt with cfg := .applying } }
  let s := (s.wr Pg.CFG Off.CFG.APPLY_TIME_LO (s.now.setWidth 32)).wr Pg.CFG Off.CFG.APPLY_TIME_HI ((s.now >>> 32).setWidth 32)
  let s := (s.bump Pg.CFG Off.CFG.APPLY_CNT).swapCores
  ports.foldl (fun s n => s.requestTables n) s

/-- COMMIT (R334): the staged set becomes active. -/
def State.cfgCommit (s : State) (v : W32) : State :=
  if s.mcAway ∨ s.mgmt.cfg ≠ .staged then s.cfgEntryRefuse ST.STATE v
  else if v ≠ cfgVer s.mgmt.staged then s.cfgEntryRefuse ST.VERSION v
  else
    ({ s with mgmt := { s.mgmt with prev := s.mgmt.active, active := s.mgmt.staged, staged := none, prevValid := true } }).startApply
      s.mgmt.covered

/-- Ports whose standby copy still holds the tables of a version (R335). -/
def State.portsHolding (s : State) (v : W32) : List Nat :=
  (List.range 24).filter fun n => decide ((s.port n).stby.ver = some v)

/-- REVERT (R335): the previous set becomes active again. -/
def State.cfgRevert (s : State) (v : W32) : State :=
  if s.mcAway ∨ s.mgmt.cfg ≠ .idle ∨ !s.mgmt.prevValid then s.cfgEntryRefuse ST.STATE v
  else if v ≠ cfgVer s.mgmt.prev ∨ (cfgVer s.mgmt.prev).toNat < s.mram.setFloor.toNat then s.cfgEntryRefuse ST.VERSION v
  else
    ({ s with mgmt := { s.mgmt with prev := s.mgmt.active, active := s.mgmt.prev } }).startApply (s.portsHolding (cfgVer s.mgmt.prev))

/-- Every swap that a COMMIT or REVERT requested has taken effect (R334). -/
def State.applied (s : State) : Bool :=
  (s.cores.all fun k => !k.swap) &&
  s.ports.all fun p => !p.swapPend || p.stby.ver != s.mgmt.active.map (·.version)

/-- CFG_APPLY_COMPLETE (R334): the state returns to IDLE and the boot record is rewritten: its slots take the roles of the sets. -/
def execCfgApplyComplete (s : State) : Out :=
  .next (if s.mgmt.cfg = .applying ∧ s.applied then
    let b := s.flash.boot
    let b := if b.setStaged.isSome then { b with setActive := b.setStaged, setPrev := b.setActive, setStaged := none }
      else { b with setActive := b.setPrev, setPrev := b.setActive }
    { s with mgmt := { s.mgmt with cfg := .idle }, flash := { s.flash with boot := b } }
  else s)

end Sys2Proof.Machine
end

