-- ==== Sys2Proof/Machine/Control.lean ====
section
/-! DEFINITION. The control commands (R122 to R125): END, branches, loops and DRAIN. -/
namespace Sys2Proof.Machine

/-- The sequencer goes on at a program-relative word. -/
def Core.goto (k : Core) (w : Nat) : Core := { k with pc := w }

/-- Conditions of BC (Table 6.10). Codes 0b110 and 0b111 are reserved and fail the load check. -/
def bcHolds (cond : Nat) (a b : W32) : Bool :=
  match cond with
  | 0 => a == b
  | 1 => a != b
  | 2 => a.slt b
  | 3 => !(a.slt b)
  | 4 => a.ult b
  | 5 => !(a.ult b)
  | _ => false

/-- An END marker in a queue. -/
def endMarker (c : Fin 32) (f : CtlF) (k : Core) (it : Item) (key : Nat) : QEntry := k.entryOf it (.endItem c f) key

/-- The entries an END leaves: a marker in each queue, the item read to its end, its OPEN windows CLOSING (R122, R171); the
core is at a program boundary (R101). -/
def Core.endReading (k : Core) (c : Fin 32) (f : CtlF) (it : Item) (key : Nat) : Core :=
  let k' := { k with fq := k.fq ++ [endMarker c f k it key], xq := k.xq ++ [endMarker c f k it (key + 1)],
                     wq := k.wq ++ [endMarker c f k it (key + 2)], cur := none, loops := [], stalled := false }
  (k'.modItem it.key fun it => { it with phase := .ended }).closeWins it.key

/-- END (R122): ends the reading of the item; stalls under R95 while a queue is full. All three markers are placed in one step
(log entry 24); a marker with no earlier entry in its queue retires at once. -/
def execEndItem (core : Fin 32) (f : CtlF) (s : State) : Out :=
  .next (s.seqDo core (.endItem core f) fun s =>
    let k := s.core core
    match k.curItem with
    | none => s
    | some it =>
      if 32 ≤ k.fq.length ∨ 32 ≤ k.xq.length ∨ 32 ≤ k.wq.length then s.stall core
      else
        let s := { s with nextKey := s.nextKey + 3 }.modCore core fun k => k.endReading core f it s.nextKey
        ((s.settleQueue core .fq).settleQueue core .xq).settleQueue core .wq)

/-- BR (R123): continues at TARGET. -/
def execBr (core : Fin 32) (f : CtlF) (s : State) : Out :=
  .next (s.seqDo core (.br core f) fun s => s.modCore core fun k => k.goto f.target.toNat)

/-- BC (R123): continues at TARGET when the comparison holds, else at the next word. -/
def execBc (core : Fin 32) (f : CtlF) (s : State) : Out :=
  .next (s.seqDo core (.bc core f) fun s => s.modCore core fun k =>
    if bcHolds f.cond.toNat (k.s f.a.toNat) (if f.bi then f.imm else k.s f.b.toNat) then k.goto f.target.toNat else k.advance)

/-- Runs of a loop body (R124). -/
def loopCount (k : Core) (f : CtlF) : Nat := ceilShr (if f.bi then f.imm else k.s f.a.toNat) f.tsh.toNat

/-- LOOP (R124): enters a loop whose count is fixed at entry, or passes its body when the count is 0. -/
def execLoop (core : Fin 32) (f : CtlF) (s : State) : Out :=
  .next (s.seqDo core (.loop core f) fun s =>
    if loopCount (s.core core) f = 0 then s.modCore core fun k => k.goto (f.target.toNat + 1)
    else (s.soundReg core false f.idx.toNat).modCore core fun k =>
      { k.setS f.idx.toNat 0 with
        pc := k.pc + 1
        loops := { first := k.pc + 1, last := f.target.toNat, left := loopCount k f, i := 0, idx := f.idx.toNat } :: k.loops })

/-- Every entry the current item has placed in the queues of QM has retired (R125). -/
def Core.drained (k : Core) (qm : BitVec 3) : Bool :=
  match k.cur with
  | none => true
  | some key =>
    let none_ := fun (q : List QEntry) => !(q.any fun e => e.item == key)
    (!(qm.getLsbD 0) || none_ k.fq) && (!(qm.getLsbD 1) || none_ k.xq) && (!(qm.getLsbD 2) || none_ k.wq)

/-- DRAIN (R125): the sequencer stays at the command until the entries have retired. -/
def execDrain (core : Fin 32) (f : CtlF) (s : State) : Out :=
  .next (s.seqDo core (.drain core f) fun s =>
    if (s.core core).drained f.qm then s.modCore core Core.advance else s)

end Sys2Proof.Machine
end

