-- ==== Sys2Proof/Machine/JobCmds.lean ====
section
/-! DEFINITION. Command rings, the check round and the span table (R18, R20, R23, R24, R266, R267, R271, R306). -/
namespace Sys2Proof.Machine

/-! ## Rings -/

/-- RING_CTRL of ring n has EN = 1. -/
def State.ringEn (s : State) (n : Nat) : Bool := s.rdB (Pg.HC (ringHost n)) (ringOff Off.HC.RING_CTRL0 n) 31

/-- A doorbell write of ring n is refused and logged; `which` is 0 for CMD_TAIL and 1 for CPL_HEAD (Table 14.7, log entry 64). -/
def State.bellRefuse (s : State) (n which : Nat) : State :=
  (s.wr (Pg.DB n) Off.DB.CODE (BitVec.ofNat 32 (ST.STATE * 2 ^ 24 + which))).logState (Pg.HC (ringHost n)) ST.STATE (unitIdOf 2 s.devId 0)
    (n * 16 + which)

/-- A CMD_TAIL write (R266). -/
def State.tailWrite (s : State) (n : Nat) (v : W32) : State :=
  if !(s.ringEn n) ∨ 2048 < (v - s.rd (Pg.DB n) Off.DB.CMD_HEAD).toNat then
    (s.bellRefuse n 0).bump (Pg.HC (ringHost n)) (ringOff Off.HC.CMD_REFUSE0 n)
  else s.wr (Pg.DB n) Off.DB.CMD_TAIL v

/-- Channel address of the doorbell block of a ring (Table 14.7). -/
def bellAddr (n : Nat) : Nat := 0x010FF000 + 0x40 * (n % 4)


/-- A CPL_HEAD write (R267): records released, and records that wait let in. -/
def State.headWrite (s : State) (n : Nat) (v : W32) : State :=
  if 2048 < (s.rd (Pg.DB n) Off.DB.CPL_TAIL - v).toNat then s.bellRefuse n 1
  else (s.wr (Pg.DB n) Off.DB.CPL_HEAD v).drainRecs n

/-- A doorbell write that reaches the pins of its channel (R266): ignored unless the channel is in RUN (R257), and behind the control
writes of the channel that wait. -/
def State.bellWrite (s : State) (n off : Nat) (v : W32) (f : State → State) : State :=
  let k := s.chan (ringHost n)
  if k.st ≠ .run then s
  else if k.ctl.isEmpty then f s
  else s.modChan (ringHost n) fun k => { k with ctl := k.ctl ++ [(bellAddr n + off, (leBytes 4 v.toNat).map some)] }

/-- CMD_TAIL_WRITE (R266): the host posts descriptors. -/
def execCmdTailWrite (ring : Fin 16) (v : W32) (s : State) : Out :=
  .next (s.bellWrite ring Off.DB.CMD_TAIL v fun s => s.tailWrite ring v)

/-- CPL_HEAD_WRITE (R267): the host releases completion records. -/
def execCplHeadWrite (ring : Fin 16) (v : W32) (s : State) : Out :=
  .next (s.bellWrite ring Off.DB.CPL_HEAD v fun s => s.headWrite ring v)

/-- Offset in ring SRAM of slot i of command ring n (Table 14.5). -/
def slotOff (n i : Nat) : Nat := n % 4 * 0x20000 + 64 * (i % 2048)

/-- A word of the slot is uncorrectable. -/
def State.slotBad (s : State) (n i : Nat) : Bool :=
  let a := ringHost n * 0x100000 + slotOff n i
  s.ue.any fun e => match e with
    | .ringMem w => decide (a / 4 ≤ w ∧ w < a / 4 + 16)
    | _ => false

/-- A job taken by this device: its check round is still to come. -/
def State.newJob (s : State) (d : List W32) (src : JobSrc) (only : Option (List Nat)) (refused : Bool) : State :=
  let j : Job := { key := s.nextKey, desc := d, src := src, ph := .taken, only := only, refusedFrame := refused, members := [],
                   local_ := none, quanta := [], fail := none, done := 0, failed := 0, lines := 0 }
  { s with nextKey := s.nextKey + 1, jobs := s.jobs ++ [j] }

/-- The record of a descriptor whose slot holds an uncorrectable word (R306). -/
def State.slotRefused (s : State) (n i : Nat) : State :=
  let ones : List W32 := [0, 0, 0xFFFFFFFF, 0xFFFFFFFF]
  let s := (s.bump Pg.DEV Off.DEV.REFUSE_CNT).bump Pg.DEV Off.DEV.REC_CNT
  let s := s.raise Pg.DEV 1 ST.BAD_DESC (unitIdOf 2 s.devId 0) (i % 2048)
  s.produce n (recWords ones ST.BAD_DESC (unitIdOf 2 s.devId 0) 0 0xFFFF 0 0 0 true false (i % 2048))

/-- The next posted descriptor of ring n is read (R266). -/
def State.takeDescriptor (s : State) (n : Nat) : State :=
  let h := s.rd (Pg.DB n) Off.DB.CMD_HEAD
  if s.ringEn n ∧ h ≠ s.rd (Pg.DB n) Off.DB.CMD_TAIL then
    let s := s.wr (Pg.DB n) Off.DB.CMD_HEAD (h + 1)
    if s.slotBad n h.toNat then s.slotRefused n h.toNat
    else s.newJob (words32 (s.ringBytes (ringHost n) (slotOff n h.toNat) 64)) (.ring n) none false
  else s

/-- DESCRIPTOR_TAKE (R266): the device reads the next posted descriptor of a ring and advances CMD_HEAD. -/
def execDescriptorTake (ring : Fin 16) (s : State) : Out := .next (s.takeDescriptor ring)

/-! ## The check round -/

/-- CHECK_ROUND (R18): every unit that could execute part of the job applies the dispatch checks. -/
def execCheckRound (job : Nat) (s : State) : Out :=
  .next (match s.job job with
    | some j => if j.ph = .taken then s.checkJob job else s
    | none => s)

/-! ## The span table -/

/-- A write to span entry e is refused (Table 1.8). -/
def State.spanRefuse (s : State) (e code : Nat) : State :=
  (s.wr Pg.SPAN0 Off.SPAN.SPAN_ERR (BitVec.ofNat 32 (code * 2 ^ 24 + e))).logState Pg.SPAN0 code (unitIdOf 3 s.devId e) Off.SPAN.SPAN_ERR

/-- A write that sets VALID of entry e takes effect (R24). -/
def State.spanGood (s : State) (e : Nat) (v : W32) : Bool :=
  decide (1 ≤ spanLevel v ∧ spanLevel v ≤ 8 ∧ 1 ≤ spanNmemb v ∧ spanNmemb v ≤ 14) &&
  (List.range (spanNmemb v)).all fun i =>
    let u := fld (s.spanMemb e i) 23 0
    unitNamed u && (decide (unitKind u ≠ 3 ∨ unitDev u ≠ s.devId) ||
      (spanValid (s.spanHdr (unitIdx u)) && decide (spanLevel (s.spanHdr (unitIdx u)) < spanLevel v)))

/-- A SPAN_HDR write (R23, R24). -/
def State.spanHdrWrite (s : State) (e : Nat) (v : W32) : State :=
  let p := Pg.SPAN e
  let o := spanOff e Off.SPAN.SPAN_HDR
  if spanValid v then
    if spanValid (s.spanHdr e) then s.spanRefuse e ST.STATE
    else if s.spanGood e v then s.wrMasked p o v
    else s.spanRefuse e ST.BAD_DESC
  else s.wrMasked p o v

/-- SPAN_HDR_WRITE (R24): a write to a span entry's header. -/
def execSpanHdrWrite (_src : Agent) (entry : Fin 240) (v : W32) (s : State) : Out := .next (s.spanHdrWrite entry v)

/-- A SPAN_MEMB write (R23). -/
def State.spanMembWrite (s : State) (e i : Nat) (v : W32) : State :=
  if spanValid (s.spanHdr e) then s.spanRefuse e ST.STATE
  else s.wr (Pg.SPAN e) (spanOff e (Off.SPAN.SPAN_MEMB0 + 4 * i)) v

/-- SPAN_MEMB_WRITE (R23): a write to a span member register, refused while the entry is valid. -/
def execSpanMembWrite (_src : Agent) (entry : Fin 240) (memb : Fin 14) (v : W32) (s : State) : Out :=
  .next (s.spanMembWrite entry memb v)

end Sys2Proof.Machine
end

