-- ==== Sys2Proof/Machine/TimeOps.lean ====
section
/-! DEFINITION. Rig time (R47 to R54): states, loads, offsets, one reference period. -/
namespace Sys2Proof.Machine

def State.setRig (s : State) (f : Rig → Rig) : State := { s with rig := f s.rig }

/-- An armed entry whose TIME came after `from_` and is not above rig time fell due while the table could not fire (R53). -/
def LEntry.missed (from_ now : W64) (x : LEntry) : LEntry :=
  if x.armed ∧ from_ < x.time ∧ x.time ≤ now then { x with lateDue := true } else x

/-- Rig time may change its state: where launches stop, the count is kept; where they go on, the entries that fell due meanwhile are late
(R53). -/
def State.rigTo (s : State) (f : Rig → Rig) : State :=
  let r := f s.rig
  if s.rig.st.fires = r.st.fires then { s with rig := r }
  else if r.st.fires then
    { s with rig := r, launch := { s.launch with entries := s.launch.entries.map fun e => (e.1, e.2.missed r.stopAt r.t) } }
  else { s with rig := { r with stopAt := s.rig.t } }

/-- ROOT of TIME_CTRL. -/
def State.root (s : State) : Bool := s.rdB Pg.LCH Off.LCH.TIME_CTRL 31

/-- The PLL has locked: the root is in SYNC, another device awaits the first upstream time (Table 3.1). -/
def State.rootSync (s : State) : State := if s.rig.st = .locking ∧ s.root then s.rigTo fun r => { r with st := .sync } else s

/-- REFERENCE_LOCK (R49): the reference PLL locks and rig time moves on from FREE or HOLDOVER; at the first lock the count begins (R50). -/
def execReferenceLock (s : State) : Out :=
  .next ((if s.rig.st = .free ∨ s.rig.st = .holdover then s.rigTo fun r => { r with st := .locking, counting := true } else s).rootSync)

/-- REFERENCE_LOST (R49): no reference edge for 1 µs moves rig time to HOLDOVER. -/
def execReferenceLost (s : State) : Out :=
  .next (if s.rig.st = .sync ∨ s.rig.st = .slew then s.setRig fun r => { r with st := .holdover, holdStart := r.t, slew := 0 } else s)

/-- Holdover limit in periods: HOLD_MAX ms (R53). -/
def State.holdMax (s : State) : Nat := s.rdF Pg.LCH Off.LCH.TIME_CTRL 7 0 * 100000

/-- HOLDOVER_EXPIRY (R53): HOLD_MAX ms in HOLDOVER moves rig time to FREE; LCH FAULT_SUM bit 1. -/
def execHoldoverExpiry (t : W64) (s : State) : Out :=
  .next (s.atTime t fun s =>
    if s.rig.st = .holdover ∧ s.rig.holdStart.toNat + s.holdMax ≤ s.now.toNat then
      (s.rigTo fun r => { r with st := .free }).raise Pg.LCH 1 ST.STATE (unitIdOf 2 s.devId 0) 0
    else s)

/-- The value of TIME_LOAD_HI:TIME_LOAD_LO. -/
def State.loadTime (s : State) : W64 := (s.rd Pg.LCH Off.LCH.TIME_LOAD_HI) ++ (s.rd Pg.LCH Off.LCH.TIME_LOAD_LO)

/-- A value is loaded (R50): taken at once at or above the present count, else the count is held until a count from there reaches it. -/
def Rig.takeLoad (r : Rig) (v : W64) : Rig :=
  if r.t ≤ v then { r with t := v, hold := none, load := none } else { r with hold := some v, load := none }

/-- TIME_CTRL.LOAD (R50): refused while the table fires or on a device that is not the root. -/
def State.timeLoad (s : State) : State :=
  if s.rdB Pg.LCH Off.LCH.LCH_CTRL 31 ∨ !s.root then s.logEvent Pg.LCH ST.STATE (unitIdOf 2 s.devId 0) 0x100
  else s.setRig fun r => { r with load := some s.loadTime }

/-- TIME_LOAD (R50): TIME_CTRL.LOAD loads TIME_LOAD into rig time on the root at the next period boundary, never setting it back. -/
def execTimeLoad (s : State) : Out := .next s.timeLoad

/-- A write of TIME_CTRL. -/
def State.timeCtrlWrite (s : State) (v : W32) : State :=
  let s := (s.wrMasked Pg.LCH Off.LCH.TIME_CTRL v).rootSync
  if bit v 16 then s.timeLoad else s

/-- RIG_TIME_LO read (R54, R263): the low word, and the high word captured: for a host channel in its own place. -/
def State.rigRead (s : State) (src : Agent) : State :=
  let hi : W32 := (s.now >>> 32).setWidth 32
  let s := { s with out := [s.now.setWidth 32] }
  match src with
  | .host ch => s.modChan ch fun k => { k with capHi := hi }
  | .mc => s.wr Pg.LCH Off.LCH.RIG_TIME_HI hi

/-- RIG_TIME_LO_READ (R54): a read of RIG_TIME_LO returns the low word and captures the high word. -/
def execRigTimeLoRead (src : Agent) (s : State) : Out := .next (s.rigRead src)

/-! ## Offsets (R52) -/

/-- 2 ns in 1/256 period, rounded down: an offset of at most this is within alignment. -/
abbrev alignTicks : Int := 51

/-- State of rig time that an offset of e (1/256 period) leaves, applied `frac` of a period past the count: a step moves the fraction too, a
hold waits for the upstream time. An offset of -1 µs to 0 that comes during a hold ends the hold and slews: DESIGN CHOICE (log entry 67). -/
def Rig.applyOffset (r : Rig) (frac : Nat) (e : Int) : Rig :=
  let up : Int := (256 * r.t.toNat + frac : Nat) + e
  if 0 < e then
    { r with t := BitVec.ofInt 64 (up / 256), frac := (up % 256).toNat, hold := none, st := .sync, slew := 0 }
  else if e < -25600 then
    { r with hold := some (BitVec.ofInt 64 (up / 256)), frac := (up % 256).toNat, st := .slew, slew := 0 }
  else if e < -alignTicks then { r with hold := none, st := .slew, slew := (-e).toNat }
  else { r with hold := none, st := .sync, slew := 0 }

/-- An offset in ns, as OFFSET shows it: 16 bits, signed (Table 3.6). Rounding down to whole ns and saturation: DESIGN CHOICE (log entry
67). -/
def offsetNs (e : Int) : W16 := BitVec.ofInt 16 (sat ((e * 10).fdiv 256) (-32768) 32767)

/-- The device applies an offset of e in 1/256 period, `frac` of a period past the count (R52): each step or hold of more than 2 ns is logged
with its size in ns. -/
def State.applyOffset (s : State) (frac : Nat) (e : Int) : State :=
  let s := if 0 < e ∨ e < -25600 then (if alignTicks < e ∨ e < -25600 then
      s.logEvent Pg.LCH ST.OK (unitIdOf 2 s.devId 0) (wrapTo 32 ((e * 10).fdiv 256)) else s) else s
  (s.rigTo fun r => r.applyOffset frac e).wrF Pg.LCH Off.LCH.TIME_STATE 15 0 (offsetNs e).toNat

/-- SLEW_OFFSET_REMOVED (R49): omitting increments has brought the offset within 2 ns, and the state becomes SYNC. -/
def execSlewOffsetRemoved (s : State) : Out :=
  .next (if s.rig.st = .slew ∧ s.rig.hold = none then s.setRig fun r => { r with st := .sync, slew := 0, slewDiv := 0 } else s)

/-- A held count goes on (R50, R52). -/
def Rig.endHold (r : Rig) : Rig := { r with hold := none, st := if r.st = .slew ∧ r.slew = 0 then .sync else r.st }

/-- RIG_TIME_HOLD_END (R52): a held count resumes advancing when the reference count reaches it. -/
def execRigTimeHoldEnd (s : State) : Out := .next (if s.rig.hold.isSome then s.setRig Rig.endHold else s)

/-! ## One reference period (log entry 12) -/

/-- One period of the rig reference, no load apart: the count advances by one (R48), stands while it is held (R50, R52), and omits one
increment in every 1,000 while an offset is being removed (R52). -/
def Rig.count (r : Rig) : Rig :=
  match r.hold with
  | some h => if r.t ≤ h + 1 then { r with hold := none }.endHold else { r with hold := some (h + 1) }
  | none =>
    if r.st = .slew ∧ r.slew ≠ 0 then
      if r.slewDiv + 1 < 1000 then { r with t := r.t + 1, slewDiv := r.slewDiv + 1 }
      else
        let left := r.slew - 256
        { r with slewDiv := 0, slew := left, st := if (left : Int) ≤ alignTicks then .sync else .slew }
    else { r with t := r.t + 1 }

/-- A period boundary: the count, then the value that LOAD asked for (R50). -/
def Rig.tick (r : Rig) : Rig :=
  if !r.counting then r
  else match r.load with
  | some v => r.count.takeLoad v
  | none => r.count

/-- What a step does with no command waiting. -/
def State.tick (s : State) : State := s.setRig Rig.tick

end Sys2Proof.Machine
end

