-- ==== Sys2Proof/Machine/Launch.lean ====
section
/-! DEFINITION. The launch table (R55 to R60), exposure requests (R62, R63), the descriptor store (R59, R373). -/
namespace Sys2Proof.Machine

def State.entry (s : State) (e : Nat) : LEntry := SMap.get (fun _ => {}) s.launch.entries e
def State.setEntry (s : State) (e : Nat) (x : LEntry) : State :=
  { s with launch := { s.launch with entries := SMap.set (fun _ => {}) s.launch.entries e x } }
def State.modEntry (s : State) (e : Nat) (f : LEntry → LEntry) : State := s.setEntry e (f (s.entry e))

/-! ## ENT_CMD (R55, R58) -/

/-- Bits of ARG0 and of ARG1 that Table 3.3 names for an action. -/
def argMasks (act : Nat) : W32 × W32 :=
  match act with
  | 1 => (0xFFFFFF, 0)
  | 2 => (0xFFFFFF, 0)
  | 3 => (0xFFFFFF, 0x1F)
  | 4 => (0x0F1FFF, 0)
  | 5 => (0x3, 0xFFFFFFFF)
  | 6 => (0xFFFFFF, 0)
  | 7 => (0xC03FFF, 0xFFFFFFFF)
  | 8 => (0xC03FFF, 0xFFFFFFFF)
  | 9 => (0x1FF, 0)
  | _ => (0, 0)

/-- ENT_CMD WRITE is refused with BAD_DESC (R58). -/
def LEntry.bad (x : LEntry) : Bool :=
  let a0 : W32 := BitVec.ofNat 32 x.arg0
  decide (9 < x.act) || decide (a0 &&& ~~~(argMasks x.act).1 ≠ 0) || decide (x.arg1 &&& ~~~(argMasks x.act).2 ≠ 0) ||
  (decide (x.act = 7 ∨ x.act = 8) && decide (2 ≤ fld a0 23 22)) ||
  (decide (x.act = 5) && decide (fld a0 1 0 = 0 ∨ fld a0 1 0 = 3)) ||
  decide (x.den ≠ 0 ∧ x.den ≤ x.num) || decide (x.den = 0 ∧ x.num ≠ 0)

/-- The staging registers as an entry, disarmed and with acc at 0 (R57). -/
def State.staged (s : State) : LEntry :=
  let r := s.rd Pg.LCH
  { time := r Off.LCH.ENT_TIME_HI ++ r Off.LCH.ENT_TIME_LO, act := fld (r Off.LCH.ENT_ACT) 31 28, latePol := bit (r Off.LCH.ENT_ACT) 27,
    ffp := bit (r Off.LCH.ENT_ACT) 26, arg0 := fld (r Off.LCH.ENT_ACT) 23 0, arg1 := r Off.LCH.ENT_ARG, period := r Off.LCH.ENT_PERIOD,
    num := fld (r Off.LCH.ENT_REPEAT) 31 24, den := fld (r Off.LCH.ENT_REPEAT) 23 16, count := fld (r Off.LCH.ENT_REPEAT) 15 0,
    armed := false, acc := 0 }

/-- An entry copied into the staging registers. -/
def State.toStaging (s : State) (x : LEntry) : State :=
  let s := (s.wr Pg.LCH Off.LCH.ENT_TIME_LO (x.time.setWidth 32)).wr Pg.LCH Off.LCH.ENT_TIME_HI ((x.time >>> 32).setWidth 32)
  let s := s.wr Pg.LCH Off.LCH.ENT_ACT (BitVec.ofNat 32 (x.act * 2 ^ 28 + x.latePol.toNat * 2 ^ 27 + x.ffp.toNat * 2 ^ 26 + x.arg0))
  let s := (s.wr Pg.LCH Off.LCH.ENT_ARG x.arg1).wr Pg.LCH Off.LCH.ENT_PERIOD x.period
  s.wr Pg.LCH Off.LCH.ENT_REPEAT (BitVec.ofNat 32 (x.num * 2 ^ 24 + x.den * 2 ^ 16 + x.count))

/-- The selected entry, and the status of the last ENT_CMD. -/
def State.entIdx (s : State) : Nat := s.rdF Pg.LCH Off.LCH.ENT_IDX 7 0
def State.entCode (s : State) (code : Nat) : State :=
  (s.wrF Pg.LCH Off.LCH.ENT_CMD 23 16 code).logState Pg.LCH code (unitIdOf 2 s.devId 0) Off.LCH.ENT_CMD

/-- ENT_CMD READ. -/
def State.entRead (s : State) : State := (s.toStaging (s.entry s.entIdx)).entCode ST.OK

/-- ENT_CMD WRITE: validated, refused on an armed entry. Which code a WRITE to an armed entry answers when its staging is bad as well R58 does
not say: BAD_DESC, DESIGN CHOICE (log entry 67). -/
def State.entWrite (s : State) : State :=
  if s.staged.bad then s.entCode ST.BAD_DESC
  else if (s.entry s.entIdx).armed then s.entCode ST.STATE
  else ({ s with ue := s.ue.filter fun e => e ≠ EccLoc.entry s.entIdx }.setEntry s.entIdx s.staged).entCode ST.OK

/-- An entry is armed or disarmed: no effect on one that is already so (R58); one armed past its TIME while the table cannot fire falls due
then (R53). -/
def LEntry.arm (x : LEntry) (b : Bool) (r : Rig) : LEntry :=
  if x.armed = b then x else { x with armed := b, begun := false, lateDue := b && !r.st.fires && decide (x.time ≤ r.t) }

/-- ENT_CMD ARM and DISARM. -/
def State.entArm (s : State) (b : Bool) : State := (s.modEntry s.entIdx fun x => x.arm b s.rig).entCode ST.OK

/-- ENT_READ (R55): copies the selected launch entry into the staging registers. -/
def execEntRead (s : State) : Out := .next s.entRead
/-- ENT_WRITE (R58): validates the staging registers and copies them into an unarmed entry. -/
def execEntWrite (s : State) : Out := .next s.entWrite
/-- ENT_ARM (R58): makes the selected entry live. -/
def execEntArm (s : State) : Out := .next (s.entArm true)
/-- ENT_DISARM (R58): stops the selected entry. -/
def execEntDisarm (s : State) : Out := .next (s.entArm false)

/-- A write of ENT_CMD; 0 is no command (R375). -/
def State.entCmd (s : State) (cmd : Nat) : State :=
  match cmd with
  | 0 => s
  | 1 => s.entRead
  | 2 => s.entWrite
  | 3 => s.entArm true
  | 4 => s.entArm false
  | _ => s.entCode ST.BAD_DESC

/-! ## Repeats (R57) -/

/-- An entry whose repeat has been applied k times, no COUNT ending it: TIME has moved on by k times PERIOD + NUM/DEN. -/
def LEntry.after (x : LEntry) (k : Nat) : LEntry :=
  let frac := if x.den = 0 then 0 else x.acc + k * x.num
  { x with time := x.time + BitVec.ofNat 64 (k * x.period.toNat + (if x.den = 0 then 0 else frac / x.den)),
           acc := if x.den = 0 then x.acc else frac % x.den, count := x.count - k }

/-- Applications of the repeat until TIME + 100 is not below rig time, at least one. -/
def LEntry.catchUp (x : LEntry) (now : W64) : Nat :=
  let d := if x.den = 0 then 1 else x.den
  let gap := (now.toNat - 100 - x.time.toNat) * d
  max 1 (ceilDiv (gap - (if x.den = 0 then 0 else x.acc)) (x.period.toNat * d + (if x.den = 0 then 0 else x.num)))

/-- The repeat after a firing or a skip, and the repeats it counts in SKIP_CNT (R57). -/
def LEntry.repeat_ (x : LEntry) (now : W64) : LEntry × Nat :=
  let x := { x with lateDue := false, begun := false }
  if x.period = 0 ∨ x.count = 1 then ({ x with armed := false }, 0)
  else
    let k := x.catchUp now
    if x.count ≠ 0 ∧ x.count ≤ k then ({ x.after (x.count - 1) with armed := false }, x.count - 1)
    else (x.after k, k - 1)

/-! ## Firing (R49, R53, R56) -/

/-- The table fires: EN, and rig time in SYNC, SLEW or HOLDOVER. -/
def State.fires (s : State) : Bool := s.rdB Pg.LCH Off.LCH.LCH_CTRL 31 && s.rig.st.fires

/-- An entry is due. -/
def State.due (s : State) (e : Nat) : Bool := (s.entry e).armed && decide ((s.entry e).time ≤ s.now)

/-- No entry that falls due at the same rig time comes before it. -/
def State.firstDue (s : State) (e : Nat) : Bool :=
  (List.range e).all fun i => !(s.due i && (s.entry i).time == (s.entry e).time)

/-- The entry or the slot it would dispatch holds an uncorrectable word (R306). -/
def State.entryBad (s : State) (e : Nat) : Bool :=
  let x := s.entry e
  s.ue.contains (.entry e) ||
  (decide (x.act = 4) && (List.range 16).any fun i => s.ue.contains (.descSlot (16 * (x.arg0 % 256) + i)))

/-- The firing of an entry that begins now is late (R53, R56). -/
def LEntry.isLate (x : LEntry) (now : W64) : Bool := x.lateDue || decide (x.time.toNat + 100 < now.toNat)

/-- Entry e, whose action `ok` tests, fires at time t: its action `act`, or a skip, then its repeat; a late one is counted. -/
def State.fire (s : State) (e : Nat) (t : W64) (ok : LEntry → Bool) (act : LEntry → State → State) : State :=
  s.atTime t fun s =>
    let x := s.entry e
    if !(s.fires && s.due e && s.firstDue e && ok x) then s
    else if s.entryBad e then
      (s.setEntry e { x with armed := false }).logEvent Pg.LCH ST.ECC_UNCORR (unitIdOf 2 s.devId 0) e
    else
      let late := x.isLate s.now
      let r := x.repeat_ s.now
      let s := s.setEntry e r.1
      let s := if r.2 = 0 then s else s.bump Pg.LCH Off.LCH.SKIP_CNT r.2
      if late ∧ x.latePol then s.bump Pg.LCH Off.LCH.SKIP_CNT
      else
        let s := s.bump Pg.LCH Off.LCH.FIRE_CNT
        act x (if late then s.bump Pg.LCH Off.LCH.LATE_CNT else s)

/-- An action on each port of a mask, ascending. -/
def onPorts (mask : Nat) (f : State → Nat → State) (s : State) : State :=
  (List.range 24).foldl (fun s n => if mask.testBit n then f s n else s) s

/-- LAUNCH_NONE (R56): fires with no action and applies its repeat. -/
def execLaunchNone (entry : Fin 256) (t : W64) (s : State) : Out := .next (s.fire entry t (fun x => x.act == 0) fun _ s => s)

/-- LAUNCH_TRIGGER (R60): one FSYNC pulse on each masked port. -/
def execLaunchTrigger (entry : Fin 256) (t : W64) (s : State) : Out :=
  .next (s.fire entry t (fun x => x.act == 1) fun x s => onPorts x.arg0 State.trigger s)

/-- STALE of a port counts discarded requests (R63). The 16-bit field saturates at 0xFFFF: DESIGN CHOICE (log entry 67). -/
def State.stale (s : State) (n k : Nat) : State :=
  s.wrF Pg.LCH Off.LCH.EXP_STATE 31 16 (min (s.rdF Pg.LCH Off.LCH.EXP_STATE 31 16 n + k) 0xFFFF) n

/-- The exposure write of a port for frame N + L (R63): on a port in STREAM only. The last frame written, which R62 tests a push against, is
the last whose write was issued: DESIGN CHOICE (log entry 67). -/
def State.exposePort (s : State) (n : Nat) : State :=
  if (s.port n).st ≠ .stream then s.portRefuse n ST.STATE
  else
    let q := (s.port n).expQ
    let f := (s.port n).next + BitVec.ofNat 32 (s.latency n)
    let old := q.filter fun r => serialLe r.frame f && r.frame != f
    let s := s.stale n old.length
    let s := s.modPort n fun p => { p with expQ := q.filter fun r => !serialLe r.frame f }
    match q.find? fun r => r.frame == f with
    | none => s
    | some r =>
      let idle := (s.port n).expOut.isEmpty
      let s := s.modPort n fun p =>
        { p with expOut := p.expOut ++ [({ r with writes := (p.profile.map fun x => expWrites x r.vals).getD [] }, 0)], expLast := some f }
      if idle then (s.modBus (busOf n) fun b => { b with exps := b.exps ++ [n] }).busNext (busOf n) else s

/-- LAUNCH_EXPOSURE (R63): writes each masked streaming port's queued request for frame N + L to its sensor. -/
def execLaunchExposure (entry : Fin 256) (t : W64) (s : State) : Out :=
  .next (s.fire entry t (fun x => x.act == 2) fun x s => onPorts x.arg0 State.exposePort s)

/-- A PORT_CMD entry that issues START. -/
def LEntry.starts (x : LEntry) : Bool := x.act == 3 && fld x.arg1 3 0 == 2

/-- The frame number that a PORT_CMD entry loads (R61). -/
def State.loadOf (s : State) (x : LEntry) : Option W32 := if bit x.arg1 4 then some (s.rd Pg.LCH Off.LCH.FRAME_LOAD) else none

/-- The entries after e whose STARTs take effect at the same rig time as its own: due with the same TIME, and not to be skipped. -/
def State.startPeers (s : State) (e : Nat) (x : LEntry) : List Nat :=
  (List.range 256).filter fun i =>
    let y := s.entry i
    decide (e < i) && s.due i && y.starts && y.time == x.time && !y.begun && !(y.isLate s.now && y.latePol) && !s.entryBad i

/-- STARTs that take effect at the same rig time are handled in ascending port number, those of one port in entry order (R34). -/
def State.startAll (s : State) (x : LEntry) (peers : List Nat) : State :=
  let xs := x :: peers.map s.entry
  let s := (List.range 24).foldl (fun s n => xs.foldl (fun s y => if y.arg0.testBit n then s.portCmd n 2 (s.loadOf y) else s) s) s
  peers.foldl (fun s i => s.modEntry i fun y => { y with begun := true }) s

/-- The port command of an entry: STARTs with those of the other entries due at the same rig time, unless they were handled already. -/
def State.portCmds (s : State) (e : Nat) (x : LEntry) : State :=
  if x.begun then s
  else if x.starts then s.startAll x (s.startPeers e x)
  else onPorts x.arg0 (fun s n => s.portCmd n (fld x.arg1 3 0) (s.loadOf x)) s

/-- LAUNCH_PORT_CMD (R58): issues its port command, with optional frame load, to each masked port. -/
def execLaunchPortCmd (entry : Fin 256) (t : W64) (s : State) : Out :=
  .next (s.fire entry t (fun x => x.act == 3) fun x s => s.portCmds entry x)

/-- Word w of the descriptor store, and the descriptor of a slot. -/
def State.descWord (s : State) (w : Nat) : W32 := SMap.get (fun _ => 0) s.launch.desc w
def State.descSlot (s : State) (k : Nat) : List W32 := (List.range 16).map fun i => s.descWord (16 * k + i)

/-- A DISPATCH entry posts a copy of its slot's descriptor (R59). -/
def State.dispatchEntry (s : State) (x : LEntry) : State :=
  let a0 : W32 := BitVec.ofNat 32 x.arg0
  let d := s.descSlot (fld a0 7 0)
  let n := fld a0 12 8
  let ring := fld a0 19 16
  if x.ffp then
    if n < 24 then
      s.newJob ((d.set 8 (s.port n).next).set 2 (s.port n).next) (.launch ring) none (decide ((s.port n).st ≠ .stream))
    else s.newJob d (.launch ring) none true
  else s.newJob d (.launch ring) none false

/-- LAUNCH_DISPATCH (R59): posts a copy of its stored descriptor, with the port's frame number when asked. -/
def execLaunchDispatch (entry : Fin 256) (t : W64) (s : State) : Out :=
  .next (s.fire entry t (fun x => x.act == 4) fun x s => s.dispatchEntry x)

/-- LAUNCH_COMMIT (R334): makes the staged set active and requests swaps on cores and covered ports. -/
def execLaunchCommit (entry : Fin 256) (t : W64) (s : State) : Out :=
  .next (s.fire entry t (fun x => x.act == 5 && decide (x.arg0 % 4 = 1)) fun x s => s.cfgCommit x.arg1)

/-- LAUNCH_REVERT (R335): exchanges active and previous sets and requests the swaps. -/
def execLaunchRevert (entry : Fin 256) (t : W64) (s : State) : Out :=
  .next (s.fire entry t (fun x => x.act == 5 && decide (x.arg0 % 4 = 2)) fun x s => s.cfgRevert x.arg1)

/-- LAUNCH_TBL_SWAP (R44): requests a table swap on each masked port. -/
def execLaunchTblSwap (entry : Fin 256) (t : W64) (s : State) : Out :=
  .next (s.fire entry t (fun x => x.act == 6) fun x s => onPorts x.arg0 State.tblSwap s)

/-- Operation and tally of a TALLY or WATCH entry. -/
def LEntry.top (x : LEntry) : Nat := x.arg0 / 2 ^ 22 % 4
def LEntry.tally (x : LEntry) : Nat := x.arg0 % 16384

/-- LAUNCH_TALLY_SET (R146): sets a local tally. -/
def execLaunchTallySet (entry : Fin 256) (t : W64) (s : State) : Out :=
  .next (s.fire entry t (fun x => x.act == 7 && x.top == 0) fun x s => s.tallyDo .launch x.tally true x.arg1)

/-- LAUNCH_TALLY_ADD (R146): adds to a local tally. -/
def execLaunchTallyAdd (entry : Fin 256) (t : W64) (s : State) : Out :=
  .next (s.fire entry t (fun x => x.act == 7 && x.top == 1) fun x s => s.tallyDo .launch x.tally false x.arg1)

/-- A WATCH entry reads its tally once (R147); unmet, it raises event WATCH. -/
def State.watch (s : State) (x : LEntry) (eq : Bool) : State :=
  if condHolds eq (s.tally x.tally) x.arg1 then s
  else s.raise Pg.LCH 0 ST.OK (unitIdOf 2 s.devId 0) x.tally x.arg1.toNat

/-- LAUNCH_WATCH_GE (R147): raises event WATCH when the tally is not at least the value. -/
def execLaunchWatchGe (entry : Fin 256) (t : W64) (s : State) : Out :=
  .next (s.fire entry t (fun x => x.act == 8 && x.top == 0) fun x s => s.watch x false)

/-- LAUNCH_WATCH_EQ (R147): raises event WATCH when the tally does not equal the value. -/
def execLaunchWatchEq (entry : Fin 256) (t : W64) (s : State) : Out :=
  .next (s.fire entry t (fun x => x.act == 8 && x.top == 1) fun x s => s.watch x true)

/-- LAUNCH_ARM (R58): arms another entry before the next firing. -/
def execLaunchArm (entry : Fin 256) (t : W64) (s : State) : Out :=
  .next (s.fire entry t (fun x => x.act == 9 && x.arg0.testBit 8) fun x s => s.modEntry (x.arg0 % 256) fun y => y.arm true s.rig)

/-- LAUNCH_DISARM (R58): disarms another entry before the next firing. -/
def execLaunchDisarm (entry : Fin 256) (t : W64) (s : State) : Out :=
  .next (s.fire entry t (fun x => x.act == 9 && !x.arg0.testBit 8) fun x s => s.modEntry (x.arg0 % 256) fun y => y.arm false s.rig)

/-! ## Exposure requests (R62) -/

/-- Status of the last push of a port. -/
def State.pushCode (s : State) (n code : Nat) : State :=
  (s.wrF Pg.LCH Off.LCH.EXP_CMD 23 16 code n).logState Pg.LCH code (unitIdOf 2 s.devId 0) Off.LCH.EXP_CMD

/-- EXP_CMD.PUSH for the port of EXP_SEL. -/
def State.expPush (s : State) : State :=
  let n := s.rdF Pg.LCH Off.LCH.EXP_SEL 4 0
  let r := fun o => s.rd Pg.LCH o n
  let f := r Off.LCH.EXP_FRAME
  let q : ExpReq := { frame := f, tag := (r Off.LCH.EXP_TAG).setWidth 16,
                      vals := [r Off.LCH.EXP_VAL0, r (Off.LCH.EXP_VAL0 + 4), r (Off.LCH.EXP_VAL0 + 8), r (Off.LCH.EXP_VAL0 + 12)] }
  if 24 ≤ n then s.pushCode n ST.BAD_DESC
  else
    let p := s.port n
    if (p.expLast.map (serialLe f)).getD false then s.pushCode n ST.STATE
    else if p.expQ.any fun x => x.frame == f then
      (s.modPort n fun p => { p with expQ := modFirst (fun x => x.frame == f) (fun _ => q) p.expQ }).pushCode n ST.OK
    else if 8 ≤ p.expQ.length then s.pushCode n ST.CAPACITY
    else (s.modPort n fun p => { p with expQ := p.expQ ++ [q] }).pushCode n ST.OK

/-- EXP_PUSH (R62): queues or replaces an exposure request for a frame of the selected port. -/
def execExpPush (s : State) : Out := .next s.expPush

/-! ## The descriptor store (R59, R373) -/

def State.descSel (s : State) : Nat := s.rdF Pg.LCH Off.LCH.DESC_SEL 11 0
def State.descNext (s : State) : State := s.wrF Pg.LCH Off.LCH.DESC_SEL 11 0 ((s.descSel + 1) % 4096)

/-- A DESC_DATA write: the word is stored and WORD moves on. -/
def State.descWrite (s : State) (v : W32) : State :=
  ({ s with launch := { s.launch with desc := SMap.set (fun _ => 0) s.launch.desc s.descSel v },
            ue := s.ue.filter fun e => e ≠ EccLoc.descSlot s.descSel }).descNext

/-- DESC_DATA_WRITE (R59): stores a descriptor-store word and advances DESC_SEL. -/
def execDescDataWrite (_src : Agent) (v : W32) (s : State) : Out := .next (s.descWrite v)

/-- DESC_DATA_READ (R373): a management-controller read returns the word and advances DESC_SEL. -/
def execDescDataRead (s : State) : Out := .next { s.descNext with out := [s.descWord s.descSel] }

end Sys2Proof.Machine
end

