-- ==== Sys2Proof/Machine/MemOps.lean ====
section
/-! DEFINITION. The memory channels: address map, tracking, refresh, patrol scrub, the MEM page (R244, R245, R250, R252). -/
namespace Sys2Proof.Machine

/-- Channel k is fitted and the region is there (R240, Table 19.7). -/
def State.chanFitted (s : State) (k : Nat) : Bool := (s.fitted).testBit (k / 4) && decide (s.memTop ≠ 0)

/-- The local address of channel address c on channel k: the inverse of R245. -/
def State.localOf (s : State) (k c : Nat) : Nat :=
  if s.fitted = 3 then
    let a := c / 2 ^ 8 * 2 ^ 11 + c % 2 ^ 8
    a + ((k ^^^ (a / 2 ^ 13 % 8) ^^^ (a / 2 ^ 18 % 8)) % 8) * 2 ^ 8
  else
    let a := c / 2 ^ 8 * 2 ^ 10 + c % 2 ^ 8
    a + ((k % 4 ^^^ (a / 2 ^ 12 % 4) ^^^ (a / 2 ^ 16 % 4)) % 4) * 2 ^ 8

/-- Data size D of a channel (R245). -/
def State.chanSize (s : State) : Nat := s.memTop / (if s.fitted = 3 then 8 else 4)

/-- Column byte and bank of a channel address (R246). -/
def chanColumn (c : Nat) : Nat := c % 2 ^ 11
def chanBank (c : Nat) : Nat := (c / 2 ^ 11 % 16) ^^^ (c / 2 ^ 15 % 16)

/-- Bank-group mode: four groups of four banks at 4266 MT/s and above; 16 banks below (Table 13.1). -/
def State.bankGroups (s : State) : Bool := decide (4266 ≤ s.rdF Pg.MEM Off.MEM.MEM_CFG 15 0)

/-- Bank group of a channel address: bank bits [3:2], in bank-group mode (R246). -/
def State.chanGroup (s : State) (c : Nat) : Option Nat := if s.bankGroups then some (chanBank c / 4) else none

/-- Bytes of a channel's parts, check bytes among them. -/
def State.chanBytes (s : State) : Nat := 2 ^ 30 * 2 ^ s.rdF Pg.MEM Off.MEM.MEM_CFG 25 24

/-- Rank of a channel address: its top bit where channel k has two ranks (R246). -/
def State.chanRank (s : State) (k c : Nat) : Nat := if (s.memChans.getD k {}).twoRanks then c / (s.chanBytes / 2) % 2 else 0

/-- Row of a channel address, in its rank (R246). -/
def State.chanRow (s : State) (k c : Nat) : Nat :=
  (if (s.memChans.getD k {}).twoRanks then c % (s.chanBytes / 2) else c) / 2 ^ 15

/-- Channel address of the check byte of the word at channel address c (R247). -/
def State.checkByte (s : State) (c : Nat) : Nat := s.chanSize + c / 4

/-- Rig-time periods of 100 ms. -/
abbrev trackPeriod : Nat := 10000000

/-- 100 ms of rig time have passed since the channel last tracked. -/
def State.trackDue (s : State) (k : Nat) : Bool :=
  match (s.memChans.getD k {}).trackAt with
  | some t => decide (t.toNat + trackPeriod ≤ s.now.toNat)
  | none => true

/-- MEM_TRACKING (R244): every 100 ms a channel reads its WCK2DQ oscillators, which call for its trims to stand at `want`, latches ZQ and
moves them there. A correction that would pass the end of the range stops at it, sets bit 2 of FAULT_SUM and is logged. -/
def execMemTracking (chan : Fin 8) (want : Int) (s : State) : Out :=
  .next (if s.chanFitted chan ∧ s.trackDue chan then
    let n : Int := Config.trimRange chan
    let s := s.modMem chan fun k => { k with trackAt := some s.now, moved := max (-n) (min n want) }
    if want < -n ∨ n < want then s.raise Pg.MEM 2 ST.OK (unitIdOf 2 s.devId 0) chan
    else (s.modMem chan fun k => { k with track := satInc k.track }).bump Pg.MEM Off.MEM.TRACK_CNT
  else s)

/-- MEM_REFRESH (R244): a per-bank refresh at the rate that MR4, read with it, gives. It changes no data. -/
def execMemRefresh (read : RefreshRead) (s : State) : Out :=
  .next (if s.chanFitted read.chan then s.modMem read.chan fun k => { k with refresh := k.refresh + 1, mr4 := read.mr4 } else s)

/-- Bank that the next per-bank refresh of a channel takes: one after another, in each rank. -/
def State.refreshBank (s : State) (k : Nat) : Nat := (s.memChans.getD k {}).refresh % 16

/-- An uncorrectable word that the scrubber finds: counted, its address recorded, MEM FAULT_SUM bit 1. -/
def State.scrubUe (s : State) (w : Nat) : State :=
  (((s.chanErr (4 * w) true).bump Pg.MEM Off.MEM.ECC_UE_CNT).faultAddr Pg.MEM (4 * w)).raise Pg.MEM 1 ST.ECC_UNCORR (unitIdOf 2 s.devId 0) 0 (4 * w)

/-- The period of the scrubber in rig-time periods. -/
def State.scrubPass (s : State) : Nat := s.rdF Pg.MEM Off.MEM.SCRUB_CTRL 15 0 * 100000000

/-- Sectors of a channel. -/
def State.chanSectors (s : State) : Nat := (s.chanSize + 31) / 32

/-- The scrubber has read every data sector of every channel in its pass (R250). -/
def State.scrubDone (s : State) : Bool :=
  (List.range 8).all fun k => !(s.chanFitted k) || decide (s.chanSectors ≤ (s.memChans.getD k {}).scrub)

/-- A pass begins with the first sector read. -/
def State.scrubBegin (s : State) : State :=
  if (List.range 8).all fun k => decide ((s.memChans.getD k {}).scrub = 0) then { s with memPass := { since := s.now } } else s

/-- A pass still under way after its period is counted once (at the first sector read after that: log entry 56). -/
def State.scrubLate (s : State) : State :=
  if !s.memPass.late ∧ s.later s.memPass.since s.scrubPass then
    { s with memPass := { s.memPass with late := true } }.bump Pg.MEM Off.MEM.SCRUB_LATE_CNT
  else s

/-- The next pass starts when all channels are through. -/
def State.scrubEnd (s : State) : State :=
  if s.scrubDone then { s with memChans := s.memChans.map fun k => { k with scrub := 0 } } else s

/-- The scrubber reads and corrects the next data sector of a channel. -/
def State.scrubSector (s : State) (k : Nat) : State :=
  let s := s.scrubBegin.scrubLate
  let i := (s.memChans.getD k {}).scrub
  if i < s.chanSectors then
    let a := s.localOf k (32 * i)
    let s := (s.ueWords a 32).foldl State.scrubUe (s.correct a 32)
    (s.modMem k fun m => { m with scrub := i + 1 }).scrubEnd
  else s

/-- A write of SCRUB_CTRL of the MEM page: PASS 0 is refused with BAD_DESC. -/
def State.memScrubWrite (s : State) (v : W32) : State :=
  if fld v 15 0 = 0 then s.logEvent Pg.MEM ST.BAD_DESC (unitIdOf 2 s.devId 0) 0x110 else s.wrMasked Pg.MEM Off.MEM.SCRUB_CTRL v

/-- A write of TRAIN_CTRL: FORCE_FULL lives in MRAM (R252). -/
def State.trainCtrlWrite (s : State) (v : W32) : State := { s with mram := { s.mram with forceFull := bit v 31 } }

end Sys2Proof.Machine
end

