-- ==== Sys2Proof/Machine/HostOps.lean ====
section
/-! DEFINITION. The host channels: states, mode registers, settings, HP_CFG (R254 to R259, R268, R270). -/
namespace Sys2Proof.Machine

/-- Cone k of the last firing passed (Table 19.6). -/
def State.cone (s : State) (k : Nat) : Bool := bit s.power.cones k

/-- HP_READY is driven high (R256). -/
def State.hpReady (s : State) : Bool := s.cone 2 && s.rdB Pg.HP Off.HP.HP_CFG 31 && s.domainOn 39

/-- Channel h is fitted (R253). -/
def State.hostFitted (s : State) (h : Nat) : Bool := s.rdB Pg.HP Off.HP.HP_CFG (24 + h)

/-- Mode registers and settings of a channel at their defaults (R256). -/
def Chan.fresh (k : Chan) (st : HcSt) : Chan := { k with st := st, mr := [], mode := ({} : Chan).mode, fifo := [] }

/-- Channels enter WAIT where HP_READY is high, and OFF where it is not (R257); control writes whose bursts have ended still apply while the
domain is on (R270). -/
def State.hostUp (s : State) : State :=
  (List.range 4).foldl (fun s h =>
    if s.hpReady ∧ s.hostFitted h then s.modChan h fun k => if k.st = .off then k.fresh .wait else k
    else s.modChan h fun k =>
      let k := if k.st = .off then k else k.fresh .off
      { k with ctl := if s.domainOn 39 then k.ctl else [] }) s

/-- A write to HP_CFG or VMR_CFG is refused (R270). -/
def State.hpRefuse (s : State) (off : Nat) : State := s.logState Pg.HP ST.STATE (unitIdOf 2 s.devId 0) off

/-- HP_READY is held low by a failed HOST_PHY cone: HP FAULT_SUM bit 0 (14_host_port.md, HP register page). -/
def State.hpHeld (s : State) : State :=
  if s.rdB Pg.HP Off.HP.HP_CFG 31 ∧ s.power.fired ∧ !(s.cone 2) then s.raise Pg.HP 0 ST.STATE (unitIdOf 2 s.devId 0) 2 else s

/-- A write to HP_CFG (R270). -/
def State.hpCfgWrite (s : State) (v : W32) : State :=
  if s.rdB Pg.HP Off.HP.HP_CFG 31 ∧ bit v 31 then s.hpRefuse 0x100 else (s.wrMasked Pg.HP Off.HP.HP_CFG v).hostUp.hpHeld

/-- HP_CFG_WRITE (R270): refused while EN is 1 unless it clears EN; clearing EN takes the channels to OFF. -/
def execHpCfgWrite (_src : Agent) (v : W32) (s : State) : Out := .next (s.hpCfgWrite v)

/-- A write to VMR_CFG (R270). -/
def State.vmrCfgWrite (s : State) (v : W32) : State :=
  if s.rdB Pg.HP Off.HP.HP_CFG 31 then s.hpRefuse 0x108 else s.wrMasked Pg.HP Off.HP.VMR_CFG v

/-- HCn_RESET_n low (R256): the channel returns to WAIT with its mode registers at their defaults. -/
def execHcReset (ch : Fin 4) (s : State) : Out :=
  .next (s.modChan ch fun k => if k.st = .off then k else k.fresh .wait)

/-! ## Mode registers (R254, R255) -/

/-- Least RL in tCK of a rate code (Table 14.3). -/
def leastRl (rate : Nat) : Nat := [10, 14, 18, 20, 24, 27].getD rate 27

/-- RL_LOW: the programmed RL is below the least (R255); until one is programmed it is not (DESIGN CHOICE, log entry 65). -/
def rlLow (m : HcMode) : Bool := decide (0 < m.rl.toNat ∧ m.rl.toNat < leastRl m.rate.toNat)

/-- Place of a mode register among VMR0 to VMR3 (Table 14.2). -/
def State.vmrOf (s : State) (mr : Nat) : Option Nat :=
  let a := s.rdF Pg.HP Off.HP.VMR_CFG 6 0
  if a ≤ mr ∧ mr < a + 4 then some (mr - a) else none

/-- Read-only registers: MR5 to MR8 and the vendor registers, and those that the standard makes read-only (PRESUMED, log entry 65). -/
def State.mrReadOnly (s : State) (mr : Nat) : Bool :=
  decide (5 ≤ mr ∧ mr ≤ 8) || (s.vmrOf mr).isSome || [0, 4, 27, 35, 36, 38, 39, 43, 44, 45].contains mr || decide (47 ≤ mr ∧ mr ≤ 54)

/-- Value of a vendor mode register of channel h (Table 14.2). -/
def State.vmr (s : State) (h i : Nat) : Byte :=
  match i with
  | 0 => if s.rdB Pg.HP Off.HP.HP_CFG 30 then 0x3F else 0x0F
  | 1 => 0x7F
  | 2 => 0x19
  | _ => BitVec.ofNat 8 (0xB0 + h)

/-- Value that a mode-register read of channel h returns (R254): MR8 with the standard's codes of 4 Gb, x16 and the type (PRESUMED, log
entry 65); where only the standard defines it, what was written, else a free value. -/
def State.mrValue (s : State) (h mr : Nat) : Byte :=
  let cfg := s.rd Pg.HP Off.HP.HP_CFG
  if mr = 5 then BitVec.ofNat 8 (fld cfg 23 16)
  else if mr = 6 then BitVec.ofNat 8 (fld cfg 15 8)
  else if mr = 7 then BitVec.ofNat 8 (fld cfg 7 0)
  else if mr = 8 then BitVec.ofNat 8 (0x08 + (bit cfg 30).toNat)
  else match s.vmrOf mr with
    | some i => s.vmr h i
    | none => match SMap.find (s.chan h).mr mr with
      | some v => v
      | none => Config.standardMr h mr

/-- A channel takes mode-register commands. -/
def Chan.takesMr (k : Chan) : Bool := k.st == .wait || k.st == .train || k.st == .run

/-- Writes ignored, partial control words and unsupported commands are counted (Table 14.11). -/
def State.ignored (s : State) (h : Nat) : State := s.bump (Pg.HC h) Off.HC.IGNORED_CNT

/-- MODE_REGISTER_WRITE (R255): takes effect after tMRW; writes to read-only registers are ignored and counted. `eff` is the settings in
force after it. RL_LOW newly set is FAULT_SUM bit 3. -/
def execModeRegisterWrite (ch : Fin 4) (mr : BitVec 7) (v : Byte) (eff : HcMode) (s : State) : Out :=
  .next (if !(s.chan ch).takesMr then s
  else if s.mrReadOnly mr.toNat then s.ignored ch
  else
    let low := !(rlLow (s.chan ch).mode) && rlLow eff
    let s := s.modChan ch fun k => { k with mr := SMap.put k.mr mr.toNat v, mode := eff }
    if low then s.raise (Pg.HC ch) 3 ST.STATE (unitIdOf 2 s.devId 0) ch else s)

/-- MODE_REGISTER_READ (R254): returns standard values, HP_CFG values or the vendor registers. -/
def execModeRegisterRead (ch : Fin 4) (mr : BitVec 7) (s : State) : Out :=
  .next (if (s.chan ch).takesMr then { s with out := [(s.mrValue ch mr.toNat).setWidth 32] } else s)

/-! ## Commands with no effect, and states (R257 to R259) -/

/-- HOST_REFRESH (R258): a refresh or refresh-management command is accepted and counted. -/
def execHostRefresh (ch : Fin 4) (s : State) : Out := .next (if (s.chan ch).st = .off then s else s.bump (Pg.HC ch) Off.HC.REF_CNT)

/-- HOST_ACTIVATE (R259): accepted with no effect. -/
def execHostActivate (_ch : Fin 4) (s : State) : Out := .next s

/-- HOST_PRECHARGE (R259): accepted with no effect. -/
def execHostPrecharge (_ch : Fin 4) (s : State) : Out := .next s

/-- A channel in one of some states goes to another. -/
def Chan.go (k : Chan) (src : List HcSt) (dst : HcSt) : Chan := if src.contains k.st then { k with st := dst } else k

/-- SELF_REFRESH_ENTRY (R258): the channel enters SREF while the device keeps running. -/
def execSelfRefreshEntry (ch : Fin 4) (s : State) : Out := .next (s.modChan ch fun k => k.go [.run, .pdn] .sref)

/-- SELF_REFRESH_EXIT (R258). -/
def execSelfRefreshExit (ch : Fin 4) (s : State) : Out := .next (s.modChan ch fun k => k.go [.sref] .run)

/-- POWER_DOWN_ENTRY (R258): the channel enters PDN. -/
def execPowerDownEntry (ch : Fin 4) (s : State) : Out := .next (s.modChan ch fun k => k.go [.run] .pdn)

/-- POWER_DOWN_EXIT (R258). -/
def execPowerDownExit (ch : Fin 4) (s : State) : Out := .next (s.modChan ch fun k => k.go [.pdn] .run)

/-- DEEP_SLEEP_ENTRY (R258): treated as self-refresh entry and counted. -/
def execDeepSleepEntry (ch : Fin 4) (s : State) : Out :=
  .next (if (s.chan ch).st = .off then s else (s.ignored ch).modChan ch fun k => k.go [.run, .pdn] .sref)

/-- HOST_TRAINING_ENTRY (R257): the channel goes to TRAIN, from WAIT or at any time in RUN; entries are counted. -/
def execHostTrainingEntry (ch : Fin 4) (s : State) : Out :=
  .next (if (s.chan ch).st = .wait ∨ (s.chan ch).st = .run then
    (s.modChan ch fun k => { k with st := .train, fifo := [] }).bump (Pg.HC ch) Off.HC.TRAIN_CNT
  else s)

/-- HOST_TRAINING_EXIT (R257): the channel returns to operation. -/
def execHostTrainingExit (ch : Fin 4) (s : State) : Out := .next (s.modChan ch fun k => k.go [.train] .run)

/-! ## HP_INT (R268) -/

/-- Rings with unreleased records. -/
def State.ringsPending (s : State) : Nat :=
  ((List.range 16).map fun n => if s.rd (Pg.DB n) Off.DB.CPL_TAIL ≠ s.rd (Pg.DB n) Off.DB.CPL_HEAD then 2 ^ n else 0).sum

/-- HP_INT is active. -/
def State.hpInt (s : State) : Bool :=
  s.rdB Pg.HP Off.HP.INT_CTRL 31 && decide (s.ringsPending &&& s.rdF Pg.HP Off.HP.INT_CTRL 15 0 ≠ 0)

end Sys2Proof.Machine
end

