-- ==== Sys2Proof/Machine/ItemEvents.lean ====
section
/-! DEFINITION. Work items starting and completing (R26, R94, R99, R117), bank swaps (R101, R102), the set-ahead scoreboard and the
wait limit (R156, R157). -/
namespace Sys2Proof.Machine

/-! ## Item start -/

/-- Register values at the start of an item (Table 5.4). -/
def startS (it : Item) : List W32 :=
  let d := it.desc
  let s1 := it.quantum * descStripeH d
  [BitVec.ofNat 32 it.quantum, BitVec.ofNat 32 s1, BitVec.ofNat 32 (quantumLines d it.quantum), descFrame d] ++
  (List.range 8).map (fun k => BitVec.ofNat 32 (descShape d k)) ++
  [BitVec.ofNat 32 (descTallyBase d), BitVec.ofNat 32 (descStripeH d), 0, 0]

def startA (dev c : Nat) (it : Item) : List W48 :=
  [descBase it.desc 0, descBase it.desc 1, descBase it.desc 2, BitVec.ofNat 48 (dev * 2 ^ 39 + spBase + c * 0x400000),
   BitVec.ofNat 48 (dev * 2 ^ 39 + wsBase + c * 0x80000), 0, 0, 0]

/-- An item stands before another in the order of R26: class, then when its quantum became ready. -/
def Item.before (a b : Item) : Bool :=
  match a.ready, b.ready with
  | some x, some y => decide (descClass a.desc < descClass b.desc) || (decide (descClass a.desc = descClass b.desc) && decide (x.1 < y.1))
  | _, _ => false

/-- The first of some items in the order of R26. -/
def firstItem : List Item → Option Item
  | [] => none
  | x :: xs => match firstItem xs with
    | none => some x
    | some y => if y.before x then some y else some x

/-- The item the sequencer starts next (R26): ready, not failed, accepted for the bank that is active (R102). -/
def Core.nextItem (k : Core) : Option Item :=
  firstItem (k.items.filter fun it => it.phase == .accepted && it.ready.isSome && it.fail.isNone && !(k.swap && decide (k.swapKey ≤ it.key)) &&
    !(k.entriesOf k.active (descProgram it.desc)).isEmpty)

/-- Started items stand before accepted ones, in the order of their start (R99). -/
def Core.startItem (k : Core) (dev c : Nat) (it : Item) (h : List W32) (word : Nat) (t : W64) : Core :=
  let it := { it with phase := .running, start := t, hdr := h, prog := word }
  let rest := k.items.filter fun x => x.key ≠ it.key
  { k with items := rest.filter (fun x => x.phase != .accepted) ++ [it] ++ rest.filter (fun x => x.phase == .accepted),
           sreg := startS it, areg := startA dev c it, cur := some it.key, pc := 4 + hdrNlayer h, loops := [], seqWait := none,
           stalled := false }

/-- The private tallies of an item on core c are set to 0 (R117). -/
def State.resetPrivate (s : State) (c : Nat) (it : Item) : State :=
  (List.range (hdrNpriv it.hdr)).foldl (fun s i => s.tallyDo (.start c) (it.tally c (hdrNshared it.hdr + i)) true 0) s

/-- A wait of `n` periods on core c enters the largest wait since the last control step (R318). -/
def State.lagSeen (s : State) (c n : Nat) : State :=
  if s.mgmt.lag < n then { s with mgmt := { s.mgmt with lag := n, lagCore := c } } else s

/-- ITEM_START (R94): a pending swap takes effect at the boundary, then the next item starts with the registers of Table 5.4. -/
def execItemStart (core : Fin 32) (s : State) : Out :=
  .next (if !s.coreIn core ∨ (s.core core).cur ≠ none then s
    else
      let s := s.trySwap core
      let k := s.core core
      match k.nextItem with
      | none => s
      | some it =>
        let w := match (k.entriesOf k.active (descProgram it.desc)).head? with
          | some e => dirHdr (k.dirLo k.active e)
          | none => 0
        let it := { it with hdr := k.header k.active w }
        let s := match it.ready with
          | some (_, t) => s.lagSeen core (s.now - t).toNat
          | none => s
        let s := { s with ue := s.ue.filter fun u => match u with
          | .sreg c _ | .areg c _ => c != core
          | _ => true }
        ((s.modCore core fun k => (k.startItem s.devId core it it.hdr w s.now).settle).resetPrivate core it).acceptHeld core)

/-- ITEM_COMPLETE (R99): the first item that the core started ends once it is over: its record is written or absorbed. -/
def execItemComplete (core : Fin 32) (s : State) : Out :=
  .next (match (s.core core).ending (s.itemOver core) with
    | some it => match it.fail with
      | some (code, detail) => s.finishItem core it code detail
      | none => s.finishItem core it ST.OK 0
    | none => s)

/-- BANK_SWAP (R101): a pending swap takes effect where the core is at a program boundary and R102 does not hold it back. -/
def execBankSwap (core : Fin 32) (s : State) : Out := .next (s.trySwap core)

/-! ## The set-ahead scoreboard (R156) -/

/-- A tally is the arrival tally of a window that is not CLOSED: the scoreboard takes it as shared (R150). -/
def Core.arrivalTally (k : Core) (t : Nat) : Bool := k.wins.any fun w => w.st != .closed && w.tally == some t

/-- A blocked agent: its item, its wait, and the entries behind its head. -/
structure BlockedAgent where
  item : Item
  wait : WaitAt
  behind : List QEntry

/-- A wait is blocked: on a tally private to its item, and not released. -/
def Core.blockedOn (k : Core) (c : Nat) (it : Item) (w : WaitReg) : Bool :=
  !w.released && it.private_ c w.tally && !(k.arrivalTally w.tally)

/-- The sequencer as a blocked agent. -/
def Core.seqAgent (k : Core) (c : Nat) : Option BlockedAgent :=
  match k.curItem, k.seqWait with
  | some it, some w => if k.blockedOn c it w then some ⟨it, { q := 0, slot := 0, tally := w.tally, word := k.pc }, []⟩ else none
  | _, _ => none

/-- A queue as a blocked agent: a blocked wait stands at its head. -/
def Core.queueAgent (k : Core) (c : Nat) (q : Queue) : Option BlockedAgent :=
  match k.q q with
  | e :: r => match e.wait, k.item e.item with
    | some w, some it => if e.st = .queued ∧ k.blockedOn c it w then some ⟨it, { q := queueCode q, slot := 0, tally := w.tally, word := e.word }, r⟩ else none
    | _, _ => none
  | [] => none

/-- An update of tally t stands among some entries. -/
def Core.updates (k : Core) (dev c t : Nat) (es : List QEntry) : Bool :=
  es.any fun e => match e.upd, k.item e.item with
    | some (o, _, _, d), some it => decide (it.tally c o = t) && decide (d.getD dev = dev)
    | _, _ => false

/-- The sequencer can do nothing: it has passed END, or is held by a blocked T.WAIT, by DRAIN, or by a full queue. -/
def State.seqStuck (s : State) (c : Nat) : Bool :=
  let k := s.core c
  k.cur.isNone || (k.seqAgent c).isSome || (k.seqWait.isNone && (s.seqQueues c).any fun q => decide (32 ≤ (k.q q).length)) ||
  match s.seqCommand c with
  | some (.drain _ f) => k.seqWait.isNone && !(k.drained f.qm)
  | _ => false

/-- The deadlock that the scoreboard declares: KIND, item, waits A and B. -/
def State.scoreboard (s : State) (c : Nat) : Option (Nat × Item × WaitAt × Option WaitAt) :=
  let k := s.core c
  let qs := [Queue.fq, .xq, .wq]
  let agents := (k.seqAgent c).toList ++ qs.filterMap (k.queueAgent c)
  if s.seqStuck c ∧ (qs.all fun q => (k.q q).isEmpty || (k.queueAgent c q).isSome) ∧ !((k.fq ++ k.xq ++ k.wq).any fun e => e.st == .started) then
    match agents with
    | [] => none
    | a :: later =>
      match later.find? fun b => k.updates s.devId c a.wait.tally b.behind && k.updates s.devId c b.wait.tally a.behind with
      | some b => some (0, a.item, a.wait, some b.wait)
      | none => some (1, a.item, a.wait, none)
  else none

/-- SCOREBOARD_DEADLOCK (R156): the scoreboard of a core declares a deadlock where its rule's conditions hold. -/
def execScoreboardDeadlock (core : Fin 32) (s : State) : Out :=
  .next (if !s.coreIn core then s
    else match s.scoreboard core with
      | some (kind, it, a, b) => s.deadlock core it.key kind a b
      | none => s)

/-! ## The wait limit (R157) -/

/-- The wait of an agent, with its item and how it is reported. -/
def Core.waitOf (k : Core) (who : Waiter) : Option (Item × WaitReg × WaitAt) :=
  match who with
  | .seq => match k.curItem, k.seqWait with
    | some it, some w => some (it, w, { q := 0, slot := 0, tally := w.tally, word := k.pc })
    | _, _ => none
  | .queue q => match k.head q with
    | some e => match e.wait, k.item e.item with
      | some w, some it =>
        if w.released then none
        else some (it, w, { q := queueCode q, slot := (k.q q).findIdx fun x => x.key = e.key, tally := w.tally, word := e.word })
      | _, _ => none
    | none => none

/-- WAIT_LIMIT_EXPIRY (R157): a wait registered for more than WAIT_LIMIT periods fails its item with DEADLOCK, KIND 0b10. -/
def execWaitLimitExpiry (core : Fin 32) (who : Waiter) (t : W64) (s : State) : Out :=
  .next (s.atTime t fun s =>
    match (s.core core).waitOf who with
    | some (it, w, a) =>
      if s.later w.at_ (s.rd (Pg.TALLY w.tally) Off.TALLY.WAIT_LIMIT).toNat then
        (s.bump (Pg.TALLY w.tally) Off.TALLY.LIMIT_CNT).deadlock core it.key 2 a none
      else s
    | none => s)

/-! ## Glaze timeouts (R233, R237) -/

/-- A W.GLZ wait of an item that failed: its entry makes no update. -/
def State.glzDeadlock (s : State) (c : Nat) (e : QEntry) : State :=
  let slot := (s.core c).wq.findIdx fun x => x.key = e.key
  (s.modCore c fun k => k.modEntry .wq e.key fun e => { e with pend := [], noUpd := true }).deadlock c e.item 2
    { q := 3, slot := slot, tally := 0, word := e.word } none

/-- GLAZE_BAND_WAIT_TIMEOUT (R233): a W.GLZ that waited longer than C_HOLD for band space fails its item. -/
def execGlazeBandWaitTimeout (core : Fin 32) (t : W64) (s : State) : Out :=
  .next (s.atTime t fun s =>
    match (s.core core).head .wq with
    | some e => match e.op, e.held with
      | .wGlz _ f, some h =>
        if s.later h (s.glzCtx f.glz.toNat f.ctx.toNat).hold then s.glzDeadlock core e else s
      | _, _ => s
    | none => s)

/-- The first band of a core that has waited for its slot longer than C_HOLD: unit and band. -/
def State.lateBand (s : State) (c : Nat) : Option (Nat × Band) :=
  (List.range 8).findSome? fun g => ((s.glaze g).bands.find? fun b => b.core == c && !b.closed && match b.since with
    | some t0 => s.later t0 (s.glzCtx g b.ctx).hold
    | none => false).map fun b => (g, b)

/-- GLAZE_SLOT_HOLD_TIMEOUT (R237): a band that waited longer than C_HOLD for its slot takes it under OVR, or its item fails. -/
def execGlazeSlotHoldTimeout (core : Fin 32) (t : W64) (s : State) : Out :=
  .next (s.atTime t fun s =>
    match s.lateBand core with
    | some (g, b) =>
      if (s.glzCtx g b.ctx).ovr then s.trySlots g b true
      else match (s.core core).wq.find? fun e => e.key = b.opener with
        | some e => s.glzDeadlock core e
        | none => s.failItem core b.item ST.DEADLOCK (deadlockDetail 2 { q := 3, slot := 0, tally := 0, word := 0 } none)
    | none => s)

end Sys2Proof.Machine
end

