-- ==== Sys2Proof/Machine/LinkCmds.lean ====
section
/-! DEFINITION. Link ports: training, states, flits and link-level retry (R272 to R277, R285, R288, R290), routes and discovery (R282 to R284,
R291), time markers (R51, R52, R286). -/
namespace Sys2Proof.Machine

/-! ## Modes and levels (Table 15.1, R273) -/

/-- Rate code and lanes of a mode, in training order. -/
def linkMode (m : Nat) : Nat × Nat :=
  [(2, 4), (1, 4), (2, 2), (0, 4), (1, 2), (2, 1), (0, 2), (1, 1), (0, 1)].getD m (0, 1)

/-- The lanes that a mode uses of the common ones (R273): lanes 0 and 1 or else 2 and 3, the lowest lane. None where they do not suffice. -/
def modeLanes (common : BitVec 4) (n : Nat) : Option (BitVec 4) :=
  if n = 4 then (if common = 0xF then some 0xF else none)
  else if n = 2 then (if common &&& 3 = 3 then some 3 else if common &&& 0xC = 0xC then some 0xC else none)
  else if common.getLsbD 0 then some 1 else if common.getLsbD 1 then some 2 else if common.getLsbD 2 then some 4
  else if common.getLsbD 3 then some 8 else none

def State.dlCfg (s : State) (d : Nat) : W32 := s.rd (Pg.DL d) Off.DL.DL_CFG

/-- Level of the firmware in force (Table 18.4). -/
def State.fwLevel (s : State) : Nat := max 1 ((s.mgmt.image.getD 4 0).toNat)

/-- The level a port offers (R273): the lower of LVL_MAX and the firmware's. -/
def State.offered (s : State) (d : Nat) : Nat := min (fld (s.dlCfg d) 30 29) s.fwLevel

/-- Four lanes in the reverse order. -/
def revLanes (l : BitVec 4) : BitVec 4 := BitVec.ofNat 4 (8 * (l.getLsbD 0).toNat + 4 * (l.getLsbD 1).toNat + 2 * (l.getLsbD 2).toNat + (l.getLsbD 3).toNat)

/-- Lanes of port d that LANE_EN names, in the order that LANE_REV gives them (R273). -/
def State.ownLanes (s : State) (d : Nat) : BitVec 4 :=
  let l := BitVec.ofNat 4 (fld (s.dlCfg d) 26 23)
  if bit (s.dlCfg d) 22 then revLanes l else l

/-- Lanes of mode m on port d with a far end (R273), none where it is skipped. -/
def State.modeFits (s : State) (d : Nat) (far : FarCaps) (m : Nat) : Option (BitVec 4) :=
  if (linkMode m).1 ≤ fld (s.dlCfg d) 28 27 ∧ (linkMode m).1 ≤ far.rateMax.toNat then modeLanes (s.ownLanes d &&& far.laneEn) (linkMode m).2
  else none

/-- The first mode at or after m that is not skipped. -/
def State.nextLinkMode (s : State) (d : Nat) (far : FarCaps) (m : Nat) : Option Nat :=
  (List.range 9).find? fun i => decide (m ≤ i) && (s.modeFits d far i).isSome

/-- The port may train: EN, its domain on, the firing over and the port passed (R273, R349, Table 19.7). -/
def State.linkCanTrain (s : State) (d : Nat) : Bool :=
  bit (s.dlCfg d) 31 && s.domainOn 38 && s.power.fired &&
  (if h : d < 8 then !(s.power.failed.contains (.link ⟨d, h⟩)) else false)

/-! ## Routes (R282, R291) -/

/-- Device d has a usable route: VALID, or an alternate whose port is UP (R314). -/
def State.routeUsable (s : State) (d : Nat) : Bool := bit (s.route d) 31 || (bit (s.route d) 30 && s.linkUp (fld (s.route d) 18 16))

/-- Since when devices have had no usable route is kept up to date. -/
def State.routeScan (s : State) : State :=
  { s with links := { s.links with noRoute := (List.range 512).foldl (fun m d =>
      if s.routeUsable d then SMap.put m d 0xFFFFFFFFFFFFFFFF
      else if SMap.get (fun _ => 0) m d = 0xFFFFFFFFFFFFFFFF then SMap.put m d s.now else m) s.links.noRoute } }

/-- A message to pass on waits at the gate of the port its route gives (R281), or is discarded (R282). -/
def State.atGate (s : State) (m : Msg) : State :=
  match s.egress m.dst.toNat with
  | some (p, _) => s.modLink p fun k => { k with fwd := k.fwd ++ [m] }
  | none => s.bump Pg.LNK Off.LNK.NOROUTE_CNT

/-! ## Discovery (R283) -/

/-- Hops that the neighbour of port p advertises for device d, and its path level, where the port is UP and no conflict. -/
def State.advOf (s : State) (p d : Nat) : Option (Nat × Bool) :=
  let k := s.link p
  if k.joined ∧ !k.conflict then (k.adv.find? fun a => a.dev.toNat = d).map fun a => (a.hops.toNat, a.l2) else none

/-- The best primary: least hops, then the lower port. -/
def State.primary (s : State) (d : Nat) : Option (Nat × Nat × Bool) :=
  (List.range 8).foldl (fun (b : Option (Nat × Nat × Bool)) p => match s.advOf p d, b with
    | some (h, l2), none => some (p, h, l2)
    | some (h, l2), some (q, h', l') => if h < h' then some (p, h, l2) else some (q, h', l')
    | none, b => b) none

/-- A port's path is of level 2: the port runs at level 2 and its neighbour says so. -/
def State.pathLevel (s : State) (p : Nat) (l2 : Bool) : Bool := decide ((s.link p).level = 2) && l2

/-- The ROUTE entry that R283 gives device d. -/
def State.discovered (s : State) (d : Nat) : W32 :=
  match s.primary d with
  | none => 0
  | some (p, h, l2) =>
    let hops := h + 1
    if 16 ≤ hops then 0
    else
      let alt := (List.range 8).find? fun q => decide (q ≠ p) && match s.advOf q d with
        | some (h', _) => decide (h' ≤ hops)
        | none => false
      let base := 2 ^ 31 + (s.pathLevel p l2).toNat * 2 ^ 27 + hops * 2 ^ 22 + p * 2 ^ 19
      match alt with
      | none => BitVec.ofNat 32 base
      | some q =>
        let l := match s.advOf q d with
          | some (_, l) => s.pathLevel q l
          | none => false
        BitVec.ofNat 32 (base + 2 ^ 30 + l.toNat * 2 ^ 26 + q * 2 ^ 16)

/-- The distance vector of the device: itself and every valid route (R283), and, at 15 hops, which give a neighbour 16, the devices whose
route it has lost (log entry 68). -/
def State.vector (s : State) : List AdvEntry :=
  (((List.range 512).filter fun d => bit (s.route d) 31).map fun d =>
    { dev := BitVec.ofNat 9 d, hops := BitVec.ofNat 4 (fld (s.route d) 25 22), l2 := decide (s.fwLevel = 2) && (decide (d = s.devId) || bit (s.route d) 27) }) ++
  (s.links.gone.filter fun d => !(bit (s.route d) 31)).map fun d => { dev := BitVec.ofNat 9 d, hops := 15, l2 := false }

/-- Parts of a list of at most 128 elements; `fuel` bounds the parts. -/
def parts128 {α : Type} : Nat → List α → List (List α)
  | 0, _ => []
  | fuel + 1, l => if l.isEmpty then [] else l.take 128 :: parts128 fuel (l.drop 128)

/-- The device advertises its distance vector on every UP port: 16 entries fill a data slot, 8 slots a message (Table 15.4). -/
def State.advertise (s : State) : State :=
  let v := parts128 4 s.vector
  (List.range 8).foldl (fun s p => if s.linkUp p then
    v.foldl (fun s es => s.emit p { op := .routeAdv, len := BitVec.ofNat 4 (1 + (es.length + 15) / 16), src := BitVec.ofNat 9 s.devId,
                                    dst := BitVec.ofNat 9 (s.link p).peerDev, adv := es }) s else s) s

/-- An entry has changed: CONVERGED falls. -/
def State.routeChanged (s : State) : State :=
  let s := s.wrF Pg.LNK Off.LNK.DISC_STATE 31 31 0
  { s with links := { s.links with lastChange := s.now } }

/-- The route of device d is withdrawn from the neighbours. -/
def State.withdraw (s : State) (d : Nat) : State :=
  { s with links := { s.links with gone := if s.links.gone.contains d then s.links.gone else s.links.gone ++ [d] } }

/-- One entry under discovery: a change is counted. -/
def State.discoverOne (s : State) (d : Nat) : State :=
  let old := s.route d
  let new := s.discovered d
  if d = s.devId ∨ bit old 29 ∨ old = new then s
  else
    let s := ((s.setRoute d new).bump Pg.LNK Off.LNK.ROUTE_CHG_CNT).routeChanged
    if bit old 31 ∧ !bit new 31 then (s.withdraw d).raise Pg.LNK 2 ST.LINK_LOST (unitIdOf 2 s.devId 0) d else s

/-- Discovery maintains the routes (R283). -/
def State.discEn (s : State) : Bool := s.rdB Pg.LNK Off.LNK.LNK_CFG 31 && !s.mcAway

/-- After entries have changed: devices without a route, messages that waited for one, races blocked by one. -/
def State.routesSet (s : State) : State := (s.routeScan.flushRoutes).scanBlocked

/-- Discovery recomputes the entries it maintains (R283). -/
def State.recompute (s : State) : State := if s.discEn then (List.range 512).foldl State.discoverOne s else s

/-- Discovery recomputes the entries it maintains, and advertises a change; `changed`: there has been one already. -/
def State.discover (s : State) (changed : Bool := false) : State :=
  let n := s.rd Pg.LNK Off.LNK.ROUTE_CHG_CNT
  let s := s.recompute
  (if s.discEn ∧ (changed ∨ s.rd Pg.LNK Off.LNK.ROUTE_CHG_CNT ≠ n) then s.advertise else s).routesSet

/-! ## States of a port (R274) -/

/-- What the dead neighbour had not acknowledged, and what waited at the port, leaves on the routes now in force with its HOP (R285); a flit
with an uncorrectable word is not resent (R306). -/
def State.rerouteReplay (s : State) (d : Nat) : State :=
  let k := s.link d
  let fl := k.replay.filter fun f => !(s.ue.contains (.replay d f.seq.toNat))
  let s := s.modLink d fun k => { k with replay := [], txq := [], fwd := [] }
  let s := (fl.flatMap (·.msgs) ++ k.txq).foldl (fun s m => if opOfLink m.op then s else s.emitRouted m) s
  k.fwd.foldl (fun s m => s.atGate m) s

/-- A port leaves UP or RENEG for a state. Its entries use the alternate from now on, as R282 has it; discovery recomputes them later
(R285, Table 15.6). -/
def State.leaveUp (s : State) (d : Nat) (st : LinkSt) : State :=
  let s := s.modLink d fun k => { k with st := st, adv := [], conflict := false, lanes := 0, level := 0 }
  (s.rerouteReplay d).routesSet

/-- Training begins with the first mode (R273). -/
def State.train (s : State) (d : Nat) : State := s.modLink d fun k => { k with st := .training, mode := 0, far := none }

/-- A port in UP or RENEG fails (R277): DOWN, counted, FAULT_SUM bit 0; it may train again at once. -/
def State.linkDown (s : State) (d : Nat) : State :=
  let s := s.modLink d fun k => { k with retryAt := s.now }
  ((s.leaveUp d .down).bump (Pg.DL d) Off.DL.DOWN_CNT).raise (Pg.DL d) 0 ST.LINK_LOST (unitIdOf 2 s.devId 0) d

/-- A command or write of a DL page is refused (R290). -/
def State.dlRefuse (s : State) (d code : Nat) : State :=
  (s.wrF (Pg.DL d) Off.DL.DL_CMD 23 16 code).logState (Pg.DL d) code (unitIdOf 2 s.devId 0) Off.DL.DL_CMD

/-- The port is in TRAINING, UP or RENEG. -/
def LinkPort.active (k : LinkPort) : Bool := k.st == .training || k.st == .up || k.st == .reneg

/-- RETRAIN (R273): training begins again; an OFF port cannot train. -/
def State.retrain (s : State) (d : Nat) : State :=
  if !(s.linkCanTrain d) then s.dlRefuse d ST.STATE
  else (if (s.link d).joined then s.leaveUp d .down else s).train d

/-- RENEG (R288): on an UP port. -/
def State.reneg (s : State) (d : Nat) : State :=
  if (s.link d).st = .up then s.modLink d fun k => { k with st := .reneg } else s.dlRefuse d ST.STATE

/-- DOWN (R277): on an UP port. -/
def State.dlDown (s : State) (d : Nat) : State := if (s.link d).joined then s.linkDown d else s.dlRefuse d ST.STATE

/-- RETRAIN (R273): starts link training. -/
def execRetrain (_src : Agent) (dl : Fin 8) (s : State) : Out := .next (s.retrain dl)
/-- RENEG (R288): moves an UP port to RENEG to exchange levels again. -/
def execReneg (_src : Agent) (dl : Fin 8) (s : State) : Out := .next (s.reneg dl)
/-- DOWN (R277): takes an UP port DOWN. -/
def execDown (_src : Agent) (dl : Fin 8) (s : State) : Out := .next (s.dlDown dl)

/-- A write of DL_CMD; 0 is no command (R375). -/
def State.dlCmd (s : State) (d cmd : Nat) : State :=
  match cmd with
  | 0 => s
  | 1 => s.retrain d
  | 2 => s.reneg d
  | 3 => s.dlDown d
  | _ => s.dlRefuse d ST.BAD_DESC

/-- The port takes the state that its configuration and its domain give it: OFF, or training where it stood OFF (R273, R274). -/
def State.linkUpdate (s : State) (d : Nat) : State :=
  if s.linkCanTrain d then (if (s.link d).st = .off then s.train d else s)
  else if (s.link d).joined then s.leaveUp d .off
  else s.modLink d fun k => { k with st := .off }

/-- A write of DL_CFG (R290): one that clears EN always takes effect; one that sets it under a reserved code is refused (log entry 54). -/
def State.dlCfgWrite (s : State) (d : Nat) (v : W32) : State :=
  if (s.link d).active ∧ bit v 31 then s.dlRefuse d ST.STATE
  else if bit v 31 ∧ (fld v 30 29 = 0 ∨ fld v 30 29 = 3 ∨ fld v 28 27 = 3) then s.dlRefuse d ST.BAD_DESC
  else (s.wrMasked (Pg.DL d) Off.DL.DL_CFG v).linkUpdate d

/-- DL_CFG_WRITE (R290): configures the port, refused while active unless it clears EN; EN set starts training. -/
def execDlCfgWrite (_src : Agent) (dl : Fin 8) (v : W32) (s : State) : Out := .next (s.dlCfgWrite dl v)

/-- A write of LOSS_CTRL (R290). -/
def State.lossWrite (s : State) (d : Nat) (v : W32) : State :=
  if fld v 31 24 = 0 ∨ fld v 15 0 = 0 then s.dlRefuse d ST.BAD_DESC else s.wrMasked (Pg.DL d) Off.DL.LOSS_CTRL v

/-- The port enters UP in mode m over some lanes: new sequence numbers, the level, HELLO sent (R273, R283). -/
def State.linkJoin (s : State) (d m : Nat) (lanes : BitVec 4) (far : FarCaps) : State :=
  let s := s.modLink d fun k =>
    { k with st := .up, mode := m, lanes := lanes, far := some far, level := min (s.offered d) far.lvl.toNat, peerLvl := far.lvl.toNat,
             peerDev := far.dev.toNat, conflict := false, txNext := 0, rxNext := 0, replay := [], rx := [], lastFlit := s.now, delays := [],
             markDep := 0, markArr := 0, markSent := 0, markFrom := none, ctl := none, credit := (List.range 32).map Config.linkCredit,
             owe := List.replicate 32 0, fwd := [], txq := [], adv := [] }
  let s := if m = 0 then s else s.raise (Pg.DL d) 2 ST.OK (unitIdOf 2 s.devId 0) m
  (s.emit d { op := .hello, src := BitVec.ofNat 9 s.devId, dst := far.dev }).discover

/-- No mode succeeded (R273): DOWN, FAULT_SUM bit 1, another try after 100 ms. -/
def State.trainLost (s : State) (d : Nat) : State :=
  (s.modLink d fun k => { k with st := .down, retryAt := s.now + 10000000 }).raise (Pg.DL d) 1 ST.LINK_LOST (unitIdOf 2 s.devId 0) d

/-- The attempt in the mode that is next is over. -/
def State.attempt (s : State) (d m : Nat) (ok : Bool) (far : FarCaps) : State :=
  match s.nextLinkMode d far (s.link d).mode with
  | none => s.trainLost d
  | some i =>
    if i ≠ m then s
    else
      let s := s.bump (Pg.DL d) Off.DL.TRAIN_CNT
      if ok then s.linkJoin d m ((s.modeFits d far m).getD 0) far
      else match s.nextLinkMode d far (m + 1) with
        | some j => s.modLink d fun k => { k with mode := j }
        | none => s.trainLost d

/-- LINK_MODE_ATTEMPT_DONE (R273): a training attempt in one mode succeeds, taking the port UP, or fails within 20 ms and the next mode is
tried. -/
def execLinkModeAttemptDone (dl : Fin 8) (mode : Fin 9) (ok : Bool) (far : FarCaps) (s : State) : Out :=
  .next (if (s.link dl).st = .training then s.attempt dl mode ok far else s)

/-- LINK_TRAIN_RETRY (R273): 100 ms after failed training, or after the port has gone DOWN, it trains again. -/
def execLinkTrainRetry (dl : Fin 8) (t : W64) (s : State) : Out :=
  .next (s.atTime t fun s => if (s.link dl).st = .down ∧ (s.link dl).retryAt ≤ s.now ∧ s.linkCanTrain dl then s.train dl else s)

/-- A port in RENEG returns to UP: at the new level, with HELLO (R283), and what has waited leaves (R288). -/
def State.renegDone (s : State) (d : Nat) (peerLvl : BitVec 2) : State :=
  let s := s.modLink d fun k => { k with st := .up, level := min (s.offered d) peerLvl.toNat, peerLvl := peerLvl.toNat, lastFlit := s.now }
  ((s.emit d { op := .hello, src := BitVec.ofNat 9 s.devId, dst := BitVec.ofNat 9 (s.link d).peerDev }).pump d).discover

/-- RENEG_COMPLETE (R288): renegotiation ends and the port returns to UP at the new level. -/
def execRenegComplete (dl : Fin 8) (peerLvl : BitVec 2) (s : State) : Out :=
  .next (if (s.link dl).st = .reneg then s.renegDone dl peerLvl else s)

/-- FAR_END_RENEG_REQUEST (R288): moves the port to RENEG to exchange offered levels again. -/
def execFarEndRenegRequest (dl : Fin 8) (s : State) : Out :=
  .next (if (s.link dl).st = .up then s.modLink dl fun k => { k with st := .reneg } else s)

/-- LINK_LANE_LOCK_LOSS (R277): a lane out of lock for more than 1 µs takes the port DOWN. -/
def execLinkLaneLockLoss (dl : Fin 8) (s : State) : Out := .next (if (s.link dl).joined then s.linkDown dl else s)

/-- LINK_IDLE_TIMEOUT (R277): no flit for IDLE_LIMIT periods takes the port DOWN. -/
def execLinkIdleTimeout (dl : Fin 8) (t : W64) (s : State) : Out :=
  .next (s.atTime t fun s =>
    if (s.link dl).st = .up ∧ (s.link dl).lastFlit.toNat + s.rdF (Pg.DL dl) Off.DL.LOSS_CTRL 15 0 ≤ s.now.toNat then s.linkDown dl else s)

/-! ## Flits (R275, R276) -/

/-- A flit arrives: credits are returned and acknowledged flits are dropped from the replay buffer. -/
def LinkPort.header (k : LinkPort) (h : Fhdr) (now : W64) : LinkPort :=
  { k with lastFlit := now,
           credit := modNth (· + h.crcnt.toNat) k.credit h.crcls.toNat,
           replay := k.replay.filter fun f => (f.seq - h.fack).toNat < 2048 }

/-- The same, and what waited for credit or for the replay buffer leaves (R276, R281). -/
def State.flitHeader (s : State) (d : Nat) (h : Fhdr) : State := ((s.modLink d fun k => k.header h s.now).pump d).scanBlocked

/-- DATA_FLIT (R276): taken in sequence or discarded with a replay request, and its credits and acknowledgements are applied. -/
def execDataFlit (dl : Fin 8) (h : Fhdr) (fec : FecResult) (msgs : List Msg) (t : W64) (s : State) : Out :=
  .next (s.atTime t fun s =>
    if (s.link dl).st ≠ .up then s
    else
      let s := s.modLink dl fun k => { k with lastFlit := s.now }
      let s := if fec = .corrected then s.bump (Pg.DL dl) Off.DL.FEC_CE_CNT else s
      if fec = .bad ∨ h.fseq ≠ (s.link dl).rxNext then
        (s.bump (Pg.DL dl) Off.DL.FEC_UE_CNT).modLink dl fun k => k.sendCtl .replayRequest
      else ((s.modLink dl fun k => { k with rxNext := k.rxNext + 1, rx := k.rx ++ msgs }).bump (Pg.DL dl) Off.DL.RX_FLIT_CNT).flitHeader dl h)

/-- IDLE_FLIT (R275): an idle flit is received. -/
def execIdleFlit (dl : Fin 8) (h : Fhdr) (t : W64) (s : State) : Out :=
  .next (s.atTime t fun s => if (s.link dl).joined then s.flitHeader dl h else s)

/-- Kept flits from the requested one on are sent again, those with an uncorrectable word apart (R276, R306). -/
def State.replayAll (s : State) (d : Nat) : State :=
  let s := s.modLink d fun k => { k with replay := (k.replay.filter fun f => !(s.ue.contains (.replay d f.seq.toNat))).map fun f => { f with replays := f.replays + 1 } }
  let n := (s.link d).replay.length
  let s := (s.bump (Pg.DL d) Off.DL.REPLAY_CNT n).bump (Pg.DL d) Off.DL.TX_FLIT_CNT n
  if (s.link d).replay.any fun f => decide (s.rdF (Pg.DL d) Off.DL.LOSS_CTRL 31 24 ≤ f.replays) then s.linkDown d else s

/-- REPLAY_REQUEST (R276): resends flits from the requested FSEQ, and too many replays take the port DOWN. -/
def execReplayRequest (dl : Fin 8) (h : Fhdr) (t : W64) (s : State) : Out :=
  .next (s.atTime t fun s =>
    if (s.link dl).st = .up then (s.flitHeader dl h).replayAll dl else s)

/-- IDLE_FLIT_SEND (R275): after 1 µs with nothing to send, a port sends an idle flit, which is not kept. -/
def execIdleFlitSend (dl : Fin 8) (s : State) : Out :=
  .next (if (s.link dl).joined ∧ (s.link dl).txq.isEmpty then s.modLink dl fun k => k.sendCtl .idle else s)

/-! ## Time markers (R51, R52, R286) -/

/-- The time-tree upstream port: UP_PORT, or ALT_PORT where it is enabled and UP_PORT is not UP (R53, R285). -/
def State.upstream (s : State) : Nat :=
  let c := s.rd Pg.LCH Off.LCH.TIME_CTRL
  if bit c 23 ∧ !(s.linkUp (fld c 26 24)) ∧ s.linkUp (fld c 22 20) then fld c 22 20 else fld c 26 24

/-- The filtered one-way delay in 1/16 ns: the mean of the last 16 measurements (1/256 period) and the asymmetry trim. -/
def State.filtered (s : State) (d : Nat) : Nat :=
  let l := (s.link d).delays
  if l.isEmpty then 0
  else (sat (((l.sum / l.length * 5 / 8 : Nat) : Int) + Config.asymTrim d) 0 0xFFFFF).toNat

/-- The marker of this device that the far end answers is one that left since the port came UP. -/
def LinkPort.answers (k : LinkPort) (m : Marker) : Bool :=
  match k.markFrom with
  | some f => decide (f ≤ m.lastDepart ∧ m.lastDepart ≤ k.markSent)
  | none => false

/-- A measurement from one exchange (R51): the far end answers a marker of this device. -/
def State.measure (s : State) (d : Nat) (m : Marker) (arr : Nat) : State :=
  if (s.link d).answers m then
    let x : Int := (((arr : Int) - m.depart) + ((m.lastArrive : Int) - m.lastDepart)).fdiv 2
    let s := s.modLink d fun k => { k with delays := ((k.delays ++ [x.toNat]).drop (k.delays.length - 15)) }
    s.wr (Pg.DL d) Off.DL.LINK_DELAY (BitVec.ofNat 32 (s.filtered d))
  else s

/-- On the upstream port of a device that is not the root, the upstream time is applied (R52). It is not applied in FREE and HOLDOVER, and
HOPS is the marker's hop count and one more, of which R286 names none: DESIGN CHOICE (log entry 67). -/
def State.takeTime (s : State) (d : Nat) (m : Marker) (arr : Nat) : State :=
  let delay := (s.rd (Pg.DL d) Off.DL.LINK_DELAY).toNat
  if s.upstream = d ∧ !s.root ∧ !(s.link d).delays.isEmpty ∧ (s.rig.st = .locking ∨ s.rig.st = .sync ∨ s.rig.st = .slew) then
    let s := (s.wr Pg.LCH Off.LCH.HOP_DELAY (BitVec.ofNat 32 delay)).wrF Pg.LCH Off.LCH.TIME_STATE 28 24 ((m.hops.toNat + 1) % 32)
    s.applyOffset (arr % 256) (((m.depart + delay * 8 / 5 : Nat) : Int) - arr)
  else s

/-- TIME_MARKER (R286): updates the hop-delay measurement and, on the upstream port, applies the upstream time. -/
def execTimeMarker (dl : Fin 8) (h : Fhdr) (m : Marker) (time : FineTime) (s : State) : Out :=
  .next (s.atTime time.t fun s =>
    if (s.link dl).joined then
      let arr := 256 * s.now.toNat + time.frac.toNat
      let s := s.flitHeader dl h
      let s := s.measure dl m arr
      let s := s.modLink dl fun k => { k with markDep := m.depart, markArr := arr }
      s.takeTime dl m arr
    else s)

/-- Hops to the root that this device's markers carry. -/
def State.hops (s : State) : BitVec 5 := if s.root then 0 else BitVec.ofNat 5 (s.rdF Pg.LCH Off.LCH.TIME_STATE 28 24)

/-- A marker leaves (R286): its own departure, the departure and the arrival of the far end's last marker. -/
def LinkPort.sendMarker (k : LinkPort) (dep : Nat) (hops : BitVec 5) : LinkPort :=
  { k with markSent := dep, markFrom := some (k.markFrom.getD dep) }.sendCtl fun h => .marker h ⟨dep, k.markDep, k.markArr, hops⟩

/-- TIME_MARKER_SEND (R286): every 1 ms each UP port sends a time marker. -/
def execTimeMarkerSend (out : MarkerOut) (s : State) : Out :=
  .next (s.atTime out.time.t fun s =>
    if (s.link out.dl).st = .up then s.modLink out.dl fun k => k.sendMarker (256 * s.now.toNat + out.time.frac.toNat) s.hops else s)

/-! ## Routes by register and by time -/

/-- ROUTE_ADV_SEND (R283): every 10 ms a device advertises its distance vector, as discovery has it then. -/
def execRouteAdvSend (s : State) : Out := .next (if s.discEn then s.recompute.advertise.routesSet else s)

/-- DISC_CONVERGED (R283): 20 ms with no route change sets CONVERGED. -/
def execDiscConverged (s : State) : Out :=
  .next (if s.links.lastChange.toNat + 2000000 ≤ s.now.toNat ∧ !s.mcAway then s.wrF Pg.LNK Off.LNK.DISC_STATE 31 31 1 else s)

/-- A write of a ROUTE entry (R284, R291). -/
def State.routeWrite (s : State) (d : Nat) (v : W32) : State :=
  if d = s.devId then
    (s.wrF Pg.LNK Off.LNK.LNK_ERR 31 24 ST.STATE).logState Pg.ROUTE ST.STATE (unitIdOf 2 s.devId 0) (0x100 + 4 * d)
  else
    let old := s.route d
    let new := (old &&& 0x1C000000) ||| (v &&& 0xE3FF0000)
    let changes := bit v 29 || decide (fld old 21 16 ≠ fld new 21 16 ∨ fld old 31 30 ≠ fld new 31 30)
    let new := setBit new 29 changes
    let s := s.setRoute d new
    let s := if bit old 31 ∧ !bit new 31 then s.withdraw d else s
    (if new = old then s else s.routeChanged).discover (decide (new ≠ old))

/-- ROUTE_ENTRY_WRITE (R284): takes effect between messages and sets MANUAL. -/
def execRouteEntryWrite (_src : Agent) (dev : BitVec 9) (v : W32) (s : State) : Out := .next (s.routeWrite dev.toNat v)

/-- A write of a LNK page register is refused (R289). -/
def State.lnkRefuse (s : State) (code : Nat) : State :=
  (s.wrF Pg.LNK Off.LNK.LNK_ERR 31 24 code).logState Pg.LNK code (unitIdOf 2 s.devId 0) Off.LNK.LNK_ERR

/-- A write of LNK_CFG (R289): DEV_ID stays while a port is active. -/
def State.lnkCfgWrite (s : State) (v : W32) : State :=
  if fld v 8 0 ≠ s.devId ∧ s.links.ports.any LinkPort.active then s.lnkRefuse ST.STATE
  else (s.wrMasked Pg.LNK Off.LNK.LNK_CFG v).discover

/-- A write of E2E_CTRL (R289). -/
def State.e2eWrite (s : State) (v : W32) : State :=
  if fld v 15 0 = 0 ∨ fld v 31 16 ≤ fld v 15 0 then s.lnkRefuse ST.BAD_DESC else s.wrMasked Pg.LNK Off.LNK.E2E_CTRL v

end Sys2Proof.Machine
end

