-- ==== Sys2Proof/Machine/MsgCmds.lean ====
section
/-! DEFINITION. Messages that arrive over the links (R278 to R284, R287), remote memory, sluice and tally work, jobs on other devices (R314),
notices (R192), and the delivery stream's own time limits (R279, R280). -/
namespace Sys2Proof.Machine

/-! ## Arrival -/

/-- LEN agrees with the opcode (Table 15.4). -/
def msgLenOk (m : Msg) : Bool :=
  let n := m.len.toNat
  match m.op with
  | .rdRsp | .routeAdv => decide (1 ≤ n ∧ n ≤ 9)
  | .wrMem | .wrSp | .wrTally => decide (2 ≤ n ∧ n ≤ 9)
  | .job => n == 3
  | .recMsg => n == 2
  | .reserved _ => false
  | _ => n == 1

/-- An opcode of level 2 (Table 15.4). -/
def opLevel2 : MsgOp → Bool
  | .wrTally | .prune | .rejoin => true
  | _ => false

def opReserved : MsgOp → Bool
  | .reserved _ => true
  | _ => false

/-- The message leaves the receive buffer, whose slots are owed to the far end (R281). One that no DATA_FLIT brought is taken as having come
in one. -/
def LinkPort.takeRx (k : LinkPort) (m : Msg) : LinkPort :=
  { k with rx := k.rx.erase m
           owe := match msgClass m with
             | some c => modNth (· + msgSlots m) k.owe c
             | none => k.owe }
def State.takeRx (s : State) (d : Nat) (m : Msg) : State := s.modLink d fun k => k.takeRx m

/-- A message is passed on (R281, R282): to the gate of its port, with one hop more. -/
def State.forward (s : State) (m : Msg) : State :=
  if m.hop = 15 then s.bump Pg.LNK Off.LNK.HOP_DROP_CNT else s.atGate { m with hop := m.hop + 1 }

/-- A message arrives on port d as one of opcode `op`: it is discarded under R278, passed on, or taken by `f`. -/
def State.onMsg (s : State) (d : Nat) (m : Msg) (op : MsgOp) (f : State → State) : State :=
  if !(s.link d).joined then s
  else if opReserved m.op || (m.op == op && (!(msgLenOk m) || (opLevel2 m.op && decide ((s.link d).level < 2)))) then
    (s.takeRx d m).bump Pg.LNK Off.LNK.BAD_CNT
  else if m.op ≠ op then s
  else
    let s := s.takeRx d m
    if m.dst.toNat ≠ s.devId then s.forward m else (f s).scanBlocked

/-- A message of the link class, which is not routed. -/
def State.onLinkMsg (s : State) (d : Nat) (m : Msg) (op : MsgOp) (f : State → State) : State :=
  if !(s.link d).joined then s
  else if opReserved m.op || (m.op == op && !(msgLenOk m)) then (s.takeRx d m).bump Pg.LNK Off.LNK.BAD_CNT
  else if m.op ≠ op then s
  else f (s.takeRx d m)

/-- A message applied without a refusal. -/
def State.plainly (s : State) (f : State → State) : State × Nat × Nat := (f s, ST.OK, 0)

/-! ## Remote memory -/

/-- The answer to an RD_REQ (R279): the bytes, or the status of the read. A word that is uncorrectable is met (R248); an address outside
this device's LPDDR5X is answered with BOUNDS. -/
def State.answerRead (s : State) (m : Msg) (linkEcc : Bool) : State :=
  let n := m.bytes.toNat + 1
  let a := m.addr.toNat
  let r : Msg := { op := .rdRsp, seq := m.seq, core := m.core, race := m.race }
  if !(s.regionOf a n = some .lpddr) then s.sendPlain m.src.toNat { r with status := BitVec.ofNat 8 ST.BOUNDS }
  else match s.readUe linkEcc a n with
    | some w => (s.ueMet w (unitIdOf 0 m.src.toNat m.core.toNat)).sendPlain m.src.toNat { r with status := BitVec.ofNat 8 ST.ECC_UNCORR }
    | none =>
      let s := s.correct a n
      s.sendPlain m.src.toNat { r with len := BitVec.ofNat 4 (1 + ceilDiv n 32), bytes := m.bytes, data := s.bytes a n }

/-- Held messages are released, and others take their room. -/
def State.dropHeld (s : State) (d : Nat) (p : HeldMsg → Bool) : State :=
  let o := s.outStream d
  (s.setOutStream d { o with held := o.held.filter fun h => !p h }).pumpStreams

/-- The entry that a held message was sent for, where it is still in its queue. -/
def State.heldEntry (s : State) (h : HeldMsg) : Option (Queue × QEntry) :=
  [Queue.fq, .wq].findSome? fun q => (((s.core h.core).q q).find? fun e => e.key = h.entry).map fun e => (q, e)

/-- A status that leaves the rest of a transfer to go on: a row that would partly write an uncorrectable word (R173). -/
def codeKeeps (code : Nat) : Bool := decide (code = ST.ECC_UNCORR)

/-- The entry of a message writes no more, but for the rows of a write of which one was refused with ECC_UNCORR, and its item fails. -/
def State.heldFail (s : State) (h : HeldMsg) (code detail : Nat) : State :=
  match s.heldEntry h with
  | some (q, e) => (s.modCore h.core fun k => k.modEntry q e.key fun e => { e with pend := if codeKeeps code then e.pend else [], noUpd := true }).failItem h.core h.item code detail
  | none => s.failItem h.core h.item code detail

/-- The entry that a message was sent for moves no more rows and makes no update. -/
def State.cutEntry (s : State) (h : HeldMsg) : State :=
  match s.heldEntry h with
  | some (q, e) => s.modCore h.core fun k => k.modEntry q e.key fun e => { e with pend := [], noUpd := true }
  | none => s

/-- The transfer of a message has an extent outside the memory that the other device has fitted: it is refused under the terms of R127, once
(R376; log entry 69). -/
def State.outside (s : State) (h : HeldMsg) : State :=
  match s.heldEntry h with
  | none => s
  | some (q, e) =>
    if e.refused then s
    else match e.op with
      | .wGlz _ _ => s.heldFail h ST.BOUNDS 0
      | .wCopy _ f =>
        if f.mc then (s.refused h.core q e ST.STATE).modCore h.core fun k => k.modEntry q e.key fun e =>
          { e with refused := true, pend := e.pend.filter fun p => s.memberDev (e.race.getD 0) (p.1 / 1024) != h.msg.dst.toNat }
        else (s.refuseEntry h.core q e ST.STATE).settleQueue h.core q
      | _ => (s.refuseEntry h.core q e ST.STATE).settleQueue h.core q

/-- The answer to a held RD_REQ. -/
def State.readAnswered (s : State) (m : Msg) (h : HeldMsg) : State :=
  let s := s.dropHeld m.src.toNat fun x => decide (x.msg.seq = h.msg.seq)
  if m.status.toNat = ST.BOUNDS then s.outside h
  else if m.status ≠ 0 then (s.cutEntry h).failItem h.core h.item m.status.toNat 0
  else match s.heldEntry h with
    | some (q, e) => if e.noUpd then s else (s.putFetched h.core e h.row m.data).settleQueue h.core q
    | none => s

/-- RD_RSP (R278): read data and status arrive for a held RD_REQ. -/
def execRdRsp (dl : Fin 8) (m : Msg) (s : State) : Out :=
  .next (s.onMsg dl m .rdRsp fun s =>
    match (s.outStream m.src.toNat).held.find? fun h => h.msg.op = .rdReq ∧ h.msg.seq = m.seq with
    | some h => s.readAnswered m h
    | none => s)

/-- Data bytes under the byte mask. -/
def msgBytes (m : Msg) : List (Option Byte) := m.data.zipIdx.map fun b => if m.mask.getD b.2 false then some b.1 else none

/-- A remote write of LPDDR5X, with the status to acknowledge (R248, R279). -/
def State.remoteWrite (s : State) (m : Msg) : State × Nat × Nat :=
  let a := m.addr.toNat
  if !(s.regionOf a (max 1 m.data.length) = some .lpddr) then (s, ST.BOUNDS, unitIdOf 2 s.devId 0)
  else
    let r := s.store a (msgBytes m)
    if r.2 then (r.1.ueMet ((s.ueWords a m.data.length).headD (a / 4)) (unitIdOf 0 m.src.toNat m.core.toNat), ST.ECC_UNCORR, 0)
    else (r.1, ST.OK, 0)

/-! ## Remote sluice transfers -/

/-- The core that owns a scratchpad address. -/
def spCore (a : Nat) : Nat := (a - spBase) / 0x400000

/-- The extent of a transfer from another device is checked (R172, R174). -/
def State.xferIn (s : State) (m : Msg) : State × Nat × Nat :=
  let a := m.addr.toNat
  if a < spBase ∨ spBase + 32 * 0x400000 ≤ a then (s, ST.BOUNDS, unitIdOf 2 s.devId 0)
  else
    let c := spCore a
    match s.acceptTransfer c m.quanta (.remote m.src.toNat m.core.toNat m.xfer.toNat m.seq) m.value.toNat with
    | (s, some _) => (s, ST.OK, 0)
    | (s, none) => (s.boundsCount c m.src.toNat m.core.toNat, ST.BOUNDS, s.coreUnit c)

/-- The transfer that a WR_SP belongs to. -/
def Win.landingOf (w : Win) (dev core xfer : Nat) : Option Landing :=
  w.landing.find? fun l => match l.src with
    | .remote d c x _ => d == dev && c == core && x == xfer
    | .here _ _ => false

/-- A row of an accepted transfer is written; the last one lands it. A transfer that was refused, or cut off because its core went OUT, has no
window here. -/
def State.spRowIn (s : State) (m : Msg) : State × Nat × Nat :=
  let a := m.addr.toNat
  let c := spCore a
  match (List.range 8).findSome? fun i => (((s.core c).wins.getD i {}).landingOf m.src.toNat m.core.toNat m.xfer.toNat).map fun l => (i, l) with
  | none => (s, ST.BOUNDS, s.coreUnit c)
  | some (i, l) =>
    let r := s.store a (msgBytes m)
    let s := if r.2 then r.1.ueMet ((s.ueWords a m.data.length).headD (a / 4)) (unitIdOf 0 m.src.toNat m.core.toNat) else r.1
    let l' := { l with rows := l.rows - m.data.length, err := l.err || r.2 }
    let s := s.modCore c fun k => k.modWin i fun w => { w with landing := modFirst (fun x => x.src = l.src) (fun _ => l') w.landing }
    let s := if l'.rows = 0 then s.landed c i l' l'.err else s
    (s, if r.2 then ST.ECC_UNCORR else ST.OK, 0)

/-! ## Remote tallies -/

/-- The tally that ADDR names. -/
def msgTally (m : Msg) : Nat := m.addr.toNat % 16384

/-- A fused write, then a tally add of 1 to tally VALUE[13:0] (Table 15.4). Where the write is refused, there is no add: the update of an entry
that fails its item is not made (R374). -/
def State.wrTallyIn (s : State) (m : Msg) : State × Nat × Nat :=
  let r := if m.addr.toNat < lpddrEnd then s.remoteWrite m else s.spRowIn m
  (if r.2.1 = ST.OK then r.1.tallyDo .link (m.value.toNat % 16384) false 1 else r.1, r.2)

/-! ## Jobs on other devices (R18, R314; log entry 23) -/

/-- The part of a job that this device has checked for the sender of a JOB message. -/
def State.partOf (s : State) (m : Msg) : Option Job :=
  s.jobs.find? fun j => decide (j.ph = .checked ∧ j.src = .parent m.src.toNat m.frame ∧ descTarget j.desc = descTarget m.words)

/-- The part that a JOB message names is dropped, with what it asked of others. -/
def State.jobDropIn (s : State) (m : Msg) : State :=
  match s.partOf m with
  | some j => s.dropPart j
  | none => s

/-- A check round for a member unit of this device; it takes the place of an earlier one. -/
def State.jobCheckIn (s : State) (m : Msg) : State :=
  let s := s.jobDropIn m
  let key := s.nextKey
  (s.newJob m.words (.parent m.src.toNat m.frame) (some m.quanta) false).checkJobOver key m.xfer.toNat m.quanta []

/-- Quanta that no check round here has seen, passed on from a member of the parent (R25, R309): they run on the units that are in
service now. Those that no unit takes end with CORE_LOST. -/
def State.jobRunNew (s : State) (m : Msg) : State :=
  let key := s.nextKey
  let s := s.newJob m.words (.parent m.src.toNat m.frame) (some m.quanta) false
  match s.job key with
  | none => s
  | some j =>
    let u := descTarget j.desc
    let j := { j with base := s.nextKey, spans := (s.spansUnder 10 u).map fun e => (e, s.spanRegs e) }
    let s := { s with nextKey := s.nextKey + descQuanta j.desc }
    let w := (s.walk { prog := some (descProgram j.desc) } j.desc 10 m.xfer.toNat u u m.quanta).filter fun x => match x with
      | .refuse _ _ => false
      | _ => true
    let taken := w.flatMap fun x => match x with
      | .core _ _ qs => qs
      | .remote _ _ _ qs => qs
      | .refuse _ _ => []
    let left := m.quanta.filter fun i => !(taken.contains i)
    let s := s.modJob key fun j => { j with ph := .running }
    if left.isEmpty then s.startJob j w []
    else
      let s := if taken.isEmpty then s.modJob key fun j => { j with ph := .running, quanta := left.map fun i => { idx := i, assigner := u, st := .remote s.devId } }
        else (s.startJob j w []).modJob key fun j => { j with quanta := j.quanta ++ left.map fun i => { idx := i, assigner := u, st := .remote s.devId } }
      left.foldl (fun s i => s.endQuantum key i ST.CORE_LOST (lostDetail OC.HOST 7 (unitIdx u % 32)) u false 0) s

/-- The quanta of a member unit of this device are run, as its check round divided them. -/
def State.jobRunIn (s : State) (m : Msg) : State :=
  match s.partOf m with
  | some j => s.startJob j j.walk []
  | none => s.jobRunNew m

/-- A JOB message: the check round of a member unit, or its quanta are run, or dropped (log entry 23). -/
def State.jobIn (s : State) (m : Msg) : State :=
  if m.value = JobAsk.check.code then s.jobCheckIn m
  else if m.value = JobAsk.drop.code then s.jobDropIn m
  else s.jobRunIn m

/-- The unit and the cores that a JOB_RSP names. -/
def rspUnit (m : Msg) : Nat := m.addr.toNat / 2 ^ 15
def rspCores (m : Msg) : Nat := m.addr.toNat % 2 ^ 15

/-- Every member asked has answered. -/
def Job.answered (j : Job) : Bool := j.members.all fun m => m.answer.isSome

/-- Members of a job that satisfy p answer; the check round is over when all have. -/
def State.memberAnswer (s : State) (key : Nat) (p : Member → Bool) (code detail cores : Nat) (out : Bool) : State :=
  let s := s.modJob key fun j => { j with members := j.members.map fun m => if p m ∧ m.answer = none then { m with answer := some (code, detail), cores := cores, out := out } else m }
  match s.job key with
  | some j => if j.answered then s.concludeJob key else s
  | none => s

/-- A late JOB_RSP or REC is absorbed and logged (R314). -/
def State.logLate (s : State) (m : Msg) (code unit : Nat) (tag : Nat) : State := s.logEvent Pg.LNK code unit m.src.toNat tag

/-- A member's check-round result at the parent. -/
def State.rspIn (s : State) (m : Msg) : State :=
  match s.job m.value.toNat with
  | some j =>
    if j.ph = .checking ∧ j.members.any fun x => x.unit == rspUnit m && x.dev == m.src.toNat && x.answer.isNone then
      s.memberAnswer j.key (fun x => x.unit == rspUnit m && x.dev == m.src.toNat) m.status.toNat m.detail.toNat (rspCores m) (m.xfer == 1)
    else s.logLate m m.status.toNat (rspUnit m % 2 ^ 24) 0
  | none => s.logLate m m.status.toNat (rspUnit m % 2 ^ 24) 0

/-- JOB_TAG of a record. -/
def recTag (ws : List W32) : Nat := (ws.getD 1 0).toNat * 2 ^ 32 + (ws.getD 0 0).toNat

/-- A member's record at the parent: the quantum ends, or the record is late. -/
def State.recIn (s : State) (m : Msg) : State :=
  let ws := m.words
  let code := wf ws 2 31 24
  let unit := wf ws 2 23 0
  match (s.job m.value.toNat).bind fun j => (j.quanta.find? fun q => q.idx = wf ws 4 31 16 ∧ q.st = .remote m.src.toNat).map fun q => (j.key, q.idx) with
  | some (key, idx) =>
    let s := if codeFailed code then s.noteFail key code (wf ws 6 23 0) unit true else s
    s.endQuantum key idx code (wf ws 6 23 0) unit (bit (ws.getD 6 0) 30) (wf ws 4 15 0)
  | none => s.logLate m code unit (recTag ws)

/-- A member device that counts as lost: one log entry (R305, R314). -/
def State.logLost (s : State) (dev : Nat) : State := s.logEvent Pg.LNK ST.LINK_LOST (unitIdOf 2 dev 0) dev

/-- JOB_RSP_TIMEOUT (R314): a member without JOB_RSP for LIMIT periods takes no part, and its quanta count as failed with LINK_LOST. -/
def execJobRspTimeout (job : Nat) (dev : BitVec 9) (t : W64) (s : State) : Out :=
  .next (s.atTime t fun s => match s.job job with
    | some j =>
      let limit := s.rdF Pg.LNK Off.LNK.E2E_CTRL 31 16
      let due := fun (m : Member) => m.dev == dev.toNat && m.answer.isNone && decide (m.sent.toNat + limit ≤ s.now.toNat)
      if j.ph = .checking ∧ j.members.any due then (s.logLost dev.toNat).memberAnswer job due ST.LINK_LOST dev.toNat 0 false else s
    | none => s)

/-- Parts of jobs that this device has checked for another one and that it will not be told to run are dropped. -/
def State.dropPartsFor (s : State) (dev : Nat) : State :=
  (s.jobs.filter fun j => decide (j.ph = .checked) && match j.src with
    | .parent d _ => d == dev
    | _ => false).foldl State.dropPart s

/-- Every quantum of a device without a REC fails, in every job, and members asked there take no part. -/
def State.loseDevice (s : State) (dev : Nat) : State :=
  (s.jobs.map (·.key)).foldl (fun s key =>
    let s := s.failMember key dev
    match s.job key with
    | some j =>
      if j.ph = .checking ∧ j.members.any fun m => m.dev == dev && m.answer.isNone then
        s.memberAnswer key (fun m => m.dev == dev) ST.LINK_LOST dev 0 false
      else s
    | none => s) (s.dropPartsFor dev)

/-- MEMBER_ROUTE_TIMEOUT (R314): a member device without a usable route for LIMIT periods has its outstanding quanta counted as LINK_LOST. -/
def execMemberRouteTimeout (dev : BitVec 9) (t : W64) (s : State) : Out :=
  .next (s.atTime t fun s =>
    let since := SMap.get (fun _ => 0) s.links.noRoute dev.toNat
    if dev.toNat ≠ s.devId ∧ !(s.routeUsable dev.toNat) ∧ since.toNat + s.rdF Pg.LNK Off.LNK.E2E_CTRL 31 16 ≤ s.now.toNat then
      let due := s.jobs.filter fun j => j.quanta.any fun q => q.st = .remote dev.toNat
      let s := if due.isEmpty then s else s.logLost dev.toNat
      (due.map (·.key)).foldl (fun s key => s.failMember key dev.toNat) (s.dropPartsFor dev.toNat)
    else s)

/-! ## Notices (R192) -/

/-- The entry of the full miss list that is replaced: the one with the oldest frame. -/
def oldestMiss : List (Option Miss) → Nat → Option (Nat × W32)
  | [], _ => none
  | none :: r, i => oldestMiss r (i + 1)
  | some m :: r, i => match oldestMiss r (i + 1) with
    | some (j, f) => if serialLe m.frame f then some (i, m.frame) else some (j, f)
    | none => some (i, m.frame)

/-- A notice enters the miss list; of a tally already listed it updates the frame (R192). -/
def State.listMiss (s : State) (m : Miss) : State :=
  match s.miss.findIdx? fun x => (x.map (·.tally)) == some m.tally with
  | some i => { s with miss := s.miss.set i ((s.miss.getD i none).map fun x => { x with frame := m.frame }) }
  | none => match s.miss.findIdx? Option.isNone with
    | some i => { s with miss := s.miss.set i (some m) }
    | none => match oldestMiss s.miss 0 with
      | some (i, _) => { s with miss := s.miss.set i (some m) }.raise Pg.WEIR 3 ST.MISSED (unitIdOf 2 s.devId 0) (m.race * 2 ^ 18 + m.dev) m.tally
      | none => s

/-- Items of core c with a registered wait on tally t that is not met. -/
def Core.waiters (k : Core) (t : Nat) : List Nat :=
  let queued := (k.fq ++ k.xq ++ k.wq).filterMap fun e => match e.wait with
    | some w => if w.tally = t ∧ !w.released then some e.item else none
    | none => none
  let seq := match k.seqWait, k.cur with
    | some w, some key => if w.tally = t then [key] else []
    | _, _ => []
  (seq ++ queued).eraseDups

/-- Waits already registered on a listed tally fail their items. -/
def State.failWaits (s : State) (t : Nat) : State :=
  (List.range 32).foldl (fun s c => ((s.core c).waiters t).foldl (fun s key => match (s.core c).item key with
    | some it => match s.missed it t with
      | some d => s.missItem c key d
      | none => s
    | none => s) s) s

/-- The tally that a notice names (MISS_T). -/
def missTally (m : Msg) : Nat := m.value.toNat % 16384

/-- A pruning notice enters the miss list and fails the waits it covers with MISSED. -/
def State.pruneIn (s : State) (m : Msg) : State :=
  (s.listMiss { tally := missTally m, frame := m.frame, dev := m.src.toNat, race := m.race.toNat }).failWaits (missTally m)

/-- A rejoin notice removes the miss-list entry. -/
def State.rejoinIn (s : State) (m : Msg) : State :=
  { s with miss := s.miss.map fun x => if (x.map (·.tally)) == some (missTally m) then none else x }

/-! ## The stream of another device (R279) -/

/-- A message is applied; the answer is the status and DETAIL that its acknowledgement carries. -/
def State.applyMsg (s : State) (m : Msg) (linkEcc : Bool) : State × Nat × Nat :=
  match m.op with
  | .rdReq => s.plainly fun s => s.answerRead m linkEcc
  | .wrMem => s.remoteWrite m
  | .xferOpen => s.xferIn m
  | .wrSp => s.spRowIn m
  | .tallySet => s.plainly fun s => s.tallyDo .link (msgTally m) true m.value
  | .tallyAdd => s.plainly fun s => s.tallyDo .link (msgTally m) false m.value
  | .wrTally => s.wrTallyIn m
  | .job => s.plainly fun s => s.jobIn m
  | .jobRsp => s.plainly fun s => s.rspIn m
  | .recMsg => s.plainly fun s => s.recIn m
  | .prune => s.plainly fun s => s.pruneIn m
  | .rejoin => s.plainly fun s => s.rejoinIn m
  | _ => (s, ST.OK, 0)

/-- Bytes of memory that a message reads or writes. -/
def msgLen (m : Msg) : Nat := if m.op = .rdReq then m.bytes.toNat + 1 else max 1 m.data.length

/-- The channel whose gate a message of the stream waits at (Table 9.3): of a read or write of this device's LPDDR5X that of its first byte. -/
def State.msgChan (s : State) (m : Msg) : Option Nat :=
  match m.op with
  | .rdReq | .wrMem | .wrTally => if s.regionOf m.addr.toNat (msgLen m) = some .lpddr then some (s.memChanOf m.addr.toNat) else none
  | _ => none

/-- The first message that waits in the stream of device d is applied; a duplicate read is acknowledged by its RD_RSP alone. -/
def State.applyHead (s : State) (d : Nat) (linkEcc : Bool) : State :=
  let i := s.inStream d
  match i.queue with
  | [] => s
  | (m, fresh) :: r =>
    let x := (s.setInStream d { i with queue := r }).applyMsg m linkEcc
    if fresh then x.1.oweAck d m.seq x.2.1 x.2.2 else x.1

/-- Messages of the stream of device d are applied in order up to one that waits at a gate; `fuel` is the queue's length. -/
def State.drainIn (s : State) (d : Nat) : Nat → State
  | 0 => s
  | fuel + 1 => match (s.inStream d).queue with
    | [] => s
    | x :: _ => if (s.msgChan x.1).isSome then s else (s.applyHead d false).drainIn d fuel

/-- Messages that wait in the stream of device d go on. -/
def State.drainStream (s : State) (d : Nat) : State := s.drainIn d (s.inStream d).queue.length

/-- A stream message by its SEQ (R279): in its place in the stream when it is the expected one. -/
def State.inOrder (s : State) (m : Msg) : State :=
  let d := m.src.toNat
  let i := s.inStream d
  if m.seq = i.expect then (s.setInStream d { i with expect := i.expect + 1, queue := i.queue ++ [(m, true)] }).drainStream d
  else if seqLe m.seq i.expect then
    let s := (s.bump Pg.LNK Off.LNK.DUP_CNT).sendAck d m.seq
    if m.op = .rdReq then (s.setInStream d { s.inStream d with queue := (s.inStream d).queue ++ [(m, false)] }).drainStream d else s
  else s.sendPlain d { op := .nak, seq := i.expect }

/-- RD_REQ (R279): a remote read request reads LPDDR5X and answers with RD_RSP, once MEMk has granted it (R184). -/
def execRdReq (dl : Fin 8) (m : Msg) (s : State) : Out := .next (s.onMsg dl m .rdReq fun s => s.inOrder m)
/-- WR_MEM (R279): a remote LPDDR5X write is applied in stream order, once MEMk has granted it (R184). -/
def execWrMem (dl : Fin 8) (m : Msg) (s : State) : Out := .next (s.onMsg dl m .wrMem fun s => s.inOrder m)
/-- XFER_OPEN (R172): a sluice transfer's extent is checked against the receiving core's open windows. -/
def execXferOpen (dl : Fin 8) (m : Msg) (s : State) : Out := .next (s.onMsg dl m .xferOpen fun s => s.inOrder m)
/-- WR_SP (R173): one row of an accepted sluice transfer is written. -/
def execWrSp (dl : Fin 8) (m : Msg) (s : State) : Out := .next (s.onMsg dl m .wrSp fun s => s.inOrder m)
/-- TALLY_SET (R279): a remote tally set is applied in stream order. -/
def execTallySet (dl : Fin 8) (m : Msg) (s : State) : Out := .next (s.onMsg dl m .tallySet fun s => s.inOrder m)
/-- TALLY_ADD (R279): a remote tally add is applied in stream order. -/
def execTallyAdd (dl : Fin 8) (m : Msg) (s : State) : Out := .next (s.onMsg dl m .tallyAdd fun s => s.inOrder m)
/-- WR_TALLY (R287): a fused write, then a tally add of 1 to tally VALUE[13:0]. -/
def execWrTally (dl : Fin 8) (m : Msg) (s : State) : Out := .next (s.onMsg dl m .wrTally fun s => s.inOrder m)
/-- JOB (R18): a job descriptor for a member unit arrives and runs its check round; or its quanta are run, or dropped (log entry 23). -/
def execJob (dl : Fin 8) (m : Msg) (s : State) : Out := .next (s.onMsg dl m .job fun s => s.inOrder m)
/-- JOB_RSP (R314): a member's check-round result arrives at the parent. -/
def execJobRsp (dl : Fin 8) (m : Msg) (s : State) : Out := .next (s.onMsg dl m .jobRsp fun s => s.inOrder m)
/-- REC (R314): a member's completion record arrives at the parent. -/
def execRecMsg (dl : Fin 8) (m : Msg) (s : State) : Out := .next (s.onMsg dl m .recMsg fun s => s.inOrder m)
/-- PRUNE (R192): a pruning notice enters the miss list and fails the waits it covers with MISSED. -/
def execPrune (dl : Fin 8) (m : Msg) (s : State) : Out := .next (s.onMsg dl m .prune fun s => s.inOrder m)
/-- REJOIN (R192): a rejoin notice removes the miss-list entry. -/
def execRejoin (dl : Fin 8) (m : Msg) (s : State) : Out := .next (s.onMsg dl m .rejoin fun s => s.inOrder m)

/-! ## Acknowledgements (R279, R280) -/

/-- A held message is covered by an acknowledgement up to a SEQ. -/
def HeldMsg.covered (h : HeldMsg) (seq : W16) : Bool := h.msg.op != .rdReq && decide ((seq - h.msg.seq).toNat < 0x8000)

/-- A message that a status can refuse (R279): a part of a sluice transfer with BOUNDS, a write with ECC_UNCORR or BOUNDS. -/
def HeldMsg.refusable (h : HeldMsg) : Bool :=
  match h.msg.op with
  | .xferOpen | .wrSp | .wrMem | .wrTally => true
  | _ => false

/-- The message that an acknowledgement refuses: the last it covers, or, where that one cannot be refused, the first that can (log entry 22). -/
def State.refusedHeld (s : State) (m : Msg) : Option HeldMsg :=
  if m.status = 0 then none
  else
    let l := (s.outStream m.src.toNat).held.filter fun h => h.covered m.seq && h.refusable
    (l.find? fun h => h.msg.seq == m.seq) <|> l.head?

/-- What an acknowledgement's status does to the work of the message it refuses (R174, R248, R279). -/
def State.ackFailed (s : State) (m : Msg) (h : HeldMsg) : State :=
  if m.status.toNat = ST.BOUNDS then
    (if unitKind m.detail.toNat = 2 then s.outside h else s.boundsFail h.core h.entry h.item m.detail.toNat)
  else s.heldFail h m.status.toNat 0

/-- An acknowledgement arrives. -/
def State.ackIn (s : State) (m : Msg) : State :=
  let r := s.refusedHeld m
  let s := s.dropHeld m.src.toNat fun h => h.covered m.seq
  match r with
  | some h => s.ackFailed m h
  | none => s

/-- ACK (R279): a cumulative acknowledgement frees held messages and completes acknowledged writes. -/
def execAck (dl : Fin 8) (m : Msg) (s : State) : Out := .next (s.onMsg dl m .ack fun s => s.ackIn m)

/-- A message leaves again, and the resend is counted; one that still waits to leave stays where it is. -/
def State.resend (s : State) (d : Nat) (h : HeldMsg) : State :=
  if s.waitsToLeave h.msg then s
  else
    let o := s.outStream d
    let s := s.setOutStream d { o with held := modFirst (fun x => x.msg.seq = h.msg.seq) (fun x => { x with last := s.now }) o.held }
    (s.emitRouted h.msg).bump Pg.LNK Off.LNK.RESEND_CNT

/-- The record of a REC message that is abandoned is logged (R314). -/
def State.logAbandoned (s : State) (h : HeldMsg) : State :=
  if h.msg.op = .recMsg then s.logEvent Pg.LNK (wf h.msg.words 2 31 24) (wf h.msg.words 2 23 0) h.msg.dst.toNat (recTag h.msg.words) else s

/-- A message that is given up leaves no more, wherever it waits. -/
def State.unsend (s : State) (d : Nat) (h : HeldMsg) : State :=
  let o := s.outStream d
  let s := s.setOutStream d { o with wait := o.wait.erase h }
  { s with links := { s.links with
      wait := s.links.wait.filter fun x => x ≠ h.msg
      ports := s.links.ports.map fun k => { k with txq := k.txq.filter fun x => x ≠ h.msg } } }

/-- A held message is abandoned (R280, R314), or one that no SEQ was given to. -/
def State.abandon (s : State) (d : Nat) (h : HeldMsg) : State :=
  let s := if (s.outStream d).wait.contains h then s else s.dropHeld d fun x => decide (x.msg.seq = h.msg.seq)
  let s := s.unsend d h
  let s := { s with ue := s.ue.filter fun e => e ≠ EccLoc.store d h.msg.seq.toNat }
  let s := ((s.bump Pg.LNK Off.LNK.LOST_CNT).wrF Pg.LNK Off.LNK.LNK_ERR 8 0 d).raise Pg.LNK 0 ST.LINK_LOST (unitIdOf 2 s.devId 0) d
  let s := s.logAbandoned h
  let s := if h.core < 32 then s.failItem h.core h.item ST.LINK_LOST d else s
  s.loseDevice d

/-- A held message leaves again, or is abandoned where a word of its copy is uncorrectable (R306). -/
def State.resendOrLose (s : State) (d : Nat) (h : HeldMsg) : State :=
  if s.ue.contains (.store d h.msg.seq.toNat) then s.abandon d h else s.resend d h

/-- NAK (R280): every held message of the stream leaves again. -/
def execNak (dl : Fin 8) (m : Msg) (s : State) : Out :=
  .next (s.onMsg dl m .nak fun s => (s.outStream m.src.toNat).held.foldl (fun s h => s.resendOrLose m.src.toNat h) s)

/-- ACK_SEND (R279): every 0.5 µs while messages are unacknowledged, the receiver sends ACK. -/
def execAckSend (dev : BitVec 9) (s : State) : Out :=
  .next (if (s.inStream dev.toNat).owed then s.sendAck dev.toNat (s.inStream dev.toNat).from_ else s)

/-- A message of the stream to device d has stayed unacknowledged for RESEND periods. -/
def State.resendDue (s : State) (d : Nat) : Bool :=
  (s.outStream d).held.any fun h => h.left && decide (h.last.toNat + s.rdF Pg.LNK Off.LNK.E2E_CTRL 15 0 ≤ s.now.toNat)

/-- E2E_RESEND (R280): once a message is unacknowledged for RESEND periods, every held message of its stream leaves again. -/
def execE2eResend (dev : BitVec 9) (t : W64) (s : State) : Out :=
  .next (s.atTime t fun s =>
    if s.resendDue dev.toNat then (s.outStream dev.toNat).held.foldl (fun s h => s.resendOrLose dev.toNat h) s else s)

/-- LIMIT of E2E_CTRL. -/
def State.e2eLimit (s : State) : Nat := s.rdF Pg.LNK Off.LNK.E2E_CTRL 31 16

/-- A started transfer has a row for device d. -/
def State.rowFor (s : State) (d : Nat) (x : Nat × Queue × QEntry × Item × (Nat × Nat)) : Bool :=
  match x.2.2.1.op with
  | .fHop _ _ | .wGlz _ _ => false
  | _ => decide ((s.rowMem x.1 x.2.2.2.1 x.2.2.1 x.2.2.2.2).1 = d)

/-- Transfers whose rows wait at their lanes for a route to another device d, and have waited LIMIT periods (R144, R282, R285; log
entry 42): core, queue and key of each. -/
def State.routeWaiters (s : State) (d : Nat) : List (Nat × Queue × Nat) :=
  if d = s.devId ∨ (s.egress d).isSome then []
  else
    let since := SMap.get (fun _ => 0) s.links.noRoute d
    ((s.pendingRows.filter fun x => s.rowFor d x &&
      decide (max since.toNat x.2.2.1.movedAt.toNat + s.e2eLimit ≤ s.now.toNat)).map fun x => (x.1, x.2.1, x.2.2.1.key)).eraseDups

/-- The messages of a transfer that found no route to device d are abandoned: its item fails with LINK_LOST (R144). -/
def State.abandonRows (s : State) (d : Nat) (x : Nat × Queue × Nat) : State :=
  match ((s.core x.1).q x.2.1).find? fun e => e.key == x.2.2 with
  | none => s
  | some e =>
    let it := (s.core x.1).item e.item
    let keep := e.pend.filter fun p => match it with
      | some it => !(s.rowFor d (x.1, x.2.1, e, it, p))
      | none => false
    let s := s.modCore x.1 fun k => k.modEntry x.2.1 e.key fun e => { e with pend := keep }
    let s := ((s.bump Pg.LNK Off.LNK.LOST_CNT).wrF Pg.LNK Off.LNK.LNK_ERR 8 0 d).raise Pg.LNK 0 ST.LINK_LOST (unitIdOf 2 s.devId 0) d
    (s.failItem x.1 e.item ST.LINK_LOST d).loseDevice d

/-- E2E_LIMIT_EXPIRY (R280): messages held for LIMIT periods, and those that waited so long for a route, are abandoned and their items
fail with LINK_LOST. -/
def execE2eLimitExpiry (dev : BitVec 9) (t : W64) (s : State) : Out :=
  .next (s.atTime t fun s =>
    let s := ((s.outStream dev.toNat).all.filter fun h => decide (h.first.toNat + s.e2eLimit ≤ s.now.toNat)).foldl
      (fun s h => s.abandon dev.toNat h) s
    (s.routeWaiters dev.toNat).foldl (fun s x => s.abandonRows dev.toNat x) s)

/-! ## Neighbours (R283) -/

/-- A neighbour's HELLO. -/
def State.helloIn (s : State) (d : Nat) (m : Msg) : State :=
  let clash := decide (m.src.toNat = s.devId)
  let s := s.modLink d fun k => { k with peerDev := m.src.toNat, conflict := clash }
  let s := if clash then (s.wrF Pg.LNK Off.LNK.LNK_ERR 8 0 m.src.toNat).raise Pg.LNK 1 ST.STATE (unitIdOf 2 s.devId 0) d else s
  s.discover

/-- HELLO (R283): a neighbour's identity sets PEER_DEV or flags an ID conflict. -/
def execHello (dl : Fin 8) (m : Msg) (s : State) : Out := .next (s.onLinkMsg dl m .hello fun s => s.helloIn dl m)

/-- Entries of a distance vector replace those held for the same devices. -/
def mergeAdv (old new : List AdvEntry) : List AdvEntry := (old.filter fun a => !(new.any fun b => b.dev == a.dev)) ++ new

/-- ROUTE_ADV (R283): a distance vector is received and discovery recomputes the routes. -/
def execRouteAdv (dl : Fin 8) (m : Msg) (s : State) : Out :=
  .next (s.onLinkMsg dl m .routeAdv fun s => (s.modLink dl fun k => { k with adv := mergeAdv k.adv m.adv }).discover)

/-- MESSAGE_FORWARD (R282): a message for another device is passed on by its route, or discarded for lack of a route or at hop 15. -/
def execMessageForward (dl : Fin 8) (m : Msg) (s : State) : Out :=
  .next (if m.dst.toNat = s.devId ∨ m.op = .hello ∨ m.op = .routeAdv then s else s.onMsg dl m m.op id)

end Sys2Proof.Machine
end

