-- ==== Sys2Proof/Machine/Gates.lean ====
section
/-! DEFINITION. The weir's gates (Table 9.3, R184, R186): the rows of this device's lanes, reads and writes that arrived over links, messages
to pass on, and the patrol scrubber (R250). -/
namespace Sys2Proof.Machine

/-- What a gate may grant: a row of a transfer, a read or write of the stream of another device, a message to pass on at a port. -/
inductive GateWork where
  | row (core : Nat) (q : Queue) (entry : QEntry) (item : Item) (row : Nat × Nat)
  | msg (dev : Nat) (m : Msg)
  | pass (port : Nat) (m : Msg)
deriving DecidableEq, Repr

/-- What a gate may grant, with what R186 orders it by: urgency, tie port, race, core, and its place (rows of this device before what came
over links: log entry 49). -/
structure GateRow where
  keys : List Nat
  work : GateWork
deriving DecidableEq, Repr

def lexLt : List Nat → List Nat → Bool
  | a :: as, b :: bs => decide (a < b) || (decide (a = b) && lexLt as bs)
  | _, _ => false

/-- The first row in the order of R186. -/
def firstRow : List GateRow → Option GateRow
  | [] => none
  | x :: xs => match firstRow xs with
    | none => some x
    | some y => if lexLt y.keys x.keys then some y else some x

/-- The lines of an F.HOP row have arrived (R39). -/
def State.rowArrived (s : State) (it : Item) (e : QEntry) (p : Nat × Nat) : Bool :=
  match e.op, it.claim with
  | .fHop _ _, some cl => (e.hopLines p.1).all fun l => s.hopLineSt cl l == .delivered
  | _, _ => true

/-- Writes of one WQ to staging go in its order (R269): no row before it in the queue waits at the gate HOST. -/
def State.inWriteOrder (s : State) (g : Gate) (c : Nat) (q : Queue) (it : Item) (e : QEntry) (p : Nat × Nat) : Bool :=
  g != .host || q != .wq ||
  ((s.pendingRows.filter fun x => x.1 == c && x.2.1 == .wq && s.rowGate x.1 x.2.2.2.1 x.2.2.1 x.2.2.2.2 == some .host).head?.map fun x =>
    decide (x.2.2.1.key = e.key ∧ x.2.2.2.2 = p ∧ x.2.2.2.1.key = it.key)) == some true

/-- Rows of this device's lanes that a gate may grant now. -/
def State.laneRows (s : State) (g : Gate) : List GateRow :=
  (s.pendingRows.zipIdx).filterMap fun x =>
    let (c, q, e, it, p) := x.1
    if s.rowGate c it e p = some g ∧ s.rowArrived it e p ∧ !(s.rowShort c it e p) ∧ s.inWriteOrder g c q it e p then
      some { keys := [s.urgency (e.race.getD 0) c, it.tiePort, e.race.getD 0, c, x.2], work := .row c q e it p }
    else none

/-- What R186 orders a message by, behind n others. -/
def msgKeys (m : Msg) (n : Nat) : List Nat := [m.urg.toNat, m.tie.toNat, m.race.toNat, m.core.toNat, n]

/-- Reads and writes of other devices that a gate may grant now: the first of each stream (R184, R279). -/
def State.linkRows (s : State) (g : Gate) : List GateRow :=
  s.links.inn.filterMap fun d => match d.2.queue with
    | x :: _ => match s.msgChan x.1, g with
      | some k, .mem k' => if k = k'.val then some { keys := msgKeys x.1 (2 ^ 32 + d.1), work := .msg d.1 x.1 } else none
      | _, _ => none
    | [] => none

/-- Messages that a link port's gate may pass on now (R281). -/
def State.passRows (s : State) (g : Gate) : List GateRow :=
  match g with
  | .dl d => (s.link d).fwd.zipIdx.map fun x => { keys := msgKeys x.1 (2 ^ 33 + x.2), work := .pass d x.1 }
  | _ => []

/-- What is pending at a gate that it may grant now. -/
def State.gateRows (s : State) (g : Gate) : List GateRow := s.laneRows g ++ s.linkRows g ++ s.passRows g

/-- A row of a lane is granted: its lane counts the scratchpad-side bytes, and the row moves (R184). -/
def State.grantRow (s : State) (c : Nat) (q : Queue) (e : QEntry) (it : Item) (row : Nat × Nat) (linkEcc : Bool) : State :=
  let e := { e with pend := e.pend.filter fun p => p ≠ row, movedAt := s.now }
  let r := e.race.getD 0
  let s := s.modCore c fun k => k.modEntry q e.key fun _ => e
  let s := if (s.lane r c).item = e.item then s.laneGrant r c (rowBytes e row) else s.bumpRace r Off.RACE.RS_GRANT_CNT
  (s.moveRow c it e row e.pend.isEmpty linkEcc).settleQueue c q

/-- A gate grants what it has chosen. -/
def State.grant (s : State) (x : GateRow) (linkEcc : Bool) : State :=
  match x.work with
  | .row c q e it row => s.grantRow c q e it row linkEcc
  | .msg d _ => (s.applyHead d linkEcc).drainStream d
  | .pass p m => (s.modLink p fun k => { k with fwd := k.fwd.erase m }).emit p m

/-- Bands that wait for their slots try again before a glaze gate grants (R237). -/
def State.retryBands (s : State) (g : Gate) : State :=
  match g with
  | .glz n => ((s.glaze n).bands.filter fun b => !b.closed && b.since.isSome).foldl (fun s b => s.trySlots n b false) s
  | _ => s

/-- GATE_GRANT (R186): the gate grants one pending row to the most urgent lane not short of space. -/
def execGateGrant (turn : GateTurn) (s : State) : Out :=
  .next (let s := s.retryBands turn.gate
    match firstRow (s.gateRows turn.gate) with
    | some x => (s.grant x turn.linkEcc).scanBlocked
    | none => s.scanBlocked)

/-- MEM_PATROL_SCRUB (R250): with inline SECDED and the scrubber on, the next data sector of a channel is read and corrected. It takes MEMk only
when no row waits there. -/
def execMemPatrolScrub (chan : Fin 8) (s : State) : Out :=
  .next (if s.chanFitted chan ∧ s.memEcc ∧ s.rdB Pg.MEM Off.MEM.SCRUB_CTRL 31 ∧ (s.gateRows (.mem chan)).isEmpty then s.scrubSector chan else s)

end Sys2Proof.Machine
end

