-- ==== Sys2Proof/Machine/GlazeRegs.lean ====
section
/-! DEFINITION. The GLZ pages (R239, R373): contexts, arming, scaling coefficients. -/
namespace Sys2Proof.Machine

/-- The context that CTX_SEL of unit g selects. -/
def State.glzSel (s : State) (g : Nat) : Nat := s.rdF (Pg.GLZ g) Off.GLZ.CTX_SEL 3 0

/-- Context x of unit g is armed. -/
def State.ctxArmed (s : State) (g x : Nat) : Bool := (s.glaze g).armed.contains x

/-- A command or context write of unit g is refused. -/
def State.glzRefuse (s : State) (g code : Nat) : State :=
  (s.wrF (Pg.GLZ g) Off.GLZ.CTX_CMD 23 16 code).logState (Pg.GLZ g) code (unitIdOf 2 s.devId 0) Off.GLZ.CTX_CMD

/-- Bytes of the ring of a context. -/
def GCtx.ringBytes (x : GCtx) : Nat := 2 ^ x.nsl * x.slotSize

/-- The ring lies in the region that DEST names (R236). -/
def State.ringFits (s : State) (x : GCtx) : Bool :=
  let a := rigLocal x.base
  match x.dest with
  | 0 => decide (rigDev x.base = s.devId) && match s.regionOf a x.ringBytes with
    | some (.staging _) => true
    | _ => false
  | 1 => decide (a + x.ringBytes ≤ if rigDev x.base = s.devId then s.memTop else lpddrEnd)
  | 2 => decide (x.base.toNat % 2 ^ 22 + x.ringBytes ≤ 0x400000)
  | _ => false

/-- The taps of every phase of a context sum to 256 (R229). -/
def State.tapsGood (s : State) (g x : Nat) : Bool :=
  (List.range 64).all fun p =>
    decide (((List.range 8).map fun t => (SMap.get (fun _ => (0 : BitVec 10)) (s.glaze g).coefs (512 * x + 8 * p + t)).toInt).sum = 256)

/-- ARM finds nothing to refuse (R239). -/
def State.armGood (s : State) (g i : Nat) : Bool :=
  let x := s.glzCtx g i
  let elem := if x.int16 then 2 else 1
  let sub := if x.quad then 3 * x.sub else 0
  decide (fld (s.glzReg g i Off.GLZ.C_FMT) 30 29 ≠ 3 ∧ x.dest ≠ 3 ∧ x.nsl ≤ 4) &&
  decide (2 ≤ x.height ∧ 64 ≤ x.width ∧ x.width ≤ 8192) &&
  decide (1 ≤ x.stride) && x.ofs.all (fun o => decide (o + sub + elem ≤ x.stride)) && decide (x.inSh ≤ 8) &&
  (if x.hEn then decide (x.width ≤ 8 * x.outW ∧ x.outW ≤ x.width) && s.tapsGood g i else decide (x.outW = x.width)) &&
  decide (x.yBytes ≤ x.yPitch) && (!(fmt420 x.fmt) || decide (x.cBytes ≤ x.cPitch)) &&
  decide (2 ≤ x.slotLines ∧ x.slotLines ≤ 128 ∧ x.slotLines % x.c = 0) &&
  decide (x.base.toNat % 64 = 0) && s.ringFits x && decide (1 ≤ x.hold)

/-- The contexts armed, with context x armed or not. -/
def Glz.setArmed (z : Glz) (x : Nat) (on : Bool) : Glz :=
  { z with armed := (List.range 16).filter fun i => if i = x then on else z.armed.contains i }

/-- ARM of the selected context: its slots belong to no group yet. -/
def State.ctxArm (s : State) (g : Nat) : State :=
  let x := s.glzSel g
  if !(s.armGood g x) then s.glzRefuse g ST.BAD_DESC
  else if s.ctxArmed g x then s
  else s.modGlaze g fun z => { z.setArmed x true with slots := z.slots.clear (16 * x) (16 * x + 16) }

/-- CTX_ARM (R239): validates and arms the selected glaze context. -/
def execCtxArm (_src : Agent) (glz : Fin 8) (s : State) : Out := .next (s.ctxArm glz)

/-- DISARM of the selected context: refused while it has an open band. -/
def State.ctxDisarm (s : State) (g : Nat) : State :=
  let x := s.glzSel g
  if (s.glaze g).bands.any fun b => b.ctx == x && !b.closed then s.glzRefuse g ST.STATE else s.modGlaze g fun z => z.setArmed x false

/-- CTX_DISARM (R239): disarms a context with no open band. -/
def execCtxDisarm (_src : Agent) (glz : Fin 8) (s : State) : Out := .next (s.ctxDisarm glz)

/-- A CTX_CMD write by its CMD field. -/
def State.ctxCmd (s : State) (g : Nat) (v : W32) : State :=
  match fld v 1 0 with
  | 0 => s
  | 1 => s.ctxArm g
  | 2 => s.ctxDisarm g
  | _ => s.glzRefuse g ST.BAD_DESC

/-- A write to a register of the selected context: refused while it is armed. -/
def State.ctxWrite (s : State) (g off : Nat) (v : W32) : State :=
  let x := s.glzSel g
  if s.ctxArmed g x then s.glzRefuse g ST.STATE else s.wrMasked (Pg.GLZ g) off v x

/-- Place of the coefficient that COEF_SEL addresses, and COEF_SEL moved on (R373). -/
def State.coefAt (s : State) (g : Nat) : Nat := 512 * s.glzSel g + s.rdF (Pg.GLZ g) Off.GLZ.COEF_SEL 8 0 (s.glzSel g)
def State.coefNext (s : State) (g : Nat) : State :=
  s.wrF (Pg.GLZ g) Off.GLZ.COEF_SEL 8 0 ((s.rdF (Pg.GLZ g) Off.GLZ.COEF_SEL 8 0 (s.glzSel g) + 1) % 512) (s.glzSel g)

/-- The coefficient that COEF_DATA shows. -/
def State.coefWord (s : State) (g : Nat) : W32 := (SMap.get (fun _ => (0 : BitVec 10)) (s.glaze g).coefs (s.coefAt g)).setWidth 32

/-- A COEF_DATA write. -/
def State.coefWrite (s : State) (g : Nat) (v : W32) : State :=
  if s.ctxArmed g (s.glzSel g) then s.glzRefuse g ST.STATE
  else (s.modGlaze g fun z => { z with coefs := SMap.set (fun _ => 0) z.coefs (s.coefAt g) (v.setWidth 10) }).coefNext g

/-- COEF_DATA_WRITE (R373): stores a scaling coefficient and advances COEF_SEL. -/
def execCoefDataWrite (_src : Agent) (glz : Fin 8) (v : W32) (s : State) : Out := .next (s.coefWrite glz v)

/-- COEF_DATA_READ (R373): a read by the management controller advances COEF_SEL. -/
def execCoefDataRead (glz : Fin 8) (s : State) : Out := .next { s.coefNext glz with out := [s.coefWord glz] }

end Sys2Proof.Machine
end

