-- ==== Sys2Proof/Machine/Container.lean ====
section
/-! DEFINITION. Signed containers (R324, R325), the board record of an image (R347), configuration sets and profiles as their bytes give
them (R330, R331). -/
namespace Sys2Proof.Machine

/-- Bytes o to o + n - 1 of a list. -/
def slice (bs : List Byte) (o n : Nat) : List Byte := (bs.drop o).take n

/-- Little-endian 32-bit word at byte o. -/
def w32At (bs : List Byte) (o : Nat) : W32 := BitVec.ofNat 32 (ofBytes (slice bs o 4))

/-- n up to the next multiple of 16. -/
def up16 (n : Nat) : Nat := (n + 15) / 16 * 16

/-! ## Container (Table 18.4) -/

def contKind (b : List Byte) : Nat := fld (w32At b 4) 31 24
def contSigner (b : List Byte) : Nat := fld (w32At b 4) 15 8
def contLevel (b : List Byte) : Nat := fld (w32At b 4) 7 0
def contVersion (b : List Byte) : W32 := w32At b 8
def contFloor (b : List Byte) : W32 := w32At b 12
def contBodyLen (b : List Byte) : Nat := (w32At b 16).toNat
def contNsect (b : List Byte) : Nat := fld (w32At b 20) 15 0
def contDigest (b : List Byte) : List Byte := slice b 0x20 64
def contBody (b : List Byte) : List Byte := slice b 128 (contBodyLen b)
def contKey (b : List Byte) : List Byte := slice b (128 + contBodyLen b) 1952
def contSig (b : List Byte) : List Byte := slice b (128 + contBodyLen b + 1952) 3309
/-- Bytes of a container with a body of n bytes (R324). -/
def contSize (n : Nat) : Nat := up16 (128 + n + 1952 + 3309)

/-- A section: type, ARG0, ARG1, its bytes, and where it lies in the body. -/
structure Sect where
  ty : Nat
  arg0 : Nat
  arg1 : W32
  off : Nat
  bytes : List Byte
deriving DecidableEq, Repr

/-- Section entry i of a body. -/
def sectAt (body : List Byte) (i : Nat) : Sect :=
  let o := (w32At body (16 * i + 4)).toNat
  { ty := fld (w32At body (16 * i)) 31 24, arg0 := fld (w32At body (16 * i)) 23 0, arg1 := w32At body (16 * i + 12), off := o,
    bytes := slice body o (w32At body (16 * i + 8)).toNat }

def sectsOf (b : List Byte) : List Sect := (List.range (contNsect b)).map (sectAt (contBody b))

/-- Sections of a type. -/
def sectsTyped (b : List Byte) (ty : Nat) : List Sect := (sectsOf b).filter fun x => x.ty = ty

/-- Section types of a container kind (Table 18.5). -/
def kindSects (kind : Nat) : List Nat :=
  if kind = 1 then [1, 2] else if kind = 2 then [0x10, 0x11, 0x12, 0x13] else if kind = 3 then [0x20] else [0x30]

/-- No two sections share a byte. -/
def disjointSects : List (Nat × Nat) → Bool
  | [] => true
  | (o, n) :: r => (r.all fun x => decide (o + n ≤ x.1 ∨ x.1 + x.2 ≤ o ∨ n = 0 ∨ x.2 = 0)) && disjointSects r

/-- The section rules of R324. -/
def sectsGood (b : List Byte) (kind : Nat) : Bool :=
  let body := contBody b
  let es := (List.range (contNsect b)).map fun i => ((w32At body (16 * i + 4)).toNat, (w32At body (16 * i + 8)).toNat)
  decide (16 * contNsect b ≤ contBodyLen b) && (es.all fun x => decide (x.1 % 16 = 0 ∧ x.1 + x.2 ≤ contBodyLen b)) && disjointSects es &&
  (sectsOf b).all fun x => (kindSects kind).contains x.ty

/-- Signer of a container kind (Table 18.6). -/
def kindSigner (kind : Nat) : Nat := if kind = 1 then 1 else if kind = 3 then 3 else 2

def zeros (bs : List Byte) : Bool := bs.all fun x => x == 0

/-- Check 1 of R325. -/
def contForm (b : List Byte) (kind : Nat) : Bool :=
  decide (128 ≤ b.length ∧ b.length = contSize (contBodyLen b) ∧ b.length ≤ 0x1000000) &&
  decide (w32At b 0 = 0x435A4541 ∧ contKind b = kind ∧ fld (w32At b 4) 23 16 = 1 ∧ contSigner b = kindSigner kind) &&
  (if kind = 1 then decide (contLevel b = 1 ∨ contLevel b = 2) else decide (contLevel b = 0)) &&
  (decide (kind = 1 ∨ kind = 2) || decide (contFloor b = 0)) &&
  decide (contBodyLen b % 16 = 0 ∧ fld (w32At b 20) 31 16 = 0 ∧ 1 ≤ contNsect b ∧ contNsect b ≤ 256) &&
  zeros (slice b 0x18 8) && zeros (slice b 0x60 32) && zeros (b.drop (128 + contBodyLen b + 1952 + 3309)) && sectsGood b kind

/-- Fingerprint of a public key (R325). -/
def keyFp (k : List Byte) : List Byte := Config.shake256 k 32

/-- A container under R325: the status code, OK where it is accepted. `more` are the further form checks of its kind (R330, R331, R347), `ver` the
version rule. -/
def checkContainer (b : List Byte) (kind : Nat) (fp : List Byte) (more ver : Bool) : Nat :=
  if !(contForm b kind) ∨ !more then ST.BAD_DESC
  else if keyFp (contKey b) ≠ fp then ST.AUTH_FAIL
  else if Config.shake256 (contBody b) 64 ≠ contDigest b then ST.AUTH_FAIL
  else if !(Config.mldsaVerify (contKey b) (slice b 0 128) (contSig b)) then ST.AUTH_FAIL
  else if !ver then ST.VERSION
  else ST.OK

/-- Host window SRAM of a channel. -/
def stagingRegion : Region → Bool
  | .staging _ => true
  | _ => false

/-- n bytes from a local address on lie in one channel's host window SRAM. -/
def State.inStaging (s : State) (a n : Nat) : Bool := (s.regionOf a n).any stagingRegion

/-- Size of the container at a local address, by its header. -/
def State.sizeAt (s : State) (a : Nat) : Nat := contSize (w32At (s.bytes a 128) 16).toNat

/-- The container at a local address, which must lie in host window SRAM (R328, R332): its bytes; none where it does not, or where a word of it
is uncorrectable. -/
def State.containerAt (s : State) (a : Nat) : Option (List Byte) :=
  if s.inStaging a 128 ∧ s.sizeAt a ≤ 0x1000000 ∧ s.inStaging a (s.sizeAt a) ∧ (s.ueWords a (s.sizeAt a)).isEmpty then some (s.bytes a (s.sizeAt a))
  else none

/-! ## The board record (Table 19.4) -/

/-- The BOARD section of an image, 64 bytes. -/
def boardOf (b : List Byte) : Option (List Byte) :=
  match sectsTyped b 2 with
  | [x] => if x.bytes.length = 64 then some x.bytes else none
  | _ => none

/-- The ranges of Table 19.4 hold and its RSV fields are 0. -/
def boardGood (r : List Byte) : Bool :=
  let w := fun o => w32At r o
  decide (fld (w 0) 31 28 = 1 ∧ fld (w 0) 27 9 = 0) &&
  decide (fld (w 4) 24 22 ≤ fld (w 4) 27 25 ∧ fld (w 4) 21 0 = 0) &&
  decide (fld (w 8) 29 28 = 0 ∧ fld (w 0xC) 31 7 = 0) &&
  decide (fld (w 0x18) 29 27 = 0 ∧ fld (w 0x18) 19 0 = 0 ∧ fld (w 0x24) 31 8 = 0 ∧ fld (w 0x2C) 31 4 = 0) &&
  decide (fld (w 0x30) 15 0 ≤ fld (w 0x30) 31 16 ∧ 550 ≤ fld (w 0x30) 15 0 ∧ fld (w 0x30) 31 16 ≤ 880) && zeros (slice r 0x38 8)

/-- The further form checks of an image. -/
def imageGood (b : List Byte) : Bool :=
  match boardOf b with
  | some r => boardGood r
  | none => false

/-- An image under R325 with its version rule (R327, R328). Blank fuses take the key of the first image (Table 18.6). -/
def State.checkImage (s : State) (b : List Byte) : Nat :=
  checkContainer b 1 (s.trayFp.getD (keyFp (contKey b))) (imageGood b) (decide (s.mram.fwFloor.toNat ≤ (contVersion b).toNat))

/-! ## Profiles (Table 18.7) -/

def profModes (p : List Byte) : Nat := fld (w32At p 0) 31 28
def profGx (p : List Byte) : Nat := fld (w32At p (0x30 + 24)) 30 24
def profGy (p : List Byte) : Nat := fld (w32At p (0x30 + 24)) 22 16
def profCount (p : List Byte) : Nat := fld (w32At p (0x30 + 28)) 13 0
def profSteps (p : List Byte) : Nat := fld (w32At p 0x1C) 9 0
/-- Bytes of the gain knots, padded to 4. -/
def profGainBytes (p : List Byte) : Nat := (8 * profGx p * profGy p + 3) / 4 * 4
/-- Length that the fields of a PROFILE section give it (R331). -/
def profLen (p : List Byte) : Nat := 0x204 + profGainBytes p + 4 * profCount p + 8 * profSteps p

/-- A mode of a profile. -/
def modeAt (p : List Byte) (i : Nat) : SMode :=
  let o := 0x80 + 16 * i
  let a := w32At p o
  let b := w32At p (o + 4)
  let c := w32At p (o + 8)
  { phy := fld a 31 30, lanes := fld a 29 27, dt := fld a 26 21, vc := fld a 20 16, rate := fld a 15 0, height := fld b 29 16,
    width := fld b 13 0, pixRate := fld c 31 16, pack := fld c 15 14, start := fld c 9 0, stop := fld (w32At p (o + 12)) 9 0 }

/-- A script step. -/
def stepAt (p : List Byte) (o : Nat) : SStep :=
  let hi := w32At p (o + 4)
  { op := fld hi 31 24, bytes := fld hi 23 22 + 1, addr := fld hi 15 0, data := w32At p o }

/-- A profile as its section gives it. -/
def profileOf (x : Sect) : Profile :=
  let p := x.bytes
  let g := 0x204 + profGainBytes p
  let d := g + 4 * profCount p
  { id := x.arg0 % 2 ^ 16, static := fld (w32At p 0) 24 18, i2c := bit (w32At p 0) 17, wideId := bit (w32At p 0) 16,
    idReg := fld (w32At p 4) 15 0,
    provId := if bit (w32At p 0x14) 31 then some (fld (w32At p 0x14) 15 0 * 2 ^ 32 + (w32At p 0x10).toNat) else none,
    latency := fld (w32At p 0) 27 25, initStep := fld (w32At p 4) 25 16, idValue := w32At p 8, idMask := w32At p 12,
    colours := (List.range 4).map fun i => fld (w32At p 0x18) (2 * i + 1) (2 * i),
    expMap := (List.range 4).map fun i => w32At p (0x20 + 4 * i),
    images := (List.range 17).map fun i => w32At p (0x30 + 4 * i),
    modes := (List.range (profModes p)).map (modeAt p),
    knots := (List.range 65).map fun i => fld (w32At p (0x100 + 4 * i)) 23 0,
    gains := (List.range (4 * profGx p * profGy p)).map fun i => ofBytes (slice p (0x204 + 2 * i) 2),
    defects := (List.range (profCount p)).map fun i => fld (w32At p (g + 4 * i)) 27 0,
    steps := (List.range (profSteps p)).map fun i => stepAt p (d + 8 * i) }

/-- A PROFILE section obeys R331 and its register images R45. -/
def profileGood (x : Sect) : Bool :=
  let p := x.bytes
  decide (0x204 ≤ p.length ∧ p.length = profLen p ∧ 1 ≤ profModes p ∧ profModes p ≤ 8 ∧ fld (w32At p 0) 27 25 ≤ 4 ∧
    1 ≤ profSteps p ∧ profSteps p ≤ 512) &&
  (List.range 17).all fun i => !(spBad 0 (corrOffs.getD i 0) (w32At p (0x30 + 4 * i)))

/-! ## Sets (R330) -/

/-- Candidate profile IDs of a PORTMAP section, port by port; 0xFFFF is no profile. -/
def portmapOf (x : Sect) : List (List Nat) :=
  (List.range 24).map fun n => (List.range 4).map fun i => ofBytes (slice x.bytes (8 * n + 2 * i) 2)

/-- Core masks name no core twice. -/
def masksDisjoint : List W32 → Bool
  | [] => true
  | m :: r => (r.all fun x => (m &&& x) == 0) && masksDisjoint r

/-- A set obeys R330 and R331. -/
def setGood (b : List Byte) : Bool :=
  let ps := sectsTyped b 0x11
  let bs := sectsTyped b 0x12
  (match sectsTyped b 0x10 with
    | [x] => decide (x.bytes.length = 192) && ((portmapOf x).flatten).all fun i => decide (i = 0xFFFF) || ps.any fun p => decide (p.arg0 % 2 ^ 16 = i)
    | _ => false) &&
  decide (1 ≤ ps.length ∧ ps.length ≤ 64 ∧ bs.length ≤ 32 ∧ (sectsTyped b 0x13).length ≤ 64) && ps.all profileGood &&
  (bs.all fun x => decide (x.bytes.length = 0x8000)) && masksDisjoint (bs.map (·.arg1))

/-- A set as its container gives it. -/
def setOf (b : List Byte) : CfgSet :=
  { version := contVersion b, portmap := (sectsTyped b 0x10).flatMap portmapOf, profiles := (sectsTyped b 0x11).map profileOf,
    banks := (sectsTyped b 0x12).map fun x => (x.arg1, words32 x.bytes),
    data := (sectsTyped b 0x13).map fun x => (x.arg0 % 2 ^ 7 * 2 ^ 32 + x.arg1.toNat, x.bytes), digest := (contDigest b).take 32 }

end Sys2Proof.Machine
end

