-- ==== Sys2Proof/Machine/SetOps.lean ====
section
/-! DEFINITION. Loading configuration sets (R108, R332, R336, R337, R349): the active set at a start, a new set by LOAD, the previous set
after READY. -/
namespace Sys2Proof.Machine

/-! ## Banks -/

/-- Words of an empty directory are 0. -/
def State.emptyDir (s : State) (c : Nat) (b : Bool) : State := (List.range 32).foldl (fun s i => s.imemPut c b i 0) s

/-- The load check of one entry ends (R118). -/
def State.endCheck (s : State) (c : Nat) (b : Bool) (e : Nat) : State :=
  if dirUsed ((s.core c).dirHi b e) then s.checkEnds (Fin.ofNat 32 c) b e false else s

/-- A bank image is written by the management controller, the directory entries' upper words last, and every load check ends (R108, R114). -/
def State.loadBank (s : State) (c : Nat) (b : Bool) (ws : List W32) : State :=
  let uppers := (List.range 16).map fun e => 2 * e + 1
  let s := (ws.zipIdx.filter fun x => !(uppers.contains x.2)).foldl (fun s x => s.imemPut c b x.2 x.1) s
  let s := uppers.foldl (fun s i => s.imemPut c b i (ws.getD i 0)) s
  (List.range 16).foldl (fun s e => s.endCheck c b e) s

/-- The bank image of a set for a core. -/
def CfgSet.bankFor (cs : CfgSet) (c : Nat) : Option (List W32) := (cs.banks.find? fun b => bit b.1 c).map (·.2)

/-- The standby bank of a core takes a set's image, or an empty directory (R332). -/
def State.standby (s : State) (c : Nat) (cs : CfgSet) : State :=
  let b := !(s.core c).active
  match cs.bankFor c with
  | some ws => s.loadBank c b ws
  | none => s.emptyDir c b

/-- Cores in IDLE, RUN or OUT. -/
def State.onCores (s : State) : List Nat := (List.range 32).filter fun c => (s.core c).st != .off

/-- An entry of the standby bank of a core failed its load check. -/
def State.standbyFailed (s : State) (c : Nat) : Bool :=
  (List.range 16).any fun e => dirUsed ((s.core c).dirHi (!(s.core c).active) e) && decide (dirLstate ((s.core c).dirHi (!(s.core c).active) e) = 3)

/-! ## DATA -/

/-- Two extents share a byte. -/
def extentsMeet (a b : Nat × List Byte) : Bool := decide (a.1 < b.1 + b.2.length ∧ b.1 < a.1 + a.2.length)

/-- Every DATA extent lies in the LPDDR5X region. -/
def State.dataInside (s : State) (cs : CfgSet) : Bool :=
  cs.data.all fun d => d.2.isEmpty || decide (s.regionOf d.1 d.2.length = some .lpddr)

/-- A DATA extent overlaps one of another set. -/
def dataMeets (a : CfgSet) (b : Option CfgSet) : Bool :=
  match b with
  | some b => a.data.any fun x => b.data.any fun y => extentsMeet x y
  | none => false

/-- The DATA sections are copied. -/
def State.copyData (s : State) (cs : CfgSet) : State := cs.data.foldl (fun s d => (s.store d.1 (d.2.map some)).1) s

/-! ## LOAD (R332) -/

/-- A new set under R325 and R330. -/
def State.checkSet (s : State) (b : List Byte) : Nat :=
  checkContainer b 2 s.mram.ownerFp (setGood b)
    (decide ((cfgVer s.mgmt.active).toNat < (contVersion b).toNat ∧ s.mram.setFloor.toNat ≤ (contVersion b).toNat ∧
      (contFloor b).toNat ≤ (contVersion s.mgmt.image).toNat))

/-- A set in its flash slot, at a start or after READY: not below SET_FLOOR, and fit for the running image (log entry 38). -/
def State.checkStored (s : State) (b : List Byte) : Nat :=
  checkContainer b 2 s.mram.ownerFp (setGood b)
    (decide (s.mram.setFloor.toNat ≤ (contVersion b).toNat ∧ (contFloor b).toNat ≤ (contVersion s.mgmt.image).toNat))

/-- The address in CFG_SRC. -/
def State.cfgSrc (s : State) : Nat := s.rdF Pg.CFG Off.CFG.CFG_SRC_HI 6 0 * 2 ^ 32 + (s.rd Pg.CFG Off.CFG.CFG_SRC_LO).toNat

/-- CFG_CMD LOAD: the state goes to LOADING; the container is read now (log entry 38). -/
def State.cfgLoad (s : State) : State :=
  if s.mcAway ∨ s.mgmt.cfg ≠ .idle then s.cfgRefuse ST.STATE
  else { s with mgmt := { s.mgmt with cfg := .loading, load := some .set, prevValid := false, covered := [],
                                      stagedSrc := (s.containerAt s.cfgSrc).getD [] } }

/-- CFG_LOAD (R332): CFG_CMD LOAD starts checking and staging a configuration set. -/
def execCfgLoad (s : State) : Out := .next s.cfgLoad

/-- A LOAD ends with a refusal: IDLE, CODE, FAULT_SUM bit 0, logged (R325, R332, R339). -/
def State.loadFailed (s : State) (code : Nat) : State :=
  ({ s with mgmt := { s.mgmt with cfg := .idle, load := none, covered := [], stagedSrc := [] } }.cfgCode code).raise Pg.CFG 0 code
    (unitIdOf 2 s.devId 0) 0

/-- The free set slot: neither active nor previous. -/
def BootRec.freeSlot (b : BootRec) : Nat := ((List.range 3).find? fun i => b.setActive ≠ some i ∧ b.setPrev ≠ some i).getD 0

/-- A profile of the set for a port whose matched profile is on the set's list for it (R332). -/
def State.coveredBy (s : State) (n : Nat) (cs : CfgSet) : Option Profile :=
  let p := s.port n
  match p.profile with
  | some q =>
    if (p.st = .ready ∨ p.flowing) ∧ (cs.portmap.getD n []).contains q.id then cs.profiles.find? fun x => x.id = q.id else none
  | none => none

/-- Standby copies of the ports that the set covers (R332). -/
def State.coverPorts (s : State) (cs : CfgSet) : State :=
  (List.range 24).foldl (fun s n => match s.coveredBy n cs with
    | some p =>
      let s := s.modPort n fun q => { q with stby := loadCopy q.stby p cs.version }
      { s with mgmt := { s.mgmt with covered := s.mgmt.covered ++ [n] } }
    | none => s) s

/-- Steps 2 to 7 of R332. -/
def State.stageSet (s : State) : State :=
  let b := s.mgmt.stagedSrc
  let code := s.checkSet b
  if code ≠ ST.OK then s.loadFailed code
  else
    let cs := setOf b
    if !(s.dataInside cs) then s.loadFailed ST.BAD_DESC
    else if dataMeets cs s.mgmt.active then s.loadFailed ST.STATE
    else
      let s := s.copyData cs
      let s := s.onCores.foldl (fun s c => s.standby c cs) s
      if s.onCores.any s.standbyFailed then s.loadFailed ST.BAD_DESC
      else
        let s := s.coverPorts cs
        let i := s.flash.boot.freeSlot
        { s with flash := { s.flash with sets := s.flash.sets.set i b, boot := { s.flash.boot with setStaged := some i } },
                 mgmt := { s.mgmt with cfg := .staged, load := none, staged := some cs, stagedSrc := [] } }

/-- CFG_LOAD_DONE (R332): set loading ends in STAGED, or in IDLE with a refusal code. -/
def execCfgLoadDone (s : State) : Out :=
  .next (if s.mgmt.cfg = .loading ∧ s.mgmt.load = some .set ∧ !s.mcAway then s.stageSet else s)

/-! ## DISCARD and CONFIRM (R336) -/

/-- DISCARD. -/
def State.cfgDiscard (s : State) : State :=
  if s.mcAway ∨ s.mgmt.cfg ≠ .staged then s.cfgRefuse ST.STATE
  else
    let s := s.onCores.foldl (fun s c => s.emptyDir c (!(s.core c).active)) s
    { s with mgmt := { s.mgmt with cfg := .idle, staged := none, covered := [] },
             flash := { s.flash with boot := { s.flash.boot with setStaged := none } } }

/-- CFG_DISCARD (R336): CFG_CMD DISCARD drops the staged set. -/
def execCfgDiscard (s : State) : Out := .next s.cfgDiscard

/-- CONFIRM: SET_FLOOR never decreases (R326). -/
def State.cfgConfirm (s : State) : State :=
  if s.mcAway ∨ s.mgmt.cfg ≠ .idle then s.cfgRefuse ST.STATE
  else { s with mram := { s.mram with setFloor := BitVec.ofNat 32 (max s.mram.setFloor.toNat (cfgVer s.mgmt.active).toNat) } }

/-- CFG_CONFIRM (R336): CFG_CMD CONFIRM raises SET_FLOOR to ACTIVE_VER. -/
def execCfgConfirm (s : State) : Out := .next s.cfgConfirm

/-- A CFG_CMD write; 0 is no command (R375). -/
def State.cfgCmd (s : State) (cmd : Nat) : State :=
  match cmd with
  | 1 => s.cfgLoad
  | 2 => s.cfgDiscard
  | 3 => s.cfgConfirm
  | _ => s

/-! ## Sets at a start (R337, R349) -/

/-- The container in the flash slot of a role. -/
def State.setSlot (s : State) (r : Option Nat) : List Byte := (r.bind fun i => s.flash.sets[i]?).getD []

/-- A stored set that is valid. -/
def State.storedSet (s : State) (r : Option Nat) : Option CfgSet :=
  let b := s.setSlot r
  if s.checkStored b = ST.OK ∧ s.dataInside (setOf b) then some (setOf b) else none

/-- A stored set becomes the active set of a start: its DATA is copied where there is memory (Table 19.7). -/
def State.activeFrom (s : State) (cs : CfgSet) : State :=
  { s with mgmt := { s.mgmt with active := if s.memTop = 0 then none else some cs } }.copyData cs

/-- The active set of a start: the active slot, or a valid previous set, or none; none either where there is no memory (R337, Table 19.7). -/
def State.startSet (s : State) : State :=
  let boot := { s.flash.boot with setStaged := none }
  let s := { s with flash := { s.flash with boot := boot } }
  let fallback := (s.storedSet boot.setPrev).elim s fun cs =>
    { s with flash := { s.flash with boot := { boot with setActive := boot.setPrev, setPrev := none } } }.activeFrom cs
  (s.storedSet boot.setActive).elim fallback s.activeFrom

/-- A set becomes the previous one: its DATA and its banks are loaded, unless its DATA meets that of the active set (R337). -/
def State.loadBeside (s : State) (cs : CfgSet) : State :=
  if dataMeets cs s.mgmt.active then s
  else
    let s := s.onCores.foldl (fun s c => s.standby c cs) (s.copyData cs)
    { s with mgmt := { s.mgmt with prev := some cs, prevValid := true } }

/-- The previous set is loaded into the standby banks (R337). -/
def State.loadPrev (s : State) : State :=
  let s := { s with mgmt := { s.mgmt with cfg := .idle, load := none } }
  (s.storedSet s.flash.boot.setPrev).elim s s.loadBeside

/-- PREV_SET_LOADED (R349): after READY the previous set is loaded into standby banks, or found invalid. -/
def execPrevSetLoaded (s : State) : Out :=
  .next (if s.mgmt.cfg = .loading ∧ s.mgmt.load = some .prev ∧ !s.mcAway then s.loadPrev else s)

end Sys2Proof.Machine
end

