-- ==== Sys2Proof/Machine/Power.lean ====
section
/-! DEFINITION. Power domains, resets, the firing and READY (R341 to R354), and the loading of a core whose domain has come on (R108). -/
namespace Sys2Proof.Machine

/-! ## Domains (Table 19.1) -/

/-- PD_REQ of a domain, and PD_FAIL. -/
def State.requested (s : State) (n : Nat) : Bool := if n < 32 then s.rdB Pg.PWR Off.PWR.PD_REQ_LO n else s.rdB Pg.PWR Off.PWR.PD_REQ_HI (n - 32)
def State.pdFailed (s : State) (n : Nat) : Bool := if n < 32 then s.rdB Pg.PWR Off.PWR.PD_FAIL_LO n else s.rdB Pg.PWR Off.PWR.PD_FAIL_HI (n - 32)
def State.setPdFail (s : State) (n : Nat) : State :=
  if n < 32 then s.wrF Pg.PWR Off.PWR.PD_FAIL_LO n n 1 else s.wrF Pg.PWR Off.PWR.PD_FAIL_HI (n - 32) (n - 32) 1

/-- Listed bytes of a range of the local map are lost, and with them its ECC faults: it reads 0 (R161, R378). -/
def State.clearMem (s : State) (lo hi : Nat) : State :=
  let out := fun e => match e with
    | EccLoc.mem w => decide (4 * w < lo ∨ hi ≤ 4 * w)
    | _ => true
  { s with mem := SMap.clear s.mem lo hi, ue := s.ue.filter out, ce := s.ce.filter out }

/-- The LPDDR5X contents are lost: arbitrary until written (R378). -/
def State.loseLpddr (s : State) : State := { s.clearMem 0 lpddrEnd with memEpoch := s.memEpoch + 1 }

/-- ECC faults of a core's own stores. -/
def eccOfCore (c : Nat) : EccLoc → Bool
  | .imem c' _ | .queue c' _ _ | .sreg c' _ | .areg c' _ | .vreg c' _ | .acc c' _ => c' == c
  | _ => false

/-- The contents of a core domain are lost, or are empty as it comes on (R107, R161, R343): OFF, both banks empty, ACTIVE 0, stores 0.
Items that only await acknowledgements stay (R309). -/
def State.blankCore (s : State) (c : Nat) : State :=
  let s := s.modCore c fun k => { Core.reset with cause := k.cause, items := k.items }
  let s := { s with ue := s.ue.filter fun e => !eccOfCore c e, ce := s.ce.filter fun e => !eccOfCore c e }
  (s.clearMem (spBase + c * 0x400000) (spBase + (c + 1) * 0x400000)).clearMem (wsBase + c * 0x80000) (wsBase + (c + 1) * 0x80000)

/-- Ring SRAM and host window SRAM read 0 (R378). -/
def State.blankHost (s : State) : State :=
  let notRing := fun e => match e with
    | EccLoc.ringMem _ => false
    | _ => true
  { s.clearMem hwBase (hwBase + 4 * 0x800000) with ringMem := [], ue := (s.ue.filter notRing), ce := (s.ce.filter notRing) }

/-- Ports of an intake domain. -/
def domainPorts (n : Nat) : List Nat := (List.range 24).filter fun p => portDomain p = n

/-- The delivery store and the ports' buffers are lost: what the store held is abandoned (log entry 35). -/
def State.loseStore (s : State) : State :=
  let s := s.links.out.foldl (fun s p => p.2.all.foldl (fun s h => s.abandon p.1 h) s) s
  { s with links := { s.links with wait := [], ports := s.links.ports.map fun k => { k with replay := [], txq := [], fwd := [], rx := [] } } }

/-- Domain n is off: its contents are lost. -/
def State.domainOff (s : State) (n : Nat) : State :=
  let s := { s with power := { s.power with pd := setBit s.power.pd n false } }
  let s := s.bump Pg.PWR Off.PWR.SWITCH_CNT
  if n < 32 then s.blankCore n
  else if n < 36 then (domainPorts n).foldl (fun s p => (s.portOff p).clearMem (hopBase + p * 0x80000) (hopBase + (p + 1) * 0x80000)) s
  else if n < 38 then s.loseLpddr
  else if n = 38 then (List.range 8).foldl (fun s d => s.linkUpdate d) s.loseStore
  else s.blankHost.hostUp

/-- Domain n is on (R343). -/
def State.domainUp (s : State) (n : Nat) : State :=
  let s := { s with power := { s.power with pd := setBit s.power.pd n true } }
  let s := s.bump Pg.PWR Off.PWR.SWITCH_CNT
  if n < 32 then s.blankCore n
  else if n = 38 then (List.range 8).foldl (fun s d => s.linkUpdate d) s
  else if n = 39 then s.blankHost.hostUp
  else s

/-- The domain failed the firing and stays off (Table 19.7). -/
def State.firedOut (s : State) (n : Nat) : Bool :=
  if h : n < 40 then s.power.failed.contains (.delay ⟨n, h⟩) || s.power.failed.contains (.tempSensor ⟨n, h⟩) else true

/-- A request of domain n stands: its bit differs from the domain, and it has not failed. -/
def State.switchDue (s : State) (n : Nat) : Bool :=
  s.requested n != s.domainOn n && !(s.requested n && (s.pdFailed n || s.firedOut n)) &&
  !(decide (n < 32) && s.requested n && s.cfgBusy)

/-- Domain n is the next to be switched: one at a time, ascending (R343). -/
def State.nextSwitch (s : State) (n : Nat) : Bool := s.power.ready && s.switchDue n && (List.range n).all fun m => !(s.switchDue m)

/-- DOMAIN_SWITCH_ON (R343): a requested domain is powered, trimmed and cleared, or fails. -/
def execDomainSwitchOn (pd : Fin 40) (trimOk : Bool) (s : State) : Out :=
  .next (if s.nextSwitch pd ∧ s.requested pd then
    if trimOk then s.domainUp pd else (s.setPdFail pd).raise Pg.PWR 0 ST.STATE (unitIdOf 2 s.devId 0) pd
  else s)

/-- DOMAIN_SWITCH_OFF (R343): a requested domain is switched off and its contents are lost. -/
def execDomainSwitchOff (pd : Fin 40) (s : State) : Out :=
  .next (if s.nextSwitch pd ∧ !(s.requested pd) then s.domainOff pd else s)

/-! ## PD_REQ (R342) -/

/-- A change of the bit of domain n to `on` is refused. -/
def State.pdRefused (s : State) (n : Nat) (on : Bool) : Bool :=
  !s.power.ready || decide (n = 36 ∨ n = 37) ||
  (!on &&
    if n < 32 then s.coreIn n
    else if n < 36 then (domainPorts n).any fun p => [PortSt.training, .ready, .stream, .stopping].contains (s.port p).st
    else if n = 38 then (List.range 8).any fun d => bit (s.dlCfg d) 31
    else s.rdB Pg.HP Off.HP.HP_CFG 31)

/-- A write of PD_REQ_LO, or of PD_REQ_HI: each bit that may change does (R342). -/
def State.pdReqWrite (s : State) (hi : Bool) (v : W32) : State :=
  let off := if hi then Off.PWR.PD_REQ_HI else Off.PWR.PD_REQ_LO
  let base := if hi then 32 else 0
  let old := s.rd Pg.PWR off
  let changed := (List.range (if hi then 8 else 32)).filter fun i => bit v i != bit old i
  let bad := changed.filter fun i => s.pdRefused (base + i) (bit v i)
  let new := (changed.filter fun i => !(bad.contains i)).foldl (fun w i => setBit w i (bit v i)) old
  let s := s.wr Pg.PWR off new
  if bad.isEmpty then s else (s.wrF Pg.PWR Off.PWR.PWR_CMD 23 16 ST.STATE).logState Pg.PWR ST.STATE (unitIdOf 2 s.devId 0) off

/-- PD_REQ_WRITE (R342): requests domain switches, refused per bit under the state rules. -/
def execPdReqWrite (_src : Agent) (hi : Bool) (v : W32) (s : State) : Out := .next (s.pdReqWrite hi v)

/-! ## A core comes up (R108) -/

/-- The core's domain is on and trimmed, the firing has ended, and the core still reads OFF. -/
def State.coreWaits (s : State) (c : Nat) : Bool :=
  s.domainOn c && s.power.fired && !(s.power.failed.contains .delayCommon) && !(s.firedOut c) && (s.core c).st == .off

/-- The banks of a core are loaded: the active set's, made active, and the previous set's into standby. Where the active set has none for the
core, both directories stay empty. It enters IDLE. -/
def State.coreLoad (s : State) (c : Nat) : State :=
  let s := match s.mgmt.active.bind fun cs => cs.bankFor c with
    | none => (s.emptyDir c false).emptyDir c true
    | some ws =>
      let s := (s.loadBank c (!(s.core c).active) ws).modCore c fun k => k.doSwap
      match s.mgmt.prevValid, s.mgmt.prev.bind fun cs => cs.bankFor c with
      | true, some ws => s.loadBank c (!(s.core c).active) ws
      | _, _ => s
  s.modCore c fun k => { k with st := .idle }

/-- CORE_LOAD_DONE (R108): the management controller finishes loading a core's banks and the core enters IDLE. -/
def execCoreLoadDone (core : Fin 32) (s : State) : Out :=
  .next (if s.coreWaits core ∧ s.mgmt.run = .running then s.coreLoad core else s)

/-! ## Domains lost without a request (R307, R343, R345) -/

/-- Domain n switches off without a request: a core goes OUT with cause 0b0100 and then reads OFF. -/
def State.lossOf (s : State) (n : Nat) : State :=
  if s.domainOn n then
    let s := if n < 32 then s.coresOut [n] OC.DOMAIN true else s
    ((s.domainOff n).setPdFail n).raise Pg.PWR 0 ST.CORE_LOST (unitIdOf 2 s.devId 0) n
  else s

/-- DOMAIN_POWER_LOSS (R307): a domain switches off without a request, setting PD_FAIL and taking a core OUT. -/
def execDomainPowerLoss (pd : Fin 40) (s : State) : Out := .next (s.lossOf pd)

/-- Domains that a rail feeds (Table 19.2; log entry 39). -/
def railDomains : Rail → List Nat
  | .vddIo => []
  | .vddSram => List.range 36 ++ [38, 39]
  | .vdd2h => [36, 37, 39]
  | .vddq => [36, 37, 39]
  | .vddMipi => [32, 33, 34, 35]
  | .vddLink => [38]

/-- Place of a rail in Table 19.2, which the log entry of its fault carries. -/
def railNo : Rail → Nat
  | .vddIo => 1
  | .vddSram => 2
  | .vdd2h => 4
  | .vddq => 5
  | .vddMipi => 6
  | .vddLink => 7

/-- RAIL_FAULT (R345): a rail outside its window for 10 µs switches off the domains it feeds; the cores among them go OUT together. -/
def execRailFault (rail : Rail) (s : State) : Out :=
  .next (let s := s.raise Pg.PWR 1 ST.STATE (unitIdOf 2 s.devId 0) (railNo rail)
    let ds := (railDomains rail).filter s.domainOn
    let s := s.coresOut (ds.filter (· < 32)) OC.DOMAIN true
    ds.foldl State.lossOf s)

/-! ## Resets (R346) -/

/-- A cold or warm reset: MRAM, fuses, flash and the written event log stay, every register has its reset value, every SRAM and the LPDDR5X
contents are lost. The queue, the numbers of free values and of starts are the model's own. -/
def State.restart (s : State) (cause : Nat) (porst cold : Bool) : State :=
  { State.reset with
    pending := s.pending, free := s.free, nextKey := s.nextKey, memEpoch := s.memEpoch + 1, mram := s.mram, flash := s.flash, trayFp := s.trayFp,
    log := { ring := s.log.ring, head := s.log.head, taken := s.log.taken },
    power := { State.reset.power with porst := porst, cold := cold } }.wr Pg.PWR Off.PWR.RST_CAUSE (BitVec.ofNat 32 cause)

/-- PORST_N_ASSERT (R346): PORST_n low for 1 µs or more causes a cold reset. -/
def execPorstNAssert (s : State) : Out := .next (s.restart 1 true true)

/-- PORST_N_RELEASE (R348): release of PORST_n starts the start-up sequence: the boot ROM runs next. -/
def execPorstNRelease (s : State) : Out := .next { s with power := { s.power with porst := false } }

/-- A warm reset, where PORST_n is not held low. -/
def State.warmReset (s : State) (cause : Nat) : State := if s.power.porst then s else s.restart cause false false

/-- WARM_N_ASSERT (R346): WARM_n low for 1 µs or more causes a warm reset. It has no effect within the start-up of a cold reset
(R372). -/
def execWarmNAssert (s : State) : Out := .next (if s.power.cold ∧ !s.power.ready then s else s.warmReset 2)

/-- WARM (R346): PWR_CMD WARM causes a warm reset. -/
def execWarm (s : State) : Out := .next (s.warmReset 3)

/-- A PWR_CMD write (R353, R375). -/
def State.pwrCmd (s : State) (cmd : Nat) : State :=
  match cmd with
  | 0 => s
  | 1 => s.warmReset 3
  | _ => s.wrF Pg.PWR Off.PWR.PWR_CMD 23 16 ST.BAD_DESC

/-! ## The board record applied (R347) -/

/-- DL_CFG of port d as the record gives it; LVL_MAX keeps its reset value. -/
def boardDl (r : List Byte) (d : Nat) : W32 :=
  let b := r.getD (0x10 + d) 0
  BitVec.ofNat 32 (fld b 5 5 * 2 ^ 31 + 2 * 2 ^ 29 + fld b 7 6 * 2 ^ 27 + fld b 3 0 * 2 ^ 23 + fld b 4 4 * 2 ^ 22)

/-- Domains that the record switches on (Table 19.5, step 3). -/
def boardDomains (r : List Byte) : List Nat :=
  let m := fld (w32At r 4) 31 30
  (List.range 40).filter fun n =>
    if n < 32 then bit (w32At r 0x28) n
    else if n < 36 then bit (w32At r 0x2C) (n - 32)
    else if n < 38 then m.testBit (n - 36)
    else if n = 38 then (List.range 8).any fun d => bit (r.getD (0x10 + d) 0) 5
    else bit (w32At r 8) 31

/-- Wired lanes of port n. -/
def boardLanes (r : List Byte) (n : Nat) : Nat := ofBytes (slice r 0x1C 12) / 2 ^ (3 * n) % 8

/-- Every field is written to the register named (Table 19.4). -/
def State.applyBoard (s : State) (r : List Byte) : State :=
  let s := s.wrF Pg.LNK Off.LNK.LNK_CFG 8 0 (fld (w32At r 0) 8 0)
  let s := (s.wr Pg.HP Off.HP.HP_CFG (w32At r 8)).wr Pg.HP Off.HP.VMR_CFG (w32At r 0xC)
  let s := (List.range 8).foldl (fun s d => s.wr (Pg.DL d) Off.DL.DL_CFG (boardDl r d)) s
  let s := s.wr Pg.LCH Off.LCH.TIME_CTRL ((s.rd Pg.LCH Off.LCH.TIME_CTRL &&& 0xFF) ||| (w32At r 0x18 &&& 0xC7F00000))
  let s := (List.range 24).foldl (fun s n => s.wrF (Pg.SP n) Off.SP.PHY_CFG 26 24 (boardLanes r n)) s
  let ds := boardDomains r
  let s := s.wr Pg.PWR Off.PWR.PD_REQ_LO (w32At r 0x28)
  let s := s.wr Pg.PWR Off.PWR.PD_REQ_HI (BitVec.ofNat 32 ((ds.filter (32 ≤ ·)).map fun n => 2 ^ (n - 32)).sum)
  let s := s.wr Pg.MGT Off.MGT.VLIMIT (w32At r 0x30)
  let s := (s.wrF Pg.MGT Off.MGT.THERM 7 0 (fld (w32At r 0x34) 31 24)).wrF Pg.MGT Off.MGT.POWER 31 24 (fld (w32At r 0x34) 23 16)
  let s := s.wr Pg.MGT Off.MGT.VSET (BitVec.ofNat 32 (fld (w32At r 0x34) 15 0))
  ds.foldl (fun s n => s.domainUp n) s

/-! ## The firing (R350 to R354) -/

/-- Bit of a group of Table 19.6. -/
def calGroup : CalItem → Nat
  | .sensorPort _ => 0
  | .memChan _ => 1
  | .hostChan _ => 2
  | .link _ => 3
  | .delay _ => 4
  | .delayCommon => 4
  | .tempSensor _ => 5
  | .monitor _ => 5

/-- Items that this firing calibrates (Table 19.6). -/
def State.calItems (s : State) : List CalItem :=
  ((List.finRange 24).filter fun (n : Fin 24) => s.domainOn (portDomain n)).map CalItem.sensorPort ++
  ((List.finRange 8).filter fun (k : Fin 8) => s.domainOn (36 + k.val / 4)).map CalItem.memChan ++
  ((List.finRange 4).filter fun (h : Fin 4) => s.hostFitted h && s.domainOn 39).map CalItem.hostChan ++
  ((List.finRange 8).filter fun (d : Fin 8) => bit (s.dlCfg d) 31).map CalItem.link ++
  ((List.finRange 40).filter fun (n : Fin 40) => s.domainOn n).map CalItem.delay ++ [.delayCommon] ++
  (List.finRange 40).map CalItem.tempSensor ++ (List.finRange 16).map CalItem.monitor

/-- The board record of the running image. -/
def State.board (s : State) : List Byte := (boardOf s.mgmt.image).getD []

/-- Rates of Table 13.1 in MT/s by their code (Table 14.11, RATE). -/
def memRates : List Nat := [3200, 4266, 5500, 6400, 7500, 8533]

/-- What the firing found of channel k. -/
def memPart (m : MemFiring) (k : Nat) : MemPart :=
  m.parts.getD k { ids := [], lp5x := false, density := 0, twoRanks := false, linkEcc := false, passes := 0, trims := [], recordOk := false, verifies := false }

/-- Channels of a fitted set. -/
def setChans (f : Nat) : List Nat := (List.range 8).filter fun k => f.testBit (k / 4)

/-- Every channel of the set reports the same type, density and rank count (R240). -/
def partsAgree (m : MemFiring) (f : Nat) : Bool :=
  let ps := (setChans f).map (memPart m)
  ps.all fun p => ps.all fun q => p.lp5x == q.lp5x && p.density == q.density && p.twoRanks == q.twoRanks

/-- Table 13.1 lists rate code r for the part type. -/
def typeRate (lp5x : Bool) (r : Nat) : Bool := if lp5x then decide (3 ≤ r ∧ r ≤ 5) else decide (r ≤ 3)

/-- Temperature band (R243). -/
def tempBand (t : Int) : Nat := if t < 10 then 0 else if t < 40 then 1 else if t < 70 then 2 else 3

/-- Band of the half of channel k. -/
def memBand (m : MemFiring) (k : Nat) : Nat := tempBand (if k < 4 then m.tempLo else m.tempHi)

/-- Version of the trim format of the firmware in force. -/
def State.trimFormat (s : State) : Nat := Config.trimVersion (contVersion s.mgmt.image)

/-- The record that full training of channel k at rate code r leaves (R243). -/
def State.trimRecord (s : State) (m : MemFiring) (k r : Nat) : TrimRec :=
  { trims := (memPart m k).trims, ids := (memPart m k).ids, rate := memRates.getD r 0, version := s.trimFormat, band := memBand m k }

/-- Stored trims of channel k that are loaded at rate code r and pass the write and read-back (R243). -/
def State.trimsUsed (s : State) (m : MemFiring) (k r : Nat) : Bool :=
  !s.mram.forceFull && (memPart m k).recordOk && (memPart m k).verifies &&
  s.mram.trims.any fun p => p.1 == k && p.2 == { s.trimRecord m k r with trims := p.2.trims }

/-- Channel k passes at rate code r: on stored trims or after full training (R242, R243, R351). `failed` names items whose BASE record fails its
check or whose results lie outside their window. -/
def State.chanTrains (s : State) (m : MemFiring) (failed : List CalItem) (k r : Nat) : Bool :=
  failed.all (fun x => match x with
    | .memChan k' => decide (k'.val ≠ k)
    | _ => true) && (s.trimsUsed m k r || (memPart m k).passes.getLsbD r)

/-- Rate codes tried, in order: from RATE_MAX of the board record down to its RATE_MIN, those of the part type (R241, R242). -/
def State.ratesTried (s : State) (m : MemFiring) (f : Nat) : List Nat :=
  let b := w32At s.board 4
  ((List.range 6).reverse).filter fun r => decide (fld b 24 22 ≤ r ∧ r ≤ fld b 27 25) && typeRate (memPart m ((setChans f).headD 0)).lp5x r

/-- First rate at which all channels of a set train. -/
def State.rateFor (s : State) (m : MemFiring) (failed : List CalItem) (f : Nat) : Option Nat :=
  (s.ratesTried m f).find? fun r => (setChans f).all fun k => s.chanTrains m failed k r

/-- The half that holds no channel failing at the last rate tried (R242). -/
def State.soundHalf (s : State) (m : MemFiring) (failed : List CalItem) (f : Nat) : Option Nat :=
  match (s.ratesTried m f).getLast? with
  | some r => [1, 2].find? fun h => (setChans h).all fun k => s.chanTrains m failed k r
  | none => none

/-- What memory training comes to (R240, R242): the set in force with its rate code and whether it was reduced, none where it fails. -/
def State.memOutcome (s : State) (m : MemFiring) (failed : List CalItem) : Option (Nat × Nat × Bool) :=
  let b := w32At s.board 4
  let f := fld b 31 30
  if f = 0 ∨ !partsAgree m f then none
  else match s.rateFor m failed f with
    | some r => some (f, r, false)
    | none =>
      if bit b 28 ∧ f = 3 then
        match s.soundHalf m failed f with
        | some h => (s.rateFor m failed h).map fun r => (h, r, true)
        | none => none
      else none

/-- Data size of a channel in MiB (R247). -/
def chanMib (cap : Nat) (ecc : Bool) : Nat := if ecc then 1024 * 2 ^ cap * 4 / 5 else 1024 * 2 ^ cap

/-- A mask of channels. -/
def chanMask (ks : List Nat) : Nat := (ks.map fun k => 2 ^ k).sum

/-- The memory is trained at a rate: MEM_CFG, MEM_TOP, TRAIN_STATE, the channels' trims, the records of those trained in full (R240 to R243). -/
def State.memTrained (s : State) (m : MemFiring) (f r : Nat) (fell : Bool) : State :=
  let ecc := bit (w32At s.board 4) 29
  let cs := setChans f
  let cap := (memPart m (cs.headD 0)).density.toNat
  let link := decide (3 ≤ r) && cs.all fun k => (memPart m k).linkEcc
  let used := cs.filter fun k => s.trimsUsed m k r
  let old := s.mram.trims
  let trims := fun k => if used.contains k then ((SMap.find old k).map (·.trims)).getD [] else (memPart m k).trims
  let s := s.wr Pg.MEM Off.MEM.MEM_CFG (BitVec.ofNat 32 (f * 2 ^ 30 + ecc.toNat * 2 ^ 29 + fell.toNat * 2 ^ 28 + link.toNat * 2 ^ 27 +
    cap * 2 ^ 24 + memRates.getD r 0))
  let s := s.wr Pg.MEM Off.MEM.MEM_TOP (BitVec.ofNat 32 (cs.length * chanMib cap ecc))
  let s := s.wr Pg.MEM Off.MEM.TRAIN_STATE (BitVec.ofNat 32 (chanMask cs * 2 ^ 24 + chanMask used * 2 ^ 16 + tempBand m.tempHi * 4 + tempBand m.tempLo))
  let s := cs.foldl (fun s k => s.modMem k fun _ =>
    { ids := (memPart m k).ids, lp5x := (memPart m k).lp5x, twoRanks := (memPart m k).twoRanks, trims := trims k }) s
  { s with mram := { s.mram with trims := (cs.filter fun k => !(used.contains k)).foldl (fun t k => SMap.put t k (s.trimRecord m k r)) old } }

/-- Training failed or no channel is fitted: no region (Table 19.7). FITTED and ECC_EN stand as the board record has them; TRAINED gives the channels
that passed at the last rate tried (log entry 70). -/
def State.memAbsent (s : State) (m : MemFiring) (failed : List CalItem) : State :=
  let b := w32At s.board 4
  let f := fld b 31 30
  let ok := match (s.ratesTried m f).getLast? with
    | some r => if partsAgree m f then (setChans f).filter fun k => s.chanTrains m failed k r else []
    | none => []
  let s := s.wr Pg.MEM Off.MEM.MEM_CFG (BitVec.ofNat 32 (f * 2 ^ 30 + (bit b 29).toNat * 2 ^ 29))
  let s := s.wr Pg.MEM Off.MEM.MEM_TOP 0
  s.wr Pg.MEM Off.MEM.TRAIN_STATE (BitVec.ofNat 32 (chanMask ok * 2 ^ 24 + tempBand m.tempHi * 4 + tempBand m.tempLo))

/-- The memory group of the firing (R240 to R243, Table 19.7). -/
def State.memFired (s : State) (m : MemFiring) (failed : List CalItem) : State :=
  match s.memOutcome m failed with
  | some (f, r, fell) => s.memTrained m f r fell
  | none => s.memAbsent m failed

/-- Cone k of the firing passed: every item of its group; for MEM_PHY, a set that trained (R242, R351). -/
def State.conePassed (s : State) (failed : List CalItem) (m : MemFiring) (k : Nat) : Bool :=
  if k = 1 then decide (fld (w32At s.board 4) 31 30 = 0) || (s.memOutcome m failed).isSome
  else failed.all fun x => decide (calGroup x ≠ k)

/-- The firing ends: cones, records, faults (R351, R354). -/
def State.fireEnd (s : State) (failed : List CalItem) (m : MemFiring) (ms : BitVec 16) : State :=
  let cones := ((List.range 6).map fun k => if s.conePassed failed m k then 2 ^ k else 0).sum
  let passed := s.calItems.filter fun x => !(failed.contains x)
  let s := s.memFired m failed
  let s := { s with power := { s.power with running := false, fired := true, cones := BitVec.ofNat 6 cones, failed := failed },
                    mram := { s.mram with fireCnt := satInc s.mram.fireCnt, last := s.mram.last ++ (passed.filter fun x => !(s.mram.last.contains x)) } }
  let s := s.wr Pg.CAL Off.CAL.FIRE_TIME (ms.setWidth 32)
  let s := (List.range 6).foldl (fun s k => if cones.testBit k then s else s.raise Pg.CAL k ST.STATE (unitIdOf 2 s.devId 0) k) s
  -- the management controller takes VDD_CORE over; failed domains are kept off
  let s := s.wrF Pg.MGT Off.MGT.VNOW 15 0 (s.rdF Pg.MGT Off.MGT.VSET 15 0)
  let s := ((List.range 40).filter fun n => s.domainOn n && s.firedOut n).foldl (fun s n => s.domainOff n) s
  (List.range 8).foldl (fun s d => s.linkUpdate d) s.hostUp.hpHeld

/-- After the firing: one warm reset under AUTO_WARM (R352), or the active set is loaded (step 7 of Table 19.5). -/
def State.afterFiring (s : State) : State :=
  if s.mram.autoWarm ∧ s.power.cold ∧ s.power.cones ≠ 0x3F then s.warmReset 4 else s.startSet

/-- FIRING_COMPLETE (R351): the firing's calibration groups end, records and cones are written and HP_READY may rise. -/
def execFiringComplete (failed : List CalItem) (mem : MemFiring) (ms : BitVec 16) (s : State) : Out :=
  .next (if s.power.running then (s.fireEnd failed mem ms).afterFiring else s)

/-- Start-up may end: the firing is over and every powered core that can has left OFF. -/
def State.mayBeReady (s : State) : Bool :=
  s.power.fired && !s.power.ready && s.mgmt.run == .running && (List.range 32).all fun c => !(s.coreWaits c)

/-- READY_SET (R348): READY is set and BOOT_TIME written; the previous set is loaded next (R349). -/
def execReadySet (s : State) : Out :=
  .next (if s.mayBeReady then
    let (n, s) := s.newFree
    { s with power := { s.power with ready := true }, mgmt := { s.mgmt with cfg := .loading, load := some .prev } }.wr Pg.PWR Off.PWR.BOOT_TIME
      ((Config.bootMs n).setWidth 32)
  else s)

end Sys2Proof.Machine
end

