-- ==== Sys2Proof/Machine/MgmtOps.lean ====
section
/-! DEFINITION. The management controller (R317 to R329, R340): monitors, pace control, limits, the event log, images, boot, the owner key and
attestation. -/
namespace Sys2Proof.Machine

/-! ## Monitors (R317) -/

/-- The monitor m reads v outside its window: [31:16] the upper bound, [15:0] the lower (log entry 6). -/
def State.outsideWindow (s : State) (m : Nat) (v : BitVec 16) : Bool :=
  let w := s.rd Pg.MON (Off.MON.WINDOW0 + 4 * m)
  decide (v.toNat < fld w 15 0 ∨ fld w 31 16 < v.toNat)

/-- One monitor's reading: shown, and an alarm where it lies outside its window. -/
def State.monitorRead (s : State) (m : Nat) (v : BitVec 16) : State :=
  let s := s.wr Pg.MON (Off.MON.VOLT0 + 4 * m) (v.setWidth 32)
  if s.outsideWindow m v then s.raise Pg.MON m ST.STATE (unitIdOf 2 s.devId 0) v.toNat else s

/-- The management controller has started. -/
def State.mcUp (s : State) : Bool := s.mgmt.run == .running || s.mgmt.run == .restarting

/-- MONITOR_SAMPLE (R317): sensors and monitors are read and window alarms raised; VNOW.MEAS shows monitor 0 (log entry 6). -/
def execMonitorSample (temps volts : List (BitVec 16)) (power : BitVec 16) (s : State) : Out :=
  .next (if s.mcUp then
    let s := ((temps.take 40).zipIdx).foldl (fun s x => s.wr Pg.MON (Off.MON.TEMP0 + 4 * x.2) (x.1.setWidth 32)) s
    let s := ((volts.take 16).zipIdx).foldl (fun s x => s.monitorRead x.2 x.1) s
    let s := s.wrF Pg.MGT Off.MGT.VNOW 31 16 (fld (s.rd Pg.MON Off.MON.VOLT0) 15 0)
    s.wrF Pg.MGT Off.MGT.POWER 15 0 power.toNat
  else s)

/-! ## Pace control (R318, R319) -/

/-- The largest wait since the last control step with its core: of items started, and so far of ready items not started (R318). -/
def State.lagNow (s : State) : Nat × Nat :=
  (List.range 32).foldl (fun b c =>
    if s.coreIn c then (s.core c).items.foldl (fun (b : Nat × Nat) it => match it.phase, it.ready with
      | .accepted, some (_, t) => if b.1 < (s.now - t).toNat then ((s.now - t).toNat, c) else b
      | _, _ => b) b
    else b) (s.mgmt.lag, s.mgmt.lagCore)

/-- Temperature n in 1/16 °C. -/
def State.temp (s : State) (n : Nat) : Int := sfld (s.rd Pg.MON (Off.MON.TEMP0 + 4 * n)) 15 0

/-- Some core domain reads at or above t °C. -/
def State.coreHot (s : State) (t : Nat) : Bool := (List.range 32).any fun n => decide (((16 * t : Nat) : Int) ≤ s.temp n)

/-- The MONITOR cone failed: VDD_CORE is held at VSET (Table 19.7). -/
def State.paceHeld (s : State) : Bool := s.power.fired && !(s.cone 5)

/-- One control step (R319). -/
def State.pace (s : State) (capped : Bool) : State :=
  let v : Int := s.rdF Pg.MGT Off.MGT.VNOW 15 0
  let step : Int := s.rdF Pg.MGT Off.MGT.PACE_CTRL 23 16
  let lag := min s.lagNow.1 0xFFFF
  let hi := s.rdF Pg.MGT Off.MGT.PACE_LAG 31 16
  let w := if capped ∨ s.coreHot (s.rdF Pg.MGT Off.MGT.THERM 7 0) then v - step
    else if hi < lag ∧ !(s.coreHot (s.rdF Pg.MGT Off.MGT.THERM 15 8)) then v + step
    else if lag < s.rdF Pg.MGT Off.MGT.PACE_LAG 15 0 then v - step
    else v
  let w := sat w (s.rdF Pg.MGT Off.MGT.VLIMIT 15 0) (s.rdF Pg.MGT Off.MGT.VLIMIT 31 16)
  let s := s.wrF Pg.MGT Off.MGT.VNOW 15 0 w.toNat
  let s := { s with mgmt := { s.mgmt with lag := 0, paceAt := s.now } }
  if hi < lag ∧ w ≤ v then s.raise Pg.MGT 0 ST.OK (unitIdOf 2 s.devId 0) lag else s

/-- PACE_STEP (R319): every INTERVAL the pace control raises, lowers or holds the VDD_CORE set point; it pauses while the management controller
restarts (R329). -/
def execPaceStep (overCap : Bool) (t : W64) (s : State) : Out :=
  .next (s.atTime t fun s =>
    if s.rdB Pg.MGT Off.MGT.PACE_CTRL 31 ∧ s.mgmt.run = .running ∧
        s.mgmt.paceAt.toNat + s.rdF Pg.MGT Off.MGT.PACE_CTRL 15 0 ≤ s.now.toNat then s.pace overCap else s)

/-! ## Limits (R321) -/

/-- THERMAL_LIMIT (R321): a domain at or above TJ_MAX for 1 ms takes its core OUT, or raises a thermal fault. -/
def execThermalLimit (pd : Fin 40) (s : State) : Out :=
  .next (if s.mgmt.run ≠ .running then s
    else if pd.val < 32 then (if s.coreIn pd then s.coreOut pd OC.LIMIT else s)
    else s.raise Pg.MGT 1 ST.STATE (unitIdOf 2 s.devId 0) pd)

/-- VCORE_EXCURSION (R321): VDD_CORE outside 0.54 to 0.90 V for 10 µs takes every core OUT. -/
def execVcoreExcursion (s : State) : Out :=
  .next (if s.mgmt.run ≠ .running then s
    else (s.coresOut (List.range 32) OC.LIMIT false).raise Pg.MGT 2 ST.STATE (unitIdOf 2 s.devId 0) 0)

/-! ## Writes of the MGT page (R322, R329) -/

/-- A write or command of the MGT page is refused. -/
def State.mgtRefuse (s : State) (code : Nat) : State :=
  (s.wrF Pg.MGT Off.MGT.MGT_CMD 23 16 code).logState Pg.MGT code (unitIdOf 2 s.devId 0) Off.MGT.MGT_CMD

/-- A write of PACE_CTRL. While EN is 0 the set point is VSET. -/
def State.paceWrite (s : State) (v : W32) : State :=
  if fld v 23 16 = 0 ∨ 20 < fld v 23 16 ∨ fld v 15 0 < 1000 then s.mgtRefuse ST.BAD_DESC
  else if bit v 31 ∧ s.paceHeld then s.mgtRefuse ST.STATE
  else
    let was := s.rdB Pg.MGT Off.MGT.PACE_CTRL 31
    let s := s.wrMasked Pg.MGT Off.MGT.PACE_CTRL v
    if bit v 31 then (if was then s else { s with mgmt := { s.mgmt with paceAt := s.now } })
    else s.wrF Pg.MGT Off.MGT.VNOW 15 0 (s.rdF Pg.MGT Off.MGT.VSET 15 0)

/-- A write of VLIMIT. -/
def State.vlimitWrite (s : State) (v : W32) : State :=
  if fld v 31 16 < fld v 15 0 ∨ fld v 15 0 < 550 ∨ 880 < fld v 15 0 ∨ fld v 31 16 < 550 ∨ 880 < fld v 31 16 then s.mgtRefuse ST.BAD_DESC
  else s.wrMasked Pg.MGT Off.MGT.VLIMIT v

/-- A write of VSET. -/
def State.vsetWrite (s : State) (v : W32) : State :=
  if fld v 15 0 < s.rdF Pg.MGT Off.MGT.VLIMIT 15 0 ∨ s.rdF Pg.MGT Off.MGT.VLIMIT 31 16 < fld v 15 0 then s.mgtRefuse ST.BAD_DESC
  else
    let s := s.wrMasked Pg.MGT Off.MGT.VSET v
    if s.rdB Pg.MGT Off.MGT.PACE_CTRL 31 then s else s.wrF Pg.MGT Off.MGT.VNOW 15 0 (fld v 15 0)

/-! ## The event log (R323) -/

/-- The eight words of an entry (Table 18.3). -/
def logWords (seq : W32) (e : LogEnt) : List W32 :=
  [seq, BitVec.ofNat 32 (e.page % 2 ^ 12 * 2 ^ 20 + e.bit % 2 ^ 6 * 2 ^ 14 + e.code % 2 ^ 8), e.time.setWidth 32, (e.time >>> 32).setWidth 32,
   BitVec.ofNat 32 (e.unit % 2 ^ 24), e.detail, e.arg.setWidth 32, (e.arg >>> 32).setWidth 32]

/-- The oldest entry that waits, and the log without it. -/
def LogSt.oldest (l : LogSt) : Option (LogEnt × LogSt) :=
  match l.buf, l.reserve with
  | [], [] => none
  | e :: r, [] => some (e, { l with buf := r })
  | [], x :: r => some (x, { l with reserve := r })
  | e :: r, x :: q => if e.no < x.no then some (e, { l with buf := r }) else some (x, { l with reserve := q })

/-- SEQ after one: 0 is never assigned. -/
def nextSeq (q : W32) : W32 := if q = 0xFFFFFFFF then 1 else q + 1

/-- LOG_ENTRY_WRITE (R323): the management controller drains one buffered event into the MRAM log. -/
def execLogEntryWrite (s : State) : Out :=
  .next (if s.mgmt.run ≠ .running then s
    else match s.log.oldest with
      | some (e, l) => { s with log := { l with ring := SMap.put l.ring (l.head.toNat % 32768) (logWords l.head e), head := nextSeq l.head } }
      | none => s)

/-- The entry of the ring with a SEQ: 0 where none is held. -/
def State.logWord (s : State) (q : W32) (i : Nat) : W32 :=
  match SMap.find s.log.ring (q.toNat % 32768) with
  | some ws => if q ≠ 0 ∧ ws.getD 0 0 = q then ws.getD i 0 else 0
  | none => 0

/-! ## Images (R327, R328) -/

def State.fwSrc (s : State) : Nat := s.rdF Pg.MGT Off.MGT.FW_SRC_HI 6 0 * 2 ^ 32 + (s.rd Pg.MGT Off.MGT.FW_SRC_LO).toNat

/-- MGT_CMD LOAD. -/
def State.imgLoad (s : State) : State :=
  if s.mcAway ∨ s.mgmt.tryRun ∨ s.mgmt.imgLoad then s.mgtRefuse ST.STATE else { s with mgmt := { s.mgmt with imgLoad := true } }

/-- MGT_LOAD (R328): MGT_CMD LOAD starts checking an image container and writing it to the slot that is not running. -/
def execMgtLoad (s : State) : Out := .next s.imgLoad

/-- An image into a slot of the flash. -/
def Flash.setImage (f : Flash) (b : Bool) (img : List Byte) : Flash := if b then { f with imgB := img } else { f with imgA := img }
def Flash.image (f : Flash) (b : Bool) : List Byte := if b then f.imgB else f.imgA

/-- The image load ends. -/
def State.imgLoaded (s : State) : State :=
  let s := { s with mgmt := { s.mgmt with imgLoad := false } }
  let b := (s.containerAt s.fwSrc).getD []
  let code := s.checkImage b
  if code = ST.OK then
    { s with flash := s.flash.setImage (!s.mgmt.slotB) b, mgmt := { s.mgmt with otherOk := true } }
  else (s.mgtRefuse code).raise Pg.MGT 3 code (unitIdOf 2 s.devId 0) 0

/-- MGT_IMAGE_LOAD_DONE (R328): the image load ends, setting OTHER_OK or rejecting the container. -/
def execMgtImageLoadDone (s : State) : Out := .next (if s.mgmt.imgLoad ∧ s.mgmt.run = .running then s.imgLoaded else s)

/-- The management controller restarts alone: what it was building is dropped (R329). -/
def State.mcRestart (s : State) : State := { s with mgmt := { s.mgmt with run := .restarting, imgLoad := false, report := false } }

/-- MGT_CMD ACTIVATE. -/
def State.imgActivate (s : State) : State :=
  if s.mcAway ∨ s.mgmt.tryRun ∨ !s.mgmt.otherOk then s.mgtRefuse ST.STATE
  else { s with flash := { s.flash with boot := { s.flash.boot with tryFlag := true, tryCount := 1 } } }.mcRestart

/-- MGT_ACTIVATE (R328): MGT_CMD ACTIVATE sets TRY and restarts the management controller. -/
def execMgtActivate (s : State) : Out := .next s.imgActivate

/-- MGT_CMD CONFIRM: FW_FLOOR never decreases (R326). -/
def State.imgConfirm (s : State) : State :=
  if s.mcAway ∨ !s.mgmt.tryRun then s.mgtRefuse ST.STATE
  else { s with flash := { s.flash with boot := { s.flash.boot with primary := s.mgmt.slotB, tryFlag := false, tryCount := 0 } },
                mgmt := { s.mgmt with tryRun := false },
                mram := { s.mram with fwFloor := BitVec.ofNat 32 (max s.mram.fwFloor.toNat (contFloor s.mgmt.image).toNat) } }

/-- MGT_CONFIRM (R328): MGT_CMD CONFIRM makes the running image primary and raises FW_FLOOR. -/
def execMgtConfirm (s : State) : Out := .next s.imgConfirm

/-- An MGT_CMD write; 0 is no command (R375). -/
def State.mgtCmd (s : State) (cmd : Nat) : State :=
  match cmd with
  | 1 => s.imgLoad
  | 2 => s.imgActivate
  | 3 => s.imgConfirm
  | _ => s

/-- MC_WATCHDOG (R328): the 1 s watchdog restarts the management controller. -/
def execMcWatchdog (s : State) : Out := .next (if s.mgmt.run = .running then s.mcRestart else s)

/-- An image starts. Blank fuses take its key (Table 18.6). -/
def State.startImage (s : State) (b : Bool) (try_ : Bool) : State :=
  let img := s.flash.image b
  { s with mgmt := { s.mgmt with run := .running, slotB := b, tryRun := try_, image := img },
           trayFp := s.trayFp <|> some (keyFp (contKey img)) }

/-- The boot ROM selects an image (R327): recovery mode where neither slot holds a good one. -/
def State.bootRom (s : State) : State :=
  let boot := s.flash.boot
  let trying := boot.tryFlag && decide (boot.tryCount = 1)
  let first := boot.primary != trying
  let s := { s with flash := { s.flash with boot := { boot with tryCount := if trying then 0 else boot.tryCount } } }
  if s.checkImage (s.flash.image first) = ST.OK then s.startImage first trying
  else if s.checkImage (s.flash.image (!first)) = ST.OK then s.startImage (!first) false
  else { s with mgmt := { s.mgmt with run := .recovery } }

/-- After the boot ROM at a cold or warm start: the board record is applied and the firing begins (Table 19.5). -/
def State.startUp (s : State) : State :=
  if s.mgmt.run = .running then
    let s := s.applyBoard s.board
    { s with power := { s.power with running := true } }
  else s

/-- MC_BOOT (R327): at a start of the management controller the boot ROM selects, checks and starts an image or enters recovery. -/
def execMcBoot (s : State) : Out :=
  .next (match s.mgmt.run with
    | .off => if s.power.porst then s else s.bootRom.startUp
    | .restarting => s.bootRom.discover
    | _ => s)

/-- RECOVERY_IMAGE (R327): in recovery mode an image received over UART or I3C is checked and written to slot A. -/
def execRecoveryImage (image : List Byte) (s : State) : Out :=
  .next (if s.mgmt.run = .recovery ∧ s.checkImage image = ST.OK then
    { s with flash := s.flash.setImage false image, trayFp := s.trayFp <|> some (keyFp (contKey image)) }
  else s)

/-! ## Owner key (R325, Table 18.6) -/

/-- A command of the SEC page is refused. -/
def State.secRefuse (s : State) (off code : Nat) : State :=
  (s.wrF Pg.SEC off 23 16 code).logState Pg.SEC code (unitIdOf 2 s.devId 0) off

def State.ownerSrc (s : State) : Nat := s.rdF Pg.SEC Off.SEC.OWNER_SRC_HI 6 0 * 2 ^ 32 + (s.rd Pg.SEC Off.SEC.OWNER_SRC_LO).toNat

/-- OWNER_CMD SET_OWNER: the key whose 1,952 bytes lie at OWNER_SRC (log entry 40), while OWNER_FP is all zero. -/
def State.setOwner (s : State) : State :=
  if s.mcAway ∨ !(zeros s.mram.ownerFp) then s.secRefuse Off.SEC.OWNER_CMD ST.STATE
  else match s.regionOf s.ownerSrc 1952 with
    | some (.staging _) =>
      if (s.ueWords s.ownerSrc 1952).isEmpty then { s with mram := { s.mram with ownerFp := keyFp (s.bytes s.ownerSrc 1952) } }
      else s.secRefuse Off.SEC.OWNER_CMD ST.BAD_DESC
    | _ => s.secRefuse Off.SEC.OWNER_CMD ST.BAD_DESC

/-- SET_OWNER (R325): OWNER_CMD SET_OWNER sets the owner key fingerprint while unset. -/
def execSetOwner (s : State) : Out := .next s.setOwner

/-- The new key of an owner change. -/
def ownerKey (b : List Byte) : Option (List Byte) :=
  match sectsTyped b 0x30 with
  | [x] => if x.bytes.length = 1952 then some x.bytes else none
  | _ => none

/-- OWNER_CMD CHANGE: a rejected container changes nothing and is logged (R325). -/
def State.changeOwner (s : State) : State :=
  if s.mcAway then s.secRefuse Off.SEC.OWNER_CMD ST.STATE
  else
    let b := (s.containerAt s.ownerSrc).getD []
    let code := checkContainer b 4 s.mram.ownerFp (ownerKey b).isSome true
    match ownerKey b with
    | some k =>
      if code = ST.OK then { s with mram := { s.mram with ownerFp := keyFp k } }
      else (s.secRefuse Off.SEC.OWNER_CMD code).logEvent Pg.SEC code (unitIdOf 2 s.devId 0) 0
    | none => (s.secRefuse Off.SEC.OWNER_CMD code).logEvent Pg.SEC code (unitIdOf 2 s.devId 0) 0

/-- CHANGE (R325): OWNER_CMD CHANGE replaces the owner key by a container signed by the present owner. -/
def execChange (s : State) : Out := .next s.changeOwner

/-- An OWNER_CMD write; 0 is no command (R375). -/
def State.ownerCmd (s : State) (cmd : Nat) : State :=
  match cmd with
  | 0 => s
  | 1 => s.setOwner
  | 2 => s.changeOwner
  | _ => s.secRefuse Off.SEC.OWNER_CMD ST.BAD_DESC

/-! ## Attestation (R340) -/

def State.attDst (s : State) : Nat := s.rdF Pg.SEC Off.SEC.ATT_DST_HI 6 0 * 2 ^ 32 + (s.rd Pg.SEC Off.SEC.ATT_DST_LO).toNat

/-- Bytes of a report's body: one section entry and the REPORT section. -/
abbrev reportBody : Nat := 16 + 0xB0

/-- The container fits into host window SRAM at ATT_DST. -/
def State.reportFits (s : State) : Bool := s.inStaging s.attDst (contSize reportBody)

/-- ATT_CMD ATTEST: DONE falls. -/
def State.attest (s : State) : State :=
  if s.mcAway ∨ s.mgmt.report then s.secRefuse Off.SEC.ATT_CMD ST.STATE
  else if !s.reportFits then s.secRefuse Off.SEC.ATT_CMD ST.BAD_DESC
  else { s with mgmt := { s.mgmt with report := true } }.wrF Pg.SEC Off.SEC.ATT_CMD 31 31 0

/-- ATTEST (R340): ATT_CMD ATTEST starts building a signed report. -/
def execAttest (s : State) : Out := .next s.attest

/-- An ATT_CMD write; 0 is no command (R375). -/
def State.attCmd (s : State) (cmd : Nat) : State :=
  match cmd with
  | 0 => s
  | 1 => s.attest
  | _ => s.secRefuse Off.SEC.ATT_CMD ST.BAD_DESC

/-- Exactly n bytes of a list, 0 beyond its end. -/
def fitBytes (n : Nat) (bs : List Byte) : List Byte := (List.range n).map fun i => bs.getD i 0

/-- The REPORT section (Table 18.9). -/
def State.reportSect (s : State) : List Byte :=
  leBytes 8 Config.serial.toNat ++ leBytes 4 0x2432B000 ++ leBytes 4 s.devId ++ leBytes 8 s.now.toNat ++
  leBytes 4 (contVersion s.mgmt.image).toNat ++ leBytes 4 s.mram.fwFloor.toNat ++ leBytes 4 (cfgVer s.mgmt.active).toNat ++
  leBytes 4 (cfgVer s.mgmt.prev).toNat ++ leBytes 4 s.mram.setFloor.toNat ++ leBytes 4 s.power.cones.toNat ++
  ((List.range 8).flatMap fun i => leBytes 4 (s.rd Pg.SEC (Off.SEC.NONCE0 + 4 * i)).toNat) ++
  fitBytes 32 (contDigest s.mgmt.image) ++ fitBytes 32 ((s.mgmt.active.map (·.digest)).getD []) ++ fitBytes 32 s.mram.ownerFp

/-- The report container: KIND 0x03, SIGNER 0x03, one REPORT section (R324, R340). -/
def State.reportBytes (s : State) : List Byte :=
  let body := leBytes 4 0x20000000 ++ leBytes 4 16 ++ leBytes 4 0xB0 ++ leBytes 4 0 ++ s.reportSect
  let hdr := leBytes 4 0x435A4541 ++ leBytes 4 0x03010300 ++ leBytes 4 0 ++ leBytes 4 0 ++ leBytes 4 reportBody ++ leBytes 4 1 ++
    leBytes 8 0 ++ fitBytes 64 (Config.shake256 body 64) ++ leBytes 32 0
  fitBytes (contSize reportBody) (hdr ++ body ++ fitBytes 1952 Config.identityKey ++ fitBytes 3309 (Config.mldsaSign hdr))

/-- ATTEST_DONE (R340): the report is written to host window SRAM and DONE is set. -/
def execAttestDone (s : State) : Out :=
  .next (if s.mgmt.report ∧ s.mgmt.run = .running then
    ({ s with mgmt := { s.mgmt with report := false } }.store s.attDst (s.reportBytes.map some)).1.wrF Pg.SEC Off.SEC.ATT_CMD 31 31 1
  else s)

end Sys2Proof.Machine
end

