-- ==== Sys2Proof/Machine/RaceRegs.lean ====
section
/-! DEFINITION. Race descriptors (R189, R194), the WEIR page (R195), race deadlocks (R188) and the longest hold (R190). -/
namespace Sys2Proof.Machine

/-! ## Descriptors (R194) -/

/-- A descriptor write of race r is refused. -/
def State.raceRefuse (s : State) (r code : Nat) : State :=
  (s.wr Pg.WEIR Off.WEIR.RACE_ERR (BitVec.ofNat 32 (code * 2 ^ 24 + r))).logState Pg.WEIR code (unitIdOf 2 s.devId 0) Off.WEIR.RACE_ERR

/-- The conditions under which a write that sets VALID takes effect, for the RD_CTRL value it writes. -/
def State.raceGood (s : State) (r : Nat) (v : W32) : Bool :=
  let kind := fld v 30 29
  decide (1 ≤ s.raceDrain r) && (!(bit v 27) || decide (1 ≤ s.raceStep r)) &&
  (decide (kind < 2) || decide (1 ≤ s.raceDepth r)) &&
  (decide (kind ≠ RK.MCAST) || (decide (1 ≤ s.mcDepth r) && (List.range 16).any fun i => bit (s.raceMemb r i) 31))

/-- A lane of the race is OPEN or BOUND. -/
def State.raceInUse (s : State) (r : Nat) : Bool :=
  (List.range 32).any fun c => (s.lane r c).st == .opened || (s.lane r c).st == .bound

/-- RD_CTRL takes the RW fields of v. -/
def State.raceCtrl (s : State) (r : Nat) (v : W32) : State := s.wrRace r Off.RACE.RD_CTRL (v &&& 0xFFFFFC00)

/-- A write of RD_CTRL. When VALID is set, each sent count takes its credit's value (R189). -/
def State.raceWrite (s : State) (r : Nat) (v : W32) : State :=
  if s.raceValid r then (if bit v 31 ∨ s.raceInUse r then s.raceRefuse r ST.STATE else s.raceCtrl r v)
  else if bit v 31 then
    if s.raceGood r v then (List.range 16).foldl (fun s i => s.setSent r i (s.creditTally r i)) (s.raceCtrl r v)
    else s.raceRefuse r ST.BAD_DESC
  else s.raceCtrl r v

/-- RD_CTRL_WRITE (R194): sets or clears VALID after validation. -/
def execRdCtrlWrite (_src : Agent) (race : Fin 64) (v : W32) (s : State) : Out := .next (s.raceWrite race v)

/-- A write to another register of an entry, at entry offset o: refused while VALID is 1 where the register holds an RW field. -/
def State.raceEntryWrite (s : State) (r o : Nat) (v : W32) : State :=
  match RegMap.lookup (Pg.RACE r) (raceOff r o) with
  | some d =>
    if d.rw = 0 then s
    else if s.raceValid r then s.raceRefuse r ST.STATE
    else s.wrMasked (Pg.RACE r) (raceOff r o) v
  | none => s

/-! ## The WEIR page (R195) -/

/-- A write to MC_HOLD: 0 is refused with BAD_DESC and logged, since no register of the page holds the code. -/
def State.mcHoldWrite (s : State) (v : W32) : State :=
  if v = 0 then s.logEvent Pg.WEIR ST.BAD_DESC (unitIdOf 2 s.devId 0) Off.WEIR.MC_HOLD else s.wr Pg.WEIR Off.WEIR.MC_HOLD v

/-! ## Race deadlocks (R188) -/

/-- The cycle of blocked races that race r begins, `fuel` races at most: empty where its chain of DEP leaves the blocked races or
does not come back to r. -/
def State.raceCycle (s : State) (blocked : List Nat) (r : Nat) : Nat → Nat → List Nat
  | 0, _ => []
  | fuel + 1, x =>
    if !(blocked.contains x) ∨ !(s.raceDepEn x) then []
    else if s.raceDep x = r then [x]
    else match s.raceCycle blocked r fuel (s.raceDep x) with
      | [] => []
      | l => x :: l

/-- The item that owns the oldest pending row of race r: core, item. -/
def State.oldestOwner (s : State) (r : Nat) : Option (Nat × Item) :=
  let mine := s.pendingRows.filter fun x => x.2.2.1.race == some r
  match (mine.map fun x => x.2.2.1.startNo).min? with
  | some n => (mine.find? fun x => x.2.2.1.startNo = n).map fun x => (x.1, x.2.2.2.1)
  | none => none

/-- Of the races of a cycle with the owners of their oldest rows: the one whose item is failed, the larger DEADLINE_CLASS first and
then the higher race number. -/
def victim : List (Nat × Nat × Item) → Option (Nat × Nat × Item)
  | [] => none
  | x :: xs => match victim xs with
    | none => some x
    | some y =>
      if descClass x.2.2.desc < descClass y.2.2.desc ∨ (descClass x.2.2.desc = descClass y.2.2.desc ∧ x.1 < y.1) then some y else some x

/-- Transfers of an item under race r retire without their remaining rows and without an update (R188, R374). -/
def State.dropRows (s : State) (c key r : Nat) : State :=
  s.modCore c fun k =>
    let cut := fun e : QEntry => if e.item = key ∧ e.race = some r ∧ e.st = .started then { e with pend := [], noUpd := true } else e
    { k with fq := k.fq.map cut, wq := k.wq.map cut }

/-- A race deadlock is broken. -/
def State.breakCycle (s : State) (cycle : List Nat) : State :=
  match victim (cycle.filterMap fun r => (s.oldestOwner r).map fun o => (r, o)) with
  | none => s
  | some (r, c, it) =>
    let detail := r * 2 ^ 18 + s.raceDep r * 2 ^ 12 + cycle.length
    let s := (s.wr Pg.WEIR Off.WEIR.DLK_LAST (BitVec.ofNat 32 (r * 2 ^ 26 + s.raceDep r * 2 ^ 20 + cycle.length * 2 ^ 13))).bump
      Pg.WEIR Off.WEIR.DLK_CNT
    let s := s.raise Pg.WEIR 0 ST.RACE_DEADLOCK (s.coreUnit c) detail
    ((s.dropRows c it.key r).failItem c it.key ST.RACE_DEADLOCK detail).scanBlocked

/-- RACE_DEADLOCK_DETECT (R188): a cycle of blocked dependent races is broken by failing one item; of several cycles, the one with the
lowest race number. -/
def execRaceDeadlockDetect (s : State) : Out :=
  .next (let b := s.blockedRaces
    match ((List.range 64).map fun r => s.raceCycle b r 64 r).find? fun l => !l.isEmpty with
    | some l => s.scanBlocked.breakCycle l
    | none => s.scanBlocked)

/-! ## The longest hold (R190) -/

/-- A stripe of race r has been held for member i longer than MC_HOLD.PERIODS. -/
def State.heldTooLong (s : State) (r i : Nat) : Bool :=
  s.stripes.any fun (x : Stripe) => decide (x.race = r) && x.held.any fun h => h.1 == i && s.later h.2 (s.rd Pg.WEIR Off.WEIR.MC_HOLD).toNat

/-- MC_HOLD_EXPIRY (R190): a stripe held for a member longer than MC_HOLD prunes that member. -/
def execMcHoldExpiry (race : Fin 64) (memb : Fin 16) (t : W64) (s : State) : Out :=
  .next (s.atTime t fun s => if s.heldTooLong race memb then s.prune race memb else s)

end Sys2Proof.Machine
end

