-- ==== Sys2Proof/Machine/RegRead.lean ====
section
/-! DEFINITION. What a read of a page register returns (R9, R10, R262, R292 to R303 and the field maps of the block chapters): the
value held, or a view of the state where a field shows one. -/
namespace Sys2Proof.Machine

/-- The domain that a page describes is on (R295, R296, Table 19.1); true for pages that describe none. -/
def State.pageOn (s : State) (kind i : Nat) : Bool :=
  match kind with
  | 3 => s.domainOn i
  | 4 => s.domainOn (portDomain i)
  | 0x0A => s.domainOn 36 || s.domainOn 37
  | 0x0B => s.domainOn (36 + i / 4)
  | 0x0C => s.domainOn 39
  | 0x0D => s.domainOn 39
  | 0x0E => s.domainOn 38
  | 0x0F => s.domainOn 38
  | 0x1A => s.domainOn (portDomain (2 * i))
  | _ => true

/-- A mask of the indices below n that satisfy p. -/
def maskOf (n : Nat) (p : Nat → Bool) : Nat := ((List.range n).map fun i => if p i then 2 ^ i else 0).sum

/-- Some page of a kind has STATUS.FAULT = 1. -/
def State.kindFault (s : State) (k : Nat) : Bool :=
  RegMap.pages.any fun p => (RegMap.kindOf p).any (fun x => x.1 == k) && s.pageFault p

/-- Cores in service. -/
def State.inServiceMask (s : State) : Nat := maskOf 32 fun c => (s.core c).inService

/-- Registers of the DEV page (Table 16.3). -/
def State.devView (s : State) (off : Nat) : Nat :=
  if off = Off.DEV.DEV_ID then s.devId
  else if off = Off.DEV.SERIAL_LO then Config.serial.toNat
  else if off = Off.DEV.SERIAL_HI then Config.serial.toNat / 2 ^ 32
  else if off = Off.DEV.DEV_STATE then s.power.ready.toNat * 2 ^ 31 + (s.cores.filter Core.inService).length
  else if off = Off.DEV.CORE_INSVC then s.inServiceMask
  else if off = Off.DEV.FAULT_KINDS then maskOf 27 fun k => decide (1 ≤ k) && s.kindFault k
  else if off = Off.DEV.FAULT_CORES then maskOf 32 fun c => s.pageFault (Pg.CORE c)
  else if off = Off.DEV.FAULT_SPS then maskOf 24 fun n => s.pageFault (Pg.SP n)
  else (s.rd Pg.DEV off).toNat

/-- Quanta that group g holds for its full cores (R99). -/
def State.groupHeld (s : State) (g : Nat) : Nat :=
  (s.jobs.map fun j => (j.quanta.filter fun q => match q.st with
    | .held c => c / 4 == g
    | _ => false).length).sum

/-- Registers of a GRP page (Table 16.4). -/
def State.grpView (s : State) (g off : Nat) : Nat :=
  if off = Off.GRP.GRP_STATE then
    (maskOf 4 fun i => (s.core (4 * g + i)).inService) * 2 ^ 24 + min (s.groupHeld g) 0xFFFF
  else (s.rd (Pg.GRP g) off).toNat

/-- Registers of a CORE page (Table 16.5). -/
def State.coreView (s : State) (c off : Nat) : Nat :=
  let k := s.core c
  let v := s.rd (Pg.CORE c) off
  if off = Off.CORE.CORE_STATE then k.st.code * 2 ^ 29 + fld v 23 16 * 2 ^ 16 + k.waiting
  else if off = Off.CORE.IMEM_CTRL then k.swap.toNat * 2 ^ 31 + fld v 23 16 * 2 ^ 16 + k.active.toNat
  else if off = Off.CORE.IMEM_DATA then (s.imemWord c).toNat
  else if off = Off.CORE.SLUICE_STATE then ((List.range 8).map fun w => (k.wins.getD w {}).st.code * 4 ^ w).sum
  else if off = Off.CORE.QUEUE_LEVEL then k.wq.length * 2 ^ 16 + k.xq.length * 2 ^ 8 + k.fq.length
  else v.toNat

/-- Lines held by the fullest stream of a port. -/
def State.fullest (s : State) (n : Nat) : Nat := ((List.range 4).map fun i => s.heldLines n i).foldl max 0

/-- Registers of an SP page (Table 2.8): a correction register shows its active copy (R44). -/
def State.spView (s : State) (n off : Nat) : Nat :=
  let p := s.port n
  let v := s.rd (Pg.SP n) off
  if off = Off.SP.INTAKE_CTRL then (setBit v 30 p.swapPend).toNat
  else if off = Off.SP.PORT_STATE then p.st.code * 2 ^ 29 + fld v 28 0
  else if off = Off.SP.TBL_DATA then (s.tblWord n).toNat
  else if off = Off.SP.HOP_LEVEL then
    fld v 31 16 * 2 ^ 16 + s.fullest n
  else if off = Off.SP.MCLK_CTRL ∧ n % 2 = 1 then 0
  else match corrOffs.findIdx? fun o => o == off with
    | some k => (p.act.reg k).toNat
    | none => v.toNat

/-- A lane is short of space (R183): of a FETCH or HOP race by its space, else where its destination cannot accept a pending row. -/
def State.shortNow (s : State) (r c : Nat) : Bool :=
  if s.raceKind r = RK.FETCH ∨ s.raceKind r = RK.HOP then (s.lane r c).st != .free && s.laneShort r c
  else (s.pendingRows.any fun x => x.1 == c && x.2.2.1.race == some r && s.rowShort x.1 x.2.2.2.1 x.2.2.1 x.2.2.2.2) ||
    (s.stripes.any fun x => x.race == r && x.core == c && !x.held.isEmpty) ||
    (s.core c).wq.any fun e => e.st == .queued && e.held.isSome && e.race == some r

/-- Registers of the WEIR page (Table 9.7). -/
def State.weirView (s : State) (off : Nat) : Nat :=
  let r := s.rdF Pg.WEIR Off.WEIR.LANE_SEL 13 8
  let c := s.rdF Pg.WEIR Off.WEIR.LANE_SEL 4 0
  let l := s.lane r c
  let m := s.miss.getD (s.rdF Pg.WEIR Off.WEIR.MISS_IDX 3 0) none
  if off = Off.WEIR.SHED_STATE then min s.backlog 0xFFFF * 2 ^ 16 + s.rdF Pg.WEIR off 4 0
  else if off = Off.WEIR.LANE_STATE then l.st.code * 2 ^ 29 + (s.shortNow r c).toNat * 2 ^ 28 + s.urgency r c
  else if off = Off.WEIR.LANE_GRANTED then min l.granted 0xFFFFFFFF
  else if off = Off.WEIR.LANE_BASE_LO then l.base.toNat
  else if off = Off.WEIR.LANE_BASE_HI then l.base.toNat / 2 ^ 32
  else if off = Off.WEIR.LANE_COUNT then l.count.toNat
  else if off = Off.WEIR.MISS_ENT then
    match m with
    | some x => 2 ^ 31 + x.dev % 512 * 2 ^ 22 + x.race % 64 * 2 ^ 16 + x.tally % 16384
    | none => 0
  else if off = Off.WEIR.MISS_FRAME then (m.map fun x => x.frame.toNat).getD 0
  else (s.rd Pg.WEIR off).toNat

/-- RS_STATE of a race (Table 9.6): active while a lane is OPEN or BOUND. -/
def State.raceState (s : State) (r : Nat) : Nat :=
  let live := (List.range 32).filter fun c => (s.lane r c).st == .opened || (s.lane r c).st == .bound
  let st := if !s.raceValid r then 0 else if s.blockedRaces.contains r then 3 else if live.isEmpty then 1 else 2
  let urg := (List.range 32).foldl (fun u c => min u (s.urgency r c)) 0xFFFFFF
  st * 2 ^ 30 + min live.length 63 * 2 ^ 24 + urg

/-- Members of race r that are pruned now (R190). -/
def State.raceView (s : State) (q off : Nat) : Nat :=
  let r := 16 * q + (off - 0x100) / 128
  if off < 0x900 ∧ (off - 0x100) % 128 = Off.RACE.RS_STATE then s.raceState r else (s.rd (0x061 + q) off).toNat

/-- Waits registered now on the tallies of a page. -/
def State.waiters (s : State) (n : Nat) : Nat :=
  let on := fun (w : Option WaitReg) => w.any fun x => !x.released && x.tally / 1024 == n
  (s.cores.map fun k => ((k.fq ++ k.xq ++ k.wq).filter fun e => on e.wait).length + (on k.seqWait).toNat).sum

/-- Registers of a TALLY page (Table 7.5), the VIEW window among them. -/
def State.tallyView (s : State) (n off : Nat) : Nat :=
  if 0x800 ≤ off then (s.tally (1024 * n + 512 * s.rdF (tallyPage n) Off.TALLY.T_IDX 30 30 + (off - 0x800) / 4)).toNat
  else if off = Off.TALLY.T_VAL then (s.tally (s.tallySel n)).toNat
  else if off = Off.TALLY.T_ATTR then (s.strict (s.tallySel n)).toNat
  else if off = Off.TALLY.WAITERS then min (s.waiters n) 0xFF
  else (s.rd (tallyPage n) off).toNat

/-- Registers of the LCH page (Table 3.6); the exposure registers are those of the port in EXP_SEL (R68). -/
def State.lchView (s : State) (src : Agent) (off : Nat) : Nat :=
  let n := s.rdF Pg.LCH Off.LCH.EXP_SEL 4 0
  let v := s.rd Pg.LCH off
  if off = Off.LCH.TIME_STATE then s.rig.st.code * 2 ^ 29 + fld v 28 0
  else if off = Off.LCH.RIG_TIME_LO then s.now.toNat
  else if off = Off.LCH.RIG_TIME_HI then
    match src with
    | .host ch => (s.chan ch).capHi.toNat
    | .mc => v.toNat
  else if off = Off.LCH.ENT_CMD then (s.entry s.entIdx).armed.toNat * 2 ^ 31 + fld v 23 16 * 2 ^ 16
  else if off = Off.LCH.DESC_DATA then (s.descWord s.descSel).toNat
  else if off = Off.LCH.EXP_CMD then s.rdF Pg.LCH off 23 16 n * 2 ^ 16 + (s.port n).expQ.length
  else if off = Off.LCH.PORT_FRAME then (s.port n).next.toNat
  else if Off.LCH.EXP_FRAME ≤ off ∧ off ≤ Off.LCH.EXP_STATE then (s.rd Pg.LCH off n).toNat
  else v.toNat

/-- Registers of the STAT page (Table 16.6); those from 0x104 to 0x114 are the selected stream's (R302). -/
def State.statView (s : State) (off : Nat) : Nat :=
  if Off.STAT.STAT_CFG ≤ off ∧ off ≤ Off.STAT.STAT_SEQ then (s.rd Pg.STAT off s.statSel).toNat else (s.rd Pg.STAT off).toNat

/-- Registers of the MEM page (Table 13.5): FORCE_FULL lives in MRAM (R252). -/
def State.memView (s : State) (off : Nat) : Nat :=
  if off = Off.MEM.TRAIN_CTRL then s.mram.forceFull.toNat * 2 ^ 31 else (s.rd Pg.MEM off).toNat

/-- Registers of the HP page (Table 14.10). -/
def State.hpView (s : State) (off : Nat) : Nat :=
  if off = Off.HP.HP_STATE then s.hpReady.toNat * 2 ^ 31 + (maskOf 4 fun h => (s.chan h).st == .run) * 2 ^ 24
  else if off = Off.HP.INT_STATE then s.ringsPending
  else (s.rd Pg.HP off).toNat

/-- HC_STATE: the state and the settings in force (R255). -/
def Chan.view (k : Chan) : Nat :=
  let m := k.mode
  k.st.code * 2 ^ 29 + (rlLow m).toNat * 2 ^ 28 + m.linkEcc.toNat * 2 ^ 27 + m.dbiRd.toNat * 2 ^ 26 + m.dm.toNat * 2 ^ 25 +
  m.bg.toNat * 2 ^ 24 + m.rl.toNat * 2 ^ 16 + m.wl.toNat * 2 ^ 8 + m.rate.toNat

/-- Registers of an HC page (Table 14.11). -/
def State.hcView (s : State) (h off : Nat) : Nat :=
  if off = Off.HC.HC_STATE then (if (s.chan h).st = .off then 0 else (s.chan h).view)
  else match (List.range 4).find? fun r => off == ringOff Off.HC.RING_STATE0 r with
    | some r => fld (s.rd (Pg.HC h) off) 31 31 * 2 ^ 31 + (s.pendRecs (4 * h + r)).length
    | none => (s.rd (Pg.HC h) off).toNat

/-- Registers of the LNK page (Table 15.8). After a cold reset DISC_STATE.DEVICES reads 1: the table gives it reset 0, its description counts the
device itself and R291 makes the own entry valid; DESIGN CHOICE (log entry 67). -/
def State.lnkView (s : State) (off : Nat) : Nat :=
  let v := s.rd Pg.LNK off
  let valid := (List.range 512).filter fun d => bit (s.route d) 31
  if off = Off.LNK.DISC_STATE then
    fld v 31 31 * 2 ^ 31 + valid.length * 2 ^ 16 + (valid.map fun d => fld (s.route d) 25 22).foldl max 0
  else if off = Off.LNK.STORE_LEVEL then fld v 31 16 * 2 ^ 16 + s.storeUsed / 1024 % 2 ^ 16
  else v.toNat

/-- Registers of a DL page (Table 15.9). -/
def State.dlView (s : State) (d off : Nat) : Nat :=
  let k := s.link d
  if off = Off.DL.DL_STATE then
    k.st.code * 2 ^ 29 +
    (if k.joined then
      (linkMode k.mode).1 * 2 ^ 27 + k.lanes.toNat * 2 ^ 23 + k.level % 4 * 2 ^ 21 + k.peerLvl % 4 * 2 ^ 19 +
      (decide (s.upstream = d) && !s.root && k.st == .up).toNat * 2 ^ 18 + k.peerDev % 512
    else 0)
  else (s.rd (Pg.DL d) off).toNat

/-- A ROUTE entry (R285, R291): USING_ALT where the alternate is in use. -/
def State.routeView (s : State) (off : Nat) : Nat :=
  let d := (off - 0x100) / 4
  let w := s.route d
  if 0x900 ≤ off then 0
  else if d = s.devId then w.toNat
  else (setBit w 28 ((s.egress d).any fun x => x.2)).toNat

/-- Registers of a GLZ page (Table 12.6); those from 0x108 to 0x150 are the selected context's (R239). -/
def State.glzView (s : State) (g off : Nat) : Nat :=
  let z := s.glaze g
  if off = Off.GLZ.CTX_CMD then (s.ctxArmed g (s.glzSel g)).toNat * 2 ^ 31 + s.rdF (Pg.GLZ g) off 23 16 * 2 ^ 16
  else if off = Off.GLZ.COEF_DATA then (s.coefWord g).toNat
  else if off = Off.GLZ.GLZ_STATE then min z.openBands 0xFF * 2 ^ 16 + maskOf 16 fun x => z.armed.contains x
  else if Off.GLZ.C_IN ≤ off ∧ off ≤ Off.GLZ.COEF_SEL then (s.rd (Pg.GLZ g) off (s.glzSel g)).toNat
  else (s.rd (Pg.GLZ g) off).toNat

/-- Registers of the MGT page (Table 18.2). -/
def State.mgtView (s : State) (off : Nat) : Nat :=
  if off = Off.MGT.LAG_NOW then s.lagNow.2 % 32 * 2 ^ 16 + min s.lagNow.1 0xFFFF
  else if off = Off.MGT.FW_STATE then
    s.mgmt.tryRun.toNat * 2 ^ 31 + s.mgmt.slotB.toNat * 2 ^ 30 + s.mgmt.otherOk.toNat * 2 ^ 29
  else if off = Off.MGT.FW_VER then (contVersion s.mgmt.image).toNat
  else if off = Off.MGT.FW_FLOOR then s.mram.fwFloor.toNat
  else (s.rd Pg.MGT off).toNat

/-- Registers of the LOG page (R323). -/
def State.logView (s : State) (off : Nat) : Nat :=
  if off = Off.LOG.HEAD then s.log.head.toNat
  else if Off.LOG.ENTRY0 ≤ off ∧ off ≤ Off.LOG.ENTRY7 then (s.logWord (s.rd Pg.LOG Off.LOG.IDX) ((off - Off.LOG.ENTRY0) / 4)).toNat
  else (s.rd Pg.LOG off).toNat

/-- Registers of the SEC page (list after R340). -/
def State.secView (s : State) (off : Nat) : Nat :=
  if off < Off.SEC.OWNER_FP0 then (w32At s.mram.idkeyFp (off - Off.SEC.IDKEY_FP0)).toNat
  else if off < Off.SEC.NONCE0 then (w32At s.mram.ownerFp (off - Off.SEC.OWNER_FP0)).toNat
  else (s.rd Pg.SEC off).toNat

/-- Registers of the CFG page (Table 18.8). -/
def State.cfgView (s : State) (off : Nat) : Nat :=
  let v := s.rd Pg.CFG off
  if off = Off.CFG.CFG_STATE then s.mgmt.cfg.code * 2 ^ 30 + s.mgmt.prevValid.toNat * 2 ^ 29 + fld v 23 16 * 2 ^ 16
  else if off = Off.CFG.ACTIVE_VER then (cfgVer s.mgmt.active).toNat
  else if off = Off.CFG.PREV_VER then (cfgVer s.mgmt.prev).toNat
  else if off = Off.CFG.STAGED_VER then (cfgVer s.mgmt.staged).toNat
  else if off = Off.CFG.SET_FLOOR then s.mram.setFloor.toNat
  else if off = Off.CFG.COVERED then maskOf 24 fun n => s.mgmt.covered.contains n
  else v.toNat

/-- Registers of the PWR page (Table 19.8). -/
def State.pwrView (s : State) (off : Nat) : Nat :=
  if off = Off.PWR.PD_ON_LO then s.power.pd.toNat
  else if off = Off.PWR.PD_ON_HI then s.power.pd.toNat / 2 ^ 32
  else (s.rd Pg.PWR off).toNat

/-- Registers of the CAL page (Table 19.9). -/
def State.calView (s : State) (off : Nat) : Nat :=
  if off = Off.CAL.CAL_STATE then s.power.fired.toNat * 2 ^ 31 + s.power.running.toNat * 2 ^ 30 + s.power.cones.toNat
  else if off = Off.CAL.CAL_CTRL then s.mram.autoWarm.toNat
  else if off = Off.CAL.FIRE_CNT then s.mram.fireCnt.toNat
  else (s.rd Pg.CAL off).toNat

/-- Block registers of a page, by its kind. -/
def State.blockView (s : State) (src : Agent) (p k i off : Nat) : Nat :=
  match k with
  | 1 => s.devView off
  | 2 => s.grpView i off
  | 3 => s.coreView i off
  | 4 => s.spView i off
  | 5 => s.weirView off
  | 6 => s.raceView i off
  | 7 => s.tallyView i off
  | 8 => s.lchView src off
  | 9 => s.statView off
  | 0x0A => s.memView off
  | 0x0C => s.hpView off
  | 0x0D => s.hcView i off
  | 0x0E => s.lnkView off
  | 0x0F => s.dlView i off
  | 0x10 => s.routeView off
  | 0x12 => s.glzView i off
  | 0x13 => s.mgtView off
  | 0x15 => s.logView off
  | 0x16 => s.secView off
  | 0x17 => s.cfgView off
  | 0x18 => s.pwrView off
  | 0x19 => s.calView off
  | _ => (s.rd p off).toNat

/-- What a read of the register at an offset of a page returns: 0 from a page index that Table 16.2 does not list (R293) and from offsets
that no field map defines. -/
def State.readReg (s : State) (src : Agent) (p off : Nat) : W32 :=
  match RegMap.kindOf p with
  | none => 0
  | some (k, _, i) =>
    if off % 4 ≠ 0 then 0
    else if off = Off.HDR.STATUS then BitVec.ofNat 32 ((s.pageFault p).toNat * 2 ^ 31 + (s.pageOn k i).toNat * 2 ^ 30)
    else if off < 0x100 then s.rd p off
    else BitVec.ofNat 32 (s.blockView src p k i off)

/-- A read by the management controller: the index of a data register moves on (R373), a read of RIG_TIME_LO captures the high word (R54), and
the most held since the last read starts again (Tables 2.8 and 15.8). -/
def State.mcRead (s : State) (p off : Nat) : W32 × State :=
  let v := s.readReg .mc p off
  match RegMap.kindOf p with
  | some (3, _, c) => (v, if off = Off.CORE.IMEM_DATA then s.imemNext c else s)
  | some (4, _, n) =>
    (v, if off = Off.SP.TBL_DATA then s.tblNext n
      else if off = Off.SP.HOP_LEVEL then s.wrF (Pg.SP n) off 31 16 (s.fullest n)
      else s)
  | some (0x0E, _, _) => (v, if off = Off.LNK.STORE_LEVEL then s.wrF Pg.LNK off 31 16 (s.storeUsed / 1024 % 2 ^ 16) else s)
  | some (8, _, _) =>
    (v, if off = Off.LCH.DESC_DATA then s.descNext
      else if off = Off.LCH.RIG_TIME_LO then s.wr Pg.LCH Off.LCH.RIG_TIME_HI ((s.now >>> 32).setWidth 32)
      else s)
  | some (0x12, _, g) => (v, if off = Off.GLZ.COEF_DATA then s.coefNext g else s)
  | _ => (v, s)

end Sys2Proof.Machine
end

