-- ==== Sys2Proof/Machine/Registers.lean ====
section
/-! DEFINITION. A write to a page register (R9, R10, R292 to R297): each register by the rule of its own chapter, every other one under its
access types. -/
namespace Sys2Proof.Machine

/-- A write of an SP page register (R44, R45). -/
def State.spWrite (s : State) (n off : Nat) (v : W32) : State :=
  if off = Off.SP.INTAKE_CTRL then s.intakeWrite n v
  else if off = Off.SP.TBL_DATA then s.tblWrite n v
  else if off = Off.SP.MCLK_CTRL ∧ n % 2 = 1 then s
  else match corrOffs.findIdx? fun o => o == off with
    | some k => s.corrWrite n k v
    | none =>
      if spBad n off v then s.portRefuse n ST.BAD_DESC
      else if Off.SP.STREAM0 ≤ off ∧ off ≤ Off.SP.STREAM3 ∧ !(s.port n).writable then s.portRefuse n ST.STATE
      else s.wrMasked (Pg.SP n) off v

/-- A write of a CORE page register (R100, R101, R301). -/
def State.coreWrite (s : State) (src : Agent) (c off : Nat) (v : W32) : State :=
  if off = Off.CORE.CORE_CMD then s.coreCmd src c v
  else if off = Off.CORE.IMEM_CTRL then (if bit v 31 then s.swapWrite c else s)
  else if off = Off.CORE.IMEM_DATA then s.imemWrite c v
  else if off = Off.CORE.SP_RESERVE then s.spReserveWrite c v
  else if off = Off.CORE.SCRUB_CTRL then s.scrubCtrlWrite c v
  else s.wrMasked (Pg.CORE c) off v

/-- A write of RACE page q (R194). -/
def State.racePageWrite (s : State) (q off : Nat) (v : W32) : State :=
  let r := 16 * q + (off - 0x100) / 128
  let o := (off - 0x100) % 128
  if 0x900 ≤ off then s else if o = Off.RACE.RD_CTRL then s.raceWrite r v else s.raceEntryWrite r o v

/-- A write of a TALLY page register (R159). -/
def State.tallyPageWrite (s : State) (n off : Nat) (v : W32) : State :=
  if off = Off.TALLY.T_SET then s.tallyWrite n true v
  else if off = Off.TALLY.T_ADD then s.tallyWrite n false v
  else if off = Off.TALLY.T_ATTR then (s.setStrict (s.tallySel n) (bit v 0)).tallyNext n
  else if off = Off.TALLY.WAIT_LIMIT then s.waitLimitWrite n v
  else s.wrMasked (tallyPage n) off v

/-- A write of a LCH page register (R50, R55, R62, R68). -/
def State.lchWrite (s : State) (off : Nat) (v : W32) : State :=
  if off = Off.LCH.TIME_CTRL then s.timeCtrlWrite v
  else if off = Off.LCH.ENT_CMD then s.entCmd (fld v 2 0)
  else if off = Off.LCH.DESC_DATA then s.descWrite v
  else if off = Off.LCH.EXP_CMD then (if bit v 31 then s.expPush else s)
  else if Off.LCH.EXP_FRAME ≤ off ∧ off ≤ Off.LCH.EXP_STATE then s.wrMasked Pg.LCH off v (s.rdF Pg.LCH Off.LCH.EXP_SEL 4 0)
  else s.wrMasked Pg.LCH off v

/-- A write of a STAT page register (R302). -/
def State.statPageWrite (s : State) (off : Nat) (v : W32) : State :=
  if off = Off.STAT.STAT_CFG then s.statWrite .cfg v
  else if off = Off.STAT.RING_BASE_LO then s.statWrite .baseLo v
  else if off = Off.STAT.RING_BASE_HI then s.statWrite .baseHi v
  else if off = Off.STAT.RING_DEPTH then s.statWrite .depth v
  else if off = Off.STAT.STAT_SEQ then s.statSeqWrite
  else s.wrMasked Pg.STAT off v

/-- A write of a DL page register (R290). -/
def State.dlWrite (s : State) (d off : Nat) (v : W32) : State :=
  if off = Off.DL.DL_CFG then s.dlCfgWrite d v
  else if off = Off.DL.DL_CMD then s.dlCmd d (fld v 3 0)
  else if off = Off.DL.LOSS_CTRL then s.lossWrite d v
  else s.wrMasked (Pg.DL d) off v

/-- A write of SPAN page i: its entries are registers of SPAN1 to SPAN4 (R22 to R24). -/
def State.spanWrite (s : State) (i off : Nat) (v : W32) : State :=
  let e := 60 * (i - 1) + (off - 0x100) / 64
  let o := (off - 0x100) % 64
  if i = 0 then s
  else if o = Off.SPAN.SPAN_HDR then s.spanHdrWrite e v
  else if o = Off.SPAN.SPAN_CORES then s
  else s.spanMembWrite e ((o - Off.SPAN.SPAN_MEMB0) / 4) v

/-- A write of a GLZ page register (R239). -/
def State.glzPageWrite (s : State) (g off : Nat) (v : W32) : State :=
  if off = Off.GLZ.CTX_CMD then s.ctxCmd g v
  else if off = Off.GLZ.COEF_DATA then s.coefWrite g v
  else if Off.GLZ.C_IN ≤ off ∧ off ≤ Off.GLZ.COEF_SEL then s.ctxWrite g off v
  else s.wrMasked (Pg.GLZ g) off v

/-- A write of an MGT page register (R322). -/
def State.mgtWrite (s : State) (off : Nat) (v : W32) : State :=
  if off = Off.MGT.PACE_CTRL then s.paceWrite v
  else if off = Off.MGT.VLIMIT then s.vlimitWrite v
  else if off = Off.MGT.VSET then s.vsetWrite v
  else if off = Off.MGT.MGT_CMD then s.mgtCmd (fld v 1 0)
  else s.wrMasked Pg.MGT off v

/-- A write of a SEC page register. -/
def State.secWrite (s : State) (off : Nat) (v : W32) : State :=
  if off = Off.SEC.OWNER_CMD then s.ownerCmd (fld v 1 0)
  else if off = Off.SEC.ATT_CMD then s.attCmd (fld v 1 0)
  else s.wrMasked Pg.SEC off v

/-- A write of a PWR page register (R342, R353). -/
def State.pwrWrite (s : State) (off : Nat) (v : W32) : State :=
  if off = Off.PWR.PD_REQ_LO then s.pdReqWrite false v
  else if off = Off.PWR.PD_REQ_HI then s.pdReqWrite true v
  else if off = Off.PWR.PWR_CMD then s.pwrCmd (fld v 1 0)
  else s.wrMasked Pg.PWR off v

/-- A write of an HP page register (R270). -/
def State.hpWrite (s : State) (off : Nat) (v : W32) : State :=
  if off = Off.HP.HP_CFG then s.hpCfgWrite v
  else if off = Off.HP.VMR_CFG then s.vmrCfgWrite v
  else s.wrMasked Pg.HP off v

/-- A write of an LNK page register (R289). -/
def State.lnkWrite (s : State) (off : Nat) (v : W32) : State :=
  if off = Off.LNK.LNK_CFG then s.lnkCfgWrite v
  else if off = Off.LNK.E2E_CTRL then s.e2eWrite v
  else s.wrMasked Pg.LNK off v

/-- A write of 0 to the CMD field of a command register of the MGT, SEC or CFG page is no command (R375). -/
def mcNoCmd (k off : Nat) (v : W32) : Bool :=
  decide (fld v 1 0 = 0) && (decide (k = 0x13 ∧ off = Off.MGT.MGT_CMD) || decide (k = 0x17 ∧ off = Off.CFG.CFG_CMD) ||
    decide (k = 0x16 ∧ (off = Off.SEC.OWNER_CMD ∨ off = Off.SEC.ATT_CMD)))

/-- A write to the MGT, SEC or CFG page while the management controller restarts (R329, R375). -/
def State.mcPageRefuse (s : State) (k off : Nat) (v : W32) : State :=
  if mcNoCmd k off v then s
  else if k = 0x13 then s.mgtRefuse ST.STATE
  else if k = 0x16 then s.secRefuse (if Off.SEC.OWNER_SRC_LO ≤ off then Off.SEC.OWNER_CMD else Off.SEC.ATT_CMD) ST.STATE
  else s.cfgRefuse ST.STATE

/-- A write of a block register, by the kind of its page. -/
def State.blockWrite (s : State) (src : Agent) (p k i off : Nat) (v : W32) : State :=
  match k with
  | 3 => s.coreWrite src i off v
  | 4 => s.spWrite i off v
  | 5 => if off = Off.WEIR.MC_HOLD then s.mcHoldWrite v else s.wrMasked p off v
  | 6 => s.racePageWrite i off v
  | 7 => s.tallyPageWrite i off v
  | 8 => s.lchWrite off v
  | 9 => s.statPageWrite off v
  | 0x0A =>
    if off = Off.MEM.SCRUB_CTRL then s.memScrubWrite v
    else if off = Off.MEM.TRAIN_CTRL then s.trainCtrlWrite v else s.wrMasked p off v
  | 0x0C => s.hpWrite off v
  | 0x0E => s.lnkWrite off v
  | 0x0F => s.dlWrite i off v
  | 0x10 => if off < 0x900 then s.routeWrite ((off - 0x100) / 4) v else s
  | 0x11 => s.spanWrite i off v
  | 0x12 => s.glzPageWrite i off v
  | 0x13 => s.mgtWrite off v
  | 0x16 => s.secWrite off v
  | 0x17 => if off = Off.CFG.CFG_CMD then s.cfgCmd (fld v 1 0) else s.wrMasked p off v
  | 0x18 => s.pwrWrite off v
  | 0x19 => if off = Off.CAL.CAL_CTRL then { s with mram := { s.mram with autoWarm := bit v 0 } } else s.wrMasked p off v
  | _ => s.wrMasked p off v

/-- The page index is in Table 16.2. -/
def pageListed (p : Nat) : Bool := (RegMap.kindOf p).isSome

/-- A write of the common header (R296); FAULT_EN may make STATUS.FAULT 1, which the group's page records (16_register_pages.md, GRP). -/
def State.headerWrite (s : State) (p off : Nat) (v : W32) : State :=
  State.groupFault s (s.wrMasked p off v) p ST.OK (unitIdOf 0 s.devId (p - 0x010)) 0

/-- A register write. To a page index that Table 16.2 does not list it has no effect; the host's is counted (R293). -/
def State.applyReg (s : State) (src : Agent) (p off : Nat) (v : W32) : State :=
  match RegMap.kindOf p with
  | none =>
    match src with
    | .host ch => s.ignored ch
    | .mc => s
  | some (k, _, i) =>
    if off % 4 ≠ 0 ∨ 0x1000 ≤ off then s
    else if s.mcAway ∧ (k = 0x13 ∨ k = 0x16 ∨ k = 0x17) then s.mcPageRefuse k off v
    else if off < 0x100 then s.headerWrite p off v
    else s.blockWrite src p k i off v

/-- REGISTER_WRITE (R9, R10): a write takes effect under its register's access types, range checks and state refusals. -/
def execRegisterWrite (src : Agent) (page off : BitVec 12) (v : W32) (s : State) : Out :=
  .next (s.applyReg src page.toNat off.toNat v)

end Sys2Proof.Machine
end

