-- ==== Sys2Proof/Machine/HostPort.lean ====
section
/-! DEFINITION. Host reads and writes over a channel (R257, R260 to R266), the control writes that follow, and transfers of the board
controller (R315). -/
namespace Sys2Proof.Machine

/-! ## The channel address map (Table 14.5) -/

/-- Regions of the channel address map. -/
inductive HRegion where
  | control | reserved | command | completion | zero | doorbell | staging
deriving DecidableEq, Repr

/-- The region of a channel address; a page that Table 16.2 does not list is reserved for reads. -/
def hostRegion (a : Nat) : HRegion :=
  if a < 0x10C000 then .control
  else if a < 0x1000000 then .reserved
  else if a < 0x1080000 then .command
  else if a < 0x10C0000 then .completion
  else if a < 0x10FF000 then .zero
  else if a < 0x10FF100 then .doorbell
  else if a < 0x1100000 then .zero
  else if a < 0x8000000 then .reserved
  else if a < 0x8800000 then .staging
  else .reserved

/-- The marker pattern (R263). -/
abbrev markerWord : W32 := 0x5A5A5A5A

/-- Local address of a staging byte of channel h. -/
def stagingAddr (h a : Nat) : Nat := (a - 0x8000000) + (hwBase + h * 0x800000)

/-! ## Reads (R261 to R263) -/

/-- The 32 bytes of a sector of ring SRAM as words, at offset o from 0x0100_0000. -/
def State.ringSector (s : State) (h o : Nat) : List W32 := words32 (s.ringBytes h o 32)

/-- Words of a sector of ring SRAM that a list of flawed words names. -/
def ringFlawed (l : List EccLoc) (h o : Nat) : List Nat :=
  l.filterMap fun e => match e with
    | .ringMem w => if (h * 0x100000 + o) / 4 ≤ w ∧ w < (h * 0x100000 + o) / 4 + 8 then some w else none
    | _ => none

/-- A sector with an uncorrectable word is answered with the marker: counted and logged with its address (R263). -/
def State.sectorLost (s : State) (h a : Nat) : State :=
  (s.bump (Pg.HC h) Off.HC.ECC_UE_CNT).raise (Pg.HC h) 1 ST.ECC_UNCORR (unitIdOf 2 s.devId 0) 0 a

/-- A sector of ring SRAM. -/
def State.readRing (s : State) (h o : Nat) : List W32 × State :=
  if !(ringFlawed s.ue h o).isEmpty then (List.replicate 8 markerWord, s.sectorLost h (0x1000000 + o))
  else
    let ce := ringFlawed s.ce h o
    let s := if ce.isEmpty then s
      else { s with ce := s.ce.filter fun e => !(ce.any fun w => e == EccLoc.ringMem w) }.bump (Pg.HC h) Off.HC.ECC_CE_CNT ce.length
    (s.ringSector h o, s)

/-- A sector of staging, at local address a. -/
def State.readStaging (s : State) (h a : Nat) : List W32 × State :=
  match s.ueWords a 32 with
  | w :: _ => (List.replicate 8 markerWord, (s.faultAddr (Pg.HC h) (4 * w)).sectorLost h (4 * w))
  | [] =>
    let s := s.correct a 32
    (words32 (s.bytes a 32), s)

/-- A sector of the control aperture: eight registers at one instant (R262); RIG_TIME_LO in it captures the high word for this channel. -/
def State.readControl (s : State) (ch : Fin 4) (a : Nat) : List W32 × State :=
  let p := a / 0x1000
  let off := a % 0x1000
  let s := if p = Pg.LCH ∧ off = 0x100 then s.modChan ch fun k => { k with capHi := (s.now >>> 32).setWidth 32 } else s
  ((List.range 8).map fun i => s.readReg (.host ch) p (off + 4 * i), s)

/-- A word of the doorbell block at offset o from 0x010F_F000 (Table 14.7). -/
def State.bellWord (s : State) (h o : Nat) : W32 :=
  if o % 64 ≤ Off.DB.CODE then s.rd (Pg.DB (4 * h + o / 64)) (o % 64) else 0

/-- One sector of a read in RUN that is not answered with the marker of a reserved region. -/
def State.readSector (s : State) (ch : Fin 4) (a : Nat) : List W32 × State :=
  match hostRegion a with
  | .control => s.readControl ch a
  | .command => s.readRing ch (a - 0x1000000)
  | .completion => s.readRing ch (a - 0x1000000)
  | .zero => (List.replicate 8 0, s)
  | .doorbell => ((List.range 8).map fun i => s.bellWord ch (a - 0x10FF000 + 4 * i), s)
  | .staging => s.readStaging ch (stagingAddr ch a)
  | .reserved => (List.replicate 8 markerWord, s)

/-- Sectors of a read, in order. -/
def State.readSectors (s : State) (ch : Fin 4) : List Nat → List W32 × State
  | [] => ([], s)
  | a :: r =>
    let x := s.readSector ch a
    let y := x.2.readSectors ch r
    (x.1 ++ y.1, y.2)

/-- A read answers the marker of a reserved region: Table 14.5, or a page index absent from the page index map. -/
def markedAddr (a : Nat) : Bool := hostRegion a == .reserved || (hostRegion a == .control && !pageListed (a / 0x1000))

/-- Byte i of a read DQ calibration burst: of each beat the pattern bit on every DQ of a byte, inverted on the DQs that the invert
register of the byte names. The standard's registers are MR33 and MR34 (patterns of beats 0 to 7 and 8 to 15) and MR31 and MR32 (inverts
of the lower and the upper byte): PRESUMED, log entry 65. -/
def State.calByte (s : State) (h i : Nat) : Byte :=
  let beat := i / 2 % 16
  let pat := s.mrValue h (if beat < 8 then 33 else 34)
  (if pat.getLsbD (beat % 8) then 0xFF else 0) ^^^ s.mrValue h (31 + i % 2)

/-- Answer of a training read (R257): the oldest burst of the training FIFO; with none there, the DQ calibration pattern. -/
def State.readTraining (s : State) (h n : Nat) : List W32 × State :=
  match (s.chan h).fifo with
  | b :: r => (words32 b, s.modChan h fun k => { k with fifo := r })
  | [] => (words32 ((List.range n).map (s.calByte h)), s)

/-- A read under RL_LOW (R255). -/
def State.readLate (s : State) (h n : Nat) : List W32 × State :=
  (List.replicate (n / 4) markerWord, s.bump (Pg.HC h) Off.HC.LATE_CNT)

/-- A read burst of channel ch at an address that its length divides. -/
def State.hostRead (s : State) (ch : Fin 4) (a n : Nat) : List W32 × State :=
  let sectors := (List.range (n / 32)).map fun i => a + 32 * i
  match (s.chan ch).st with
  | .run =>
    if rlLow (s.chan ch).mode then s.readLate ch n
    else if markedAddr a then
      (List.replicate (n / 4) markerWord,
       ((s.bump (Pg.HC ch) Off.HC.MARKER_CNT).wr (Pg.HC ch) Off.HC.LAST_MARK (BitVec.ofNat 32 a)).raise (Pg.HC ch) 0 ST.OK
         (unitIdOf 2 s.devId 0) 0 a)
    else s.readSectors ch sectors
  | .train => if rlLow (s.chan ch).mode then s.readLate ch n else s.readTraining ch n
  | _ => ([], s)

/-- The bank that the bank pins give (R260): 4 BG + BA in bank-group mode, the bank number in 16-bank mode. -/
def bankOf (m : HcMode) (pins : Nat) : Nat := if m.bg then 4 * (pins / 4) + pins % 4 else pins

/-- The channel address of a burst (R260). The command's operand holds the row at [28:15], the bank pins at [14:11] (BG over BA in
bank-group mode) and the column byte at [10:0]. -/
def channelAddr (m : HcMode) (a : BitVec 29) : Nat :=
  a.toNat / 32768 * 32768 + bankOf m (a.toNat / 2048 % 16) * 2048 + a.toNat % 2048

/-- HOST_READ (R261): a burst is answered from shadows, ring SRAM, staging or the marker. -/
def execHostRead (ch : Fin 4) (addr : BitVec 29) (bl32 : Bool) (s : State) : Out :=
  let n := if bl32 then 64 else 32
  let x := s.hostRead ch (channelAddr (s.chan ch).mode addr / n * n) n
  .next { x.2 with out := x.1 }

/-! ## Writes (R264, R265) -/

/-- Word i of a burst: its four bytes, none where one is excluded. -/
def burstWord (bs : List (Option Byte)) (i : Nat) : List (Option Byte) := (List.range 4).map fun j => bs.getD (4 * i + j) none

/-- A word of the doorbell block written under a mask: excluded bytes stay (R264). -/
def State.writeBell (s : State) (h o : Nat) (w : List (Option Byte)) : State :=
  if w.all Option.isNone then s
  else
    let n := 4 * h + o / 64
    let old := leBytes 4 (s.rd (Pg.DB n) (o % 64)).toNat
    let v : W32 := BitVec.ofNat 32 (ofBytes ((List.range 4).map fun j => (w.getD j none).getD (old.getD j 0)))
    if o % 64 = Off.DB.CMD_TAIL then s.tailWrite n v else if o % 64 = Off.DB.CPL_HEAD then s.headWrite n v else s

/-- One whole word of the control aperture is a register write, counted in WR_SEQ where its page is listed (R265). -/
def State.applyWord (s : State) (ch : Fin 4) (a : Nat) (v : W32) : State :=
  let p := a / 0x1000
  let s := s.applyReg (.host ch) p (a % 0x1000) v
  if pageListed p then s.wr (Pg.HC ch) Off.HC.WR_SEQ (s.rd (Pg.HC ch) Off.HC.WR_SEQ + 1) else s

/-- Word i of a burst into the control aperture (R265): applied where its four bytes are unmasked, counted where only some are. -/
def State.controlWord (s : State) (ch : Fin 4) (a : Nat) (bs : List (Option Byte)) (i : Nat) : State :=
  let w := burstWord bs i
  if w.all Option.isSome then s.applyWord ch (a + 4 * i) (BitVec.ofNat 32 (ofBytes (w.filterMap id)))
  else if w.any Option.isSome then s.bump (Pg.HC ch) Off.HC.IGNORED_CNT
  else s

/-- A write burst takes effect (R264): the words of one in the control aperture in ascending address (R265). -/
def State.burstDo (s : State) (h : Fin 4) (a : Nat) (bs : List (Option Byte)) : State :=
  match hostRegion a with
  | .control => (List.range (bs.length / 4)).foldl (fun s i => s.controlWord h a bs i) s
  | .command => s.ringStore h (a - 0x1000000) bs
  | .doorbell => (List.range (bs.length / 4)).foldl (fun s i => s.writeBell h (a - 0x10FF000 + 4 * i) (burstWord bs i)) s
  | .staging => (s.store (stagingAddr h a) bs).1
  | _ => s.ignored h

/-- A write burst of a channel in RUN: writes of one channel are applied in the order in which they reach the pins (R264), so a control
write waits to be applied, and every later burst behind it. -/
def State.hostWrite (s : State) (h : Fin 4) (a : Nat) (bs : List (Option Byte)) : State :=
  if hostRegion a = .control ∨ (s.chan h).ctl ≠ [] then s.modChan h fun k => { k with ctl := k.ctl ++ [(a, bs)] }
  else s.burstDo h a bs

/-- A write burst in the state of its channel: in TRAIN it goes into the training FIFO of 8 bursts (R257). -/
def State.hostBurst (s : State) (h : Fin 4) (a : Nat) (bs : List (Option Byte)) : State :=
  match (s.chan h).st with
  | .run => s.hostWrite h a bs
  | .train =>
    s.modChan h fun k => if k.fifo.length < 8 then { k with fifo := k.fifo ++ [bs.map fun b => b.getD 0] } else k
  | _ => s

/-- The outcome of write link ECC on a burst is counted while link ECC is on (Table 14.11). What an uncorrectable burst writes the spec does
not say: the bytes that the command carries (log entry 57). -/
def State.linkEcc (s : State) (h : Nat) (ecc : HdrEcc) : State :=
  let r := s.rd (Pg.HC h) Off.HC.LINK_ECC_CNT
  if !(s.chan h).mode.linkEcc then s
  else match ecc with
    | .ok => s
    | .corrected => s.wr (Pg.HC h) Off.HC.LINK_ECC_CNT (setFld r 15 0 (min (fld r 15 0 + 1) 0xFFFF))
    | .uncorrectable => s.wr (Pg.HC h) Off.HC.LINK_ECC_CNT (setFld r 31 16 (min (fld r 31 16 + 1) 0xFFFF))

/-- HOST_WRITE (R264): a burst is written to ring SRAM or staging, or passed to the control aperture. -/
def execHostWrite (ch : Fin 4) (addr : BitVec 29) (data : WriteBurst) (s : State) : Out :=
  .next ((s.hostBurst ch (channelAddr (s.chan ch).mode addr) (data.bytes.map some)).linkEcc ch data.ecc)

/-- HOST_MASKED_WRITE (R264): only the unmasked bytes are written; `mask` is true for a byte that is excluded. -/
def execHostMaskedWrite (ch : Fin 4) (addr : BitVec 29) (data : WriteBurst) (mask : List Bool) (s : State) : Out :=
  .next ((s.hostBurst ch (channelAddr (s.chan ch).mode addr)
    ((List.range data.bytes.length).map fun i => if mask.getD i false then none else data.bytes[i]?)).linkEcc ch data.ecc)

/-! ## Control writes applied (R265, R266) -/

/-- Bursts that waited only for the control writes before them take effect. -/
def State.drainCtl (s : State) (ch : Fin 4) : Nat → State
  | 0 => s
  | n + 1 => match (s.chan ch).ctl with
    | (a, bs) :: r =>
      if hostRegion a = .control then s else ((s.modChan ch fun k => { k with ctl := r }).burstDo ch a bs).drainCtl ch n
    | [] => s

/-- The oldest burst that waits is applied, with those behind it that are not control writes. -/
def State.applyBurst (s : State) (ch : Fin 4) : State :=
  match (s.chan ch).ctl with
  | [] => s
  | (a, bs) :: r => ((s.modChan ch fun k => { k with ctl := r }).burstDo ch a bs).drainCtl ch r.length

/-- CONTROL_WRITE_APPLY (R265): the words of the oldest waiting burst of a channel are applied as register writes. -/
def execControlWriteApply (ch : Fin 4) (s : State) : Out := .next (s.applyBurst ch)

/-! ## The board controller (R315) -/

/-- n words read from consecutive offsets by the management controller. -/
def State.mcReads (s : State) (p off : Nat) : Nat → List W32 × State
  | 0 => ([], s)
  | n + 1 =>
    let x := s.mcRead p off
    let y := x.2.mcReads p (off + 4) n
    (x.1 :: y.1, y.2)

/-- Words written to consecutive offsets by the management controller. -/
def State.mcWrites (s : State) (p : Nat) : Nat → List W32 → State
  | _, [] => s
  | off, v :: r => (s.applyReg .mc p off v).mcWrites p (off + 4) r

/-- BOARD_CONTROLLER_TRANSFER (R315): a private transfer writes the data words it carries and reads `nread` words, through the running
management controller. -/
def execBoardControllerTransfer (page off : BitVec 16) (data : List W32) (nread : Nat) (s : State) : Out :=
  .next (if s.mgmt.run = .running then
    let x := (s.mcWrites page.toNat off.toNat data).mcReads page.toNat off.toNat nread
    { x.2 with out := x.1 }
  else s)

end Sys2Proof.Machine
end

