-- ==== Sys2Proof/Machine/Dispatch.lean ====
section
/-! DEFINITION. One arm per command: the call of its meaning. -/
namespace Sys2Proof.Machine

def exec (i : Instr) (s : State) : Host.Outcome State Fault Refusal :=
  match i with
  | .registerWrite src page off v => Sys2Proof.Machine.execRegisterWrite src page off v s
  | .cmdTailWrite ring v => Sys2Proof.Machine.execCmdTailWrite ring v s
  | .descriptorTake ring => Sys2Proof.Machine.execDescriptorTake ring s
  | .checkRound job => Sys2Proof.Machine.execCheckRound job s
  | .itemStart core => Sys2Proof.Machine.execItemStart core s
  | .itemComplete core => Sys2Proof.Machine.execItemComplete core s
  | .spanHdrWrite src entry v => Sys2Proof.Machine.execSpanHdrWrite src entry v s
  | .spanMembWrite src entry memb v => Sys2Proof.Machine.execSpanMembWrite src entry memb v s
  | .portEnable src port => Sys2Proof.Machine.execPortEnable src port s
  | .portDisable src port => Sys2Proof.Machine.execPortDisable src port s
  | .probe src port => Sys2Proof.Machine.execProbe src port s
  | .portStart src port => Sys2Proof.Machine.execPortStart src port s
  | .portStop src port => Sys2Proof.Machine.execPortStop src port s
  | .release src port => Sys2Proof.Machine.execRelease src port s
  | .tblSwap src port => Sys2Proof.Machine.execTblSwap src port s
  | .correctionRegWrite src port reg v => Sys2Proof.Machine.execCorrectionRegWrite src port reg v s
  | .tblDataWrite src port v => Sys2Proof.Machine.execTblDataWrite src port v s
  | .tblDataRead port => Sys2Proof.Machine.execTblDataRead port s
  | .i3cTransferDone bus ack data => Sys2Proof.Machine.execI3cTransferDone bus ack data s
  | .scriptWaitExpiry port t => Sys2Proof.Machine.execScriptWaitExpiry port t s
  | .trainingTimeout port t => Sys2Proof.Machine.execTrainingTimeout port t s
  | .hotJoin bus => Sys2Proof.Machine.execHotJoin bus s
  | .inBandInterrupt port payload => Sys2Proof.Machine.execInBandInterrupt port payload s
  | .lossTimeoutExpiry port t => Sys2Proof.Machine.execLossTimeoutExpiry port t s
  | .laneLockLost port => Sys2Proof.Machine.execLaneLockLost port s
  | .lostToIdle port => Sys2Proof.Machine.execLostToIdle port s
  | .frameStartPacket port vc csiFn ecc => Sys2Proof.Machine.execFrameStartPacket port vc csiFn ecc s
  | .linePacket port vc dt pixels crcOk ecc t => Sys2Proof.Machine.execLinePacket port vc dt pixels crcOk ecc t s
  | .lineIntake port stream => Sys2Proof.Machine.execLineIntake port stream s
  | .frameEndPacket port vc ecc => Sys2Proof.Machine.execFrameEndPacket port vc ecc s
  | .embeddedDataPacket port head bytes => Sys2Proof.Machine.execEmbeddedDataPacket port head bytes s
  | .lineShortPacket port head => Sys2Proof.Machine.execLineShortPacket port head s
  | .discardedPacket port head pkt => Sys2Proof.Machine.execDiscardedPacket port head pkt s
  | .statRecordWrite port stream => Sys2Proof.Machine.execStatRecordWrite port stream s
  | .fsyncPulseEnd port t => Sys2Proof.Machine.execFsyncPulseEnd port t s
  | .referenceLock => Sys2Proof.Machine.execReferenceLock s
  | .referenceLost => Sys2Proof.Machine.execReferenceLost s
  | .holdoverExpiry t => Sys2Proof.Machine.execHoldoverExpiry t s
  | .timeLoad => Sys2Proof.Machine.execTimeLoad s
  | .rigTimeLoRead src => Sys2Proof.Machine.execRigTimeLoRead src s
  | .entRead => Sys2Proof.Machine.execEntRead s
  | .entWrite => Sys2Proof.Machine.execEntWrite s
  | .entArm => Sys2Proof.Machine.execEntArm s
  | .entDisarm => Sys2Proof.Machine.execEntDisarm s
  | .launchNone entry t => Sys2Proof.Machine.execLaunchNone entry t s
  | .launchTrigger entry t => Sys2Proof.Machine.execLaunchTrigger entry t s
  | .launchExposure entry t => Sys2Proof.Machine.execLaunchExposure entry t s
  | .launchPortCmd entry t => Sys2Proof.Machine.execLaunchPortCmd entry t s
  | .launchDispatch entry t => Sys2Proof.Machine.execLaunchDispatch entry t s
  | .launchCommit entry t => Sys2Proof.Machine.execLaunchCommit entry t s
  | .launchRevert entry t => Sys2Proof.Machine.execLaunchRevert entry t s
  | .launchTblSwap entry t => Sys2Proof.Machine.execLaunchTblSwap entry t s
  | .launchTallySet entry t => Sys2Proof.Machine.execLaunchTallySet entry t s
  | .launchTallyAdd entry t => Sys2Proof.Machine.execLaunchTallyAdd entry t s
  | .launchWatchGe entry t => Sys2Proof.Machine.execLaunchWatchGe entry t s
  | .launchWatchEq entry t => Sys2Proof.Machine.execLaunchWatchEq entry t s
  | .launchArm entry t => Sys2Proof.Machine.execLaunchArm entry t s
  | .launchDisarm entry t => Sys2Proof.Machine.execLaunchDisarm entry t s
  | .expPush => Sys2Proof.Machine.execExpPush s
  | .exposureWriteDone port ack => Sys2Proof.Machine.execExposureWriteDone port ack s
  | .descDataWrite src v => Sys2Proof.Machine.execDescDataWrite src v s
  | .descDataRead => Sys2Proof.Machine.execDescDataRead s
  | .nop core f => Sys2Proof.Machine.execNop core f s
  | .movi core f => Sys2Proof.Machine.execMovi core f s
  | .mov core f => Sys2Proof.Machine.execMov core f s
  | .add core f => Sys2Proof.Machine.execAdd core f s
  | .sub core f => Sys2Proof.Machine.execSub core f s
  | .mul core f => Sys2Proof.Machine.execMul core f s
  | .mada core f => Sys2Proof.Machine.execMada core f s
  | .andS core f => Sys2Proof.Machine.execAndS core f s
  | .orS core f => Sys2Proof.Machine.execOrS core f s
  | .xorS core f => Sys2Proof.Machine.execXorS core f s
  | .shl core f => Sys2Proof.Machine.execShl core f s
  | .shr core f => Sys2Proof.Machine.execShr core f s
  | .sra core f => Sys2Proof.Machine.execSra core f s
  | .minS core f => Sys2Proof.Machine.execMinS core f s
  | .maxS core f => Sys2Proof.Machine.execMaxS core f s
  | .slt core f => Sys2Proof.Machine.execSlt core f s
  | .cshr core f => Sys2Proof.Machine.execCshr core f s
  | .rtime core f => Sys2Proof.Machine.execRtime core f s
  | .unitId core f => Sys2Proof.Machine.execUnitId core f s
  | .endItem core f => Sys2Proof.Machine.execEndItem core f s
  | .br core f => Sys2Proof.Machine.execBr core f s
  | .bc core f => Sys2Proof.Machine.execBc core f s
  | .loop core f => Sys2Proof.Machine.execLoop core f s
  | .drain core f => Sys2Proof.Machine.execDrain core f s
  | .fCopy core f => Sys2Proof.Machine.execFCopy core f s
  | .fHop core f => Sys2Proof.Machine.execFHop core f s
  | .fWgt core f => Sys2Proof.Machine.execFWgt core f s
  | .fRqt core f => Sys2Proof.Machine.execFRqt core f s
  | .fImem core f => Sys2Proof.Machine.execFImem core f s
  | .fPad core f => Sys2Proof.Machine.execFPad core f s
  | .fRarm core f => Sys2Proof.Machine.execFRarm core f s
  | .xConv core f => Sys2Proof.Machine.execXConv core f s
  | .xWlds core f => Sys2Proof.Machine.execXWlds core f s
  | .xWflip core => Sys2Proof.Machine.execXWflip core s
  | .xPool core f => Sys2Proof.Machine.execXPool core f s
  | .vld core f => Sys2Proof.Machine.execVld core f s
  | .vst core f => Sys2Proof.Machine.execVst core f s
  | .vbc core f => Sys2Proof.Machine.execVbc core f s
  | .vadd core f => Sys2Proof.Machine.execVadd core f s
  | .vsub core f => Sys2Proof.Machine.execVsub core f s
  | .vadds core f => Sys2Proof.Machine.execVadds core f s
  | .vsubs core f => Sys2Proof.Machine.execVsubs core f s
  | .vmul core f => Sys2Proof.Machine.execVmul core f s
  | .vmin core f => Sys2Proof.Machine.execVmin core f s
  | .vmax core f => Sys2Proof.Machine.execVmax core f s
  | .vabs core f => Sys2Proof.Machine.execVabs core f s
  | .vand core f => Sys2Proof.Machine.execVand core f s
  | .vor core f => Sys2Proof.Machine.execVor core f s
  | .vxor core f => Sys2Proof.Machine.execVxor core f s
  | .vshl core f => Sys2Proof.Machine.execVshl core f s
  | .vshra core f => Sys2Proof.Machine.execVshra core f s
  | .vshrr core f => Sys2Proof.Machine.execVshrr core f s
  | .vcmp core f => Sys2Proof.Machine.execVcmp core f s
  | .vsel core f => Sys2Proof.Machine.execVsel core f s
  | .vrq core f => Sys2Proof.Machine.execVrq core f s
  | .vsumr core f => Sys2Proof.Machine.execVsumr core f s
  | .vmaxr core f => Sys2Proof.Machine.execVmaxr core f s
  | .vminr core f => Sys2Proof.Machine.execVminr core f s
  | .vmov core f => Sys2Proof.Machine.execVmov core f s
  | .vaddf core f => Sys2Proof.Machine.execVaddf core f s
  | .vsubf core f => Sys2Proof.Machine.execVsubf core f s
  | .vmulf core f => Sys2Proof.Machine.execVmulf core f s
  | .vfmaf core f => Sys2Proof.Machine.execVfmaf core f s
  | .vminf core f => Sys2Proof.Machine.execVminf core f s
  | .vmaxf core f => Sys2Proof.Machine.execVmaxf core f s
  | .vrcpf core f => Sys2Proof.Machine.execVrcpf core f s
  | .vdivf core f => Sys2Proof.Machine.execVdivf core f s
  | .vsqrtf core f => Sys2Proof.Machine.execVsqrtf core f s
  | .vrsqf core f => Sys2Proof.Machine.execVrsqf core f s
  | .vexpf core f => Sys2Proof.Machine.execVexpf core f s
  | .vlogf core f => Sys2Proof.Machine.execVlogf core f s
  | .vtanhf core f => Sys2Proof.Machine.execVtanhf core f s
  | .vsigf core f => Sys2Proof.Machine.execVsigf core f s
  | .vgeluf core f => Sys2Proof.Machine.execVgeluf core f s
  | .vsumrf core f => Sys2Proof.Machine.execVsumrf core f s
  | .vmaxrf core f => Sys2Proof.Machine.execVmaxrf core f s
  | .vminrf core f => Sys2Proof.Machine.execVminrf core f s
  | .vcvtif core f => Sys2Proof.Machine.execVcvtif core f s
  | .vcvtfi core f => Sys2Proof.Machine.execVcvtfi core f s
  | .vcvtfb core f => Sys2Proof.Machine.execVcvtfb core f s
  | .wCopy core f => Sys2Proof.Machine.execWCopy core f s
  | .wGlz core f => Sys2Proof.Machine.execWGlz core f s
  | .wRarm core f => Sys2Proof.Machine.execWRarm core f s
  | .tWait core f => Sys2Proof.Machine.execTWait core f s
  | .tUpd core f => Sys2Proof.Machine.execTUpd core f s
  | .tRupd core f => Sys2Proof.Machine.execTRupd core f s
  | .sOpen core f => Sys2Proof.Machine.execSOpen core f s
  | .sClose core f => Sys2Proof.Machine.execSClose core f s
  | .queueEntryStart core q => Sys2Proof.Machine.execQueueEntryStart core q s
  | .entryComplete core q idx => Sys2Proof.Machine.execEntryComplete core q idx s
  | .imemDataWrite src core v => Sys2Proof.Machine.execImemDataWrite src core v s
  | .imemDataRead core => Sys2Proof.Machine.execImemDataRead core s
  | .loadCheckDone core bank check => Sys2Proof.Machine.execLoadCheckDone core bank check s
  | .imemSwap src core => Sys2Proof.Machine.execImemSwap src core s
  | .bankSwap core => Sys2Proof.Machine.execBankSwap core s
  | .coreCmdOut src core => Sys2Proof.Machine.execCoreCmdOut src core s
  | .coreCmdReturn src core => Sys2Proof.Machine.execCoreCmdReturn src core s
  | .livenessTimeout core => Sys2Proof.Machine.execLivenessTimeout core s
  | .tallyTSetWrite src page v => Sys2Proof.Machine.execTallyTSetWrite src page v s
  | .tallyTAddWrite src page v => Sys2Proof.Machine.execTallyTAddWrite src page v s
  | .tallyTAttrWrite src page v => Sys2Proof.Machine.execTallyTAttrWrite src page v s
  | .scoreboardDeadlock core => Sys2Proof.Machine.execScoreboardDeadlock core s
  | .waitLimitExpiry core who t => Sys2Proof.Machine.execWaitLimitExpiry core who t s
  | .coreScrubRow core => Sys2Proof.Machine.execCoreScrubRow core s
  | .sluiceLanding core win => Sys2Proof.Machine.execSluiceLanding core win s
  | .gateGrant turn => Sys2Proof.Machine.execGateGrant turn s
  | .raceDeadlockDetect => Sys2Proof.Machine.execRaceDeadlockDetect s
  | .mcHoldExpiry race memb t => Sys2Proof.Machine.execMcHoldExpiry race memb t s
  | .rdCtrlWrite src race v => Sys2Proof.Machine.execRdCtrlWrite src race v s
  | .glazeLineOutput glz => Sys2Proof.Machine.execGlazeLineOutput glz s
  | .glazeBandWaitTimeout core t => Sys2Proof.Machine.execGlazeBandWaitTimeout core t s
  | .glazeSlotHoldTimeout core t => Sys2Proof.Machine.execGlazeSlotHoldTimeout core t s
  | .ctxArm src glz => Sys2Proof.Machine.execCtxArm src glz s
  | .ctxDisarm src glz => Sys2Proof.Machine.execCtxDisarm src glz s
  | .coefDataWrite src glz v => Sys2Proof.Machine.execCoefDataWrite src glz v s
  | .coefDataRead glz => Sys2Proof.Machine.execCoefDataRead glz s
  | .memTracking chan want => Sys2Proof.Machine.execMemTracking chan want s
  | .memRefresh read => Sys2Proof.Machine.execMemRefresh read s
  | .memPatrolScrub chan => Sys2Proof.Machine.execMemPatrolScrub chan s
  | .hostRead ch addr bl32 => Sys2Proof.Machine.execHostRead ch addr bl32 s
  | .hostWrite ch addr data => Sys2Proof.Machine.execHostWrite ch addr data s
  | .hostMaskedWrite ch addr data mask => Sys2Proof.Machine.execHostMaskedWrite ch addr data mask s
  | .controlWriteApply ch => Sys2Proof.Machine.execControlWriteApply ch s
  | .modeRegisterWrite ch mr v eff => Sys2Proof.Machine.execModeRegisterWrite ch mr v eff s
  | .modeRegisterRead ch mr => Sys2Proof.Machine.execModeRegisterRead ch mr s
  | .hostRefresh ch => Sys2Proof.Machine.execHostRefresh ch s
  | .hostActivate ch => Sys2Proof.Machine.execHostActivate ch s
  | .hostPrecharge ch => Sys2Proof.Machine.execHostPrecharge ch s
  | .selfRefreshEntry ch => Sys2Proof.Machine.execSelfRefreshEntry ch s
  | .selfRefreshExit ch => Sys2Proof.Machine.execSelfRefreshExit ch s
  | .powerDownEntry ch => Sys2Proof.Machine.execPowerDownEntry ch s
  | .powerDownExit ch => Sys2Proof.Machine.execPowerDownExit ch s
  | .deepSleepEntry ch => Sys2Proof.Machine.execDeepSleepEntry ch s
  | .hostTrainingEntry ch => Sys2Proof.Machine.execHostTrainingEntry ch s
  | .hostTrainingExit ch => Sys2Proof.Machine.execHostTrainingExit ch s
  | .hcReset ch => Sys2Proof.Machine.execHcReset ch s
  | .cplHeadWrite ring v => Sys2Proof.Machine.execCplHeadWrite ring v s
  | .hpCfgWrite src v => Sys2Proof.Machine.execHpCfgWrite src v s
  | .retrain src dl => Sys2Proof.Machine.execRetrain src dl s
  | .reneg src dl => Sys2Proof.Machine.execReneg src dl s
  | .down src dl => Sys2Proof.Machine.execDown src dl s
  | .dlCfgWrite src dl v => Sys2Proof.Machine.execDlCfgWrite src dl v s
  | .linkModeAttemptDone dl mode ok far => Sys2Proof.Machine.execLinkModeAttemptDone dl mode ok far s
  | .linkTrainRetry dl t => Sys2Proof.Machine.execLinkTrainRetry dl t s
  | .renegComplete dl peerLvl => Sys2Proof.Machine.execRenegComplete dl peerLvl s
  | .dataFlit dl h fec msgs t => Sys2Proof.Machine.execDataFlit dl h fec msgs t s
  | .idleFlit dl h t => Sys2Proof.Machine.execIdleFlit dl h t s
  | .replayRequest dl h t => Sys2Proof.Machine.execReplayRequest dl h t s
  | .timeMarker dl h m time => Sys2Proof.Machine.execTimeMarker dl h m time s
  | .timeMarkerSend out => Sys2Proof.Machine.execTimeMarkerSend out s
  | .idleFlitSend dl => Sys2Proof.Machine.execIdleFlitSend dl s
  | .linkLaneLockLoss dl => Sys2Proof.Machine.execLinkLaneLockLoss dl s
  | .linkIdleTimeout dl t => Sys2Proof.Machine.execLinkIdleTimeout dl t s
  | .rdReq dl m => Sys2Proof.Machine.execRdReq dl m s
  | .rdRsp dl m => Sys2Proof.Machine.execRdRsp dl m s
  | .wrMem dl m => Sys2Proof.Machine.execWrMem dl m s
  | .xferOpen dl m => Sys2Proof.Machine.execXferOpen dl m s
  | .wrSp dl m => Sys2Proof.Machine.execWrSp dl m s
  | .tallySet dl m => Sys2Proof.Machine.execTallySet dl m s
  | .tallyAdd dl m => Sys2Proof.Machine.execTallyAdd dl m s
  | .job dl m => Sys2Proof.Machine.execJob dl m s
  | .jobRsp dl m => Sys2Proof.Machine.execJobRsp dl m s
  | .recMsg dl m => Sys2Proof.Machine.execRecMsg dl m s
  | .wrTally dl m => Sys2Proof.Machine.execWrTally dl m s
  | .prune dl m => Sys2Proof.Machine.execPrune dl m s
  | .rejoin dl m => Sys2Proof.Machine.execRejoin dl m s
  | .ack dl m => Sys2Proof.Machine.execAck dl m s
  | .nak dl m => Sys2Proof.Machine.execNak dl m s
  | .hello dl m => Sys2Proof.Machine.execHello dl m s
  | .routeAdv dl m => Sys2Proof.Machine.execRouteAdv dl m s
  | .messageForward dl m => Sys2Proof.Machine.execMessageForward dl m s
  | .ackSend dev => Sys2Proof.Machine.execAckSend dev s
  | .e2eResend dev t => Sys2Proof.Machine.execE2eResend dev t s
  | .e2eLimitExpiry dev t => Sys2Proof.Machine.execE2eLimitExpiry dev t s
  | .routeAdvSend => Sys2Proof.Machine.execRouteAdvSend s
  | .discConverged => Sys2Proof.Machine.execDiscConverged s
  | .routeEntryWrite src dev v => Sys2Proof.Machine.execRouteEntryWrite src dev v s
  | .jobRspTimeout job dev t => Sys2Proof.Machine.execJobRspTimeout job dev t s
  | .memberRouteTimeout dev t => Sys2Proof.Machine.execMemberRouteTimeout dev t s
  | .statCfgWrite src reg v => Sys2Proof.Machine.execStatCfgWrite src reg v s
  | .pdReqWrite src hi v => Sys2Proof.Machine.execPdReqWrite src hi v s
  | .domainSwitchOn pd trimOk => Sys2Proof.Machine.execDomainSwitchOn pd trimOk s
  | .domainSwitchOff pd => Sys2Proof.Machine.execDomainSwitchOff pd s
  | .coreLoadDone core => Sys2Proof.Machine.execCoreLoadDone core s
  | .domainPowerLoss pd => Sys2Proof.Machine.execDomainPowerLoss pd s
  | .monitorSample temps volts power => Sys2Proof.Machine.execMonitorSample temps volts power s
  | .paceStep overCap t => Sys2Proof.Machine.execPaceStep overCap t s
  | .thermalLimit pd => Sys2Proof.Machine.execThermalLimit pd s
  | .vcoreExcursion => Sys2Proof.Machine.execVcoreExcursion s
  | .railFault rail => Sys2Proof.Machine.execRailFault rail s
  | .logEntryWrite => Sys2Proof.Machine.execLogEntryWrite s
  | .mgtLoad => Sys2Proof.Machine.execMgtLoad s
  | .mgtImageLoadDone => Sys2Proof.Machine.execMgtImageLoadDone s
  | .mgtActivate => Sys2Proof.Machine.execMgtActivate s
  | .mgtConfirm => Sys2Proof.Machine.execMgtConfirm s
  | .mcWatchdog => Sys2Proof.Machine.execMcWatchdog s
  | .mcBoot => Sys2Proof.Machine.execMcBoot s
  | .recoveryImage image => Sys2Proof.Machine.execRecoveryImage image s
  | .boardControllerTransfer page off data nread => Sys2Proof.Machine.execBoardControllerTransfer page off data nread s
  | .cfgLoad => Sys2Proof.Machine.execCfgLoad s
  | .cfgLoadDone => Sys2Proof.Machine.execCfgLoadDone s
  | .cfgDiscard => Sys2Proof.Machine.execCfgDiscard s
  | .cfgConfirm => Sys2Proof.Machine.execCfgConfirm s
  | .cfgApplyComplete => Sys2Proof.Machine.execCfgApplyComplete s
  | .prevSetLoaded => Sys2Proof.Machine.execPrevSetLoaded s
  | .attest => Sys2Proof.Machine.execAttest s
  | .attestDone => Sys2Proof.Machine.execAttestDone s
  | .setOwner => Sys2Proof.Machine.execSetOwner s
  | .change => Sys2Proof.Machine.execChange s
  | .porstNAssert => Sys2Proof.Machine.execPorstNAssert s
  | .porstNRelease => Sys2Proof.Machine.execPorstNRelease s
  | .warmNAssert => Sys2Proof.Machine.execWarmNAssert s
  | .warm => Sys2Proof.Machine.execWarm s
  | .firingComplete failed mem ms => Sys2Proof.Machine.execFiringComplete failed mem ms s
  | .readySet => Sys2Proof.Machine.execReadySet s
  | .farEndRenegRequest dl => Sys2Proof.Machine.execFarEndRenegRequest dl s
  | .slewOffsetRemoved => Sys2Proof.Machine.execSlewOffsetRemoved s
  | .rigTimeHoldEnd => Sys2Proof.Machine.execRigTimeHoldEnd s

end Sys2Proof.Machine
end

