-- ==== Sys2Proof/Safety.lean ====
section
/-! DEFINITION. The terms that claims use: a sound state of the device, what a command leaves as it is, where a core's sequencer stands, and
the queue of each Edpervo command. -/
namespace Sys2Proof.Machine

/-! ## Sound states -/

/-- Both memories are in their canonical form: addresses strictly rising, and no entry that an unlisted address reads as. -/
def Memory.wf (s : State) : Bool := memWf s.mem && SMap.wf (fun _ => (0 : Byte)) s.ringMem

/-- The register files and windows of a core have the sizes of Table 5.1 and R168. -/
def Core.units (k : Core) : Bool := decide (k.sreg.length = 16 ∧ k.areg.length = 8 ∧ k.wins.length = 8)

/-- The device has the units of R3 to R7 and of Table 16.2. -/
def State.units (s : State) : Bool :=
  decide (s.cores.length = 32 ∧ s.ports.length = 24 ∧ s.buses.length = 12 ∧ s.glz.length = 8 ∧ s.memChans.length = 8 ∧
    s.chans.length = 4 ∧ s.links.ports.length = 8 ∧ s.miss.length = 16) && s.cores.all Core.units &&
  s.ports.all fun p => p.streams.length == 4

/-- A sound state. -/
def State.sound (s : State) : Bool := Memory.wf s && s.units

/-- A run of k steps from s meets neither a fault nor a refusal. -/
def safeFor (k : Nat) (s : State) : Prop := ∃ t, Host.Core.run Sys2Proof.core k s = .next t

/-! ## Frames -/

/-- Every byte of the local map and of ring SRAM reads as before. -/
def SameBytes (s t : State) : Prop := (∀ a, t.byte a = s.byte a) ∧ ∀ h o, t.ringByte h o = s.ringByte h o

/-- Every page register reads as before but those at the given pages and block offsets (any bank of them). -/
def SameRegsBut (s t : State) (l : List (Nat × Nat)) : Prop :=
  ∀ p off bank, p < 2048 → off < 4096 → bank < 4096 → (p, off) ∉ l → t.rd p off bank = s.rd p off bank

/-- Nothing but page registers changes, and of those only the ones listed. -/
def OnlyRegs (s t : State) (l : List (Nat × Nat)) : Prop :=
  t = { s with regs := t.regs } ∧ SameRegsBut s t l ∧ SameBytes s t

/-- The registers that a fault event of page p may write: its FAULT_SUM and EVENT_CNT, those of the group of a core, and the counters of
lost events. -/
def faultRegs (p : Nat) : List (Nat × Nat) :=
  [(p, Off.HDR.FAULT_SUM), (p, Off.HDR.EVENT_CNT), (Pg.LOG, Off.LOG.LOST_CNT), (Pg.LOG, Off.LOG.LOSTREC_CNT)] ++
  if 0x010 ≤ p ∧ p ≤ 0x02F then [(Pg.GRP ((p - 0x010) / 4), Off.HDR.FAULT_SUM), (Pg.GRP ((p - 0x010) / 4), Off.HDR.EVENT_CNT)] else []

/-- Bit b of FAULT_SUM of page p is set and the event enters the log where LOG_EN is 1; nothing else changes but the registers listed. -/
def OnlyFault (s t : State) (p b : Nat) (l : List (Nat × Nat)) : Prop :=
  t = { s with regs := t.regs, log := t.log } ∧ t.rdB p Off.HDR.FAULT_SUM b = true ∧ SameRegsBut s t (faultRegs p ++ l) ∧ SameBytes s t

/-- One event enters the log; nothing else changes but the registers listed and the counters of lost events. -/
def OnlyLogged (s t : State) (l : List (Nat × Nat)) : Prop :=
  t = { s with regs := t.regs, log := t.log } ∧ t.log.taken = s.log.taken + 1 ∧
  SameRegsBut s t ([(Pg.LOG, Off.LOG.LOST_CNT), (Pg.LOG, Off.LOG.LOSTREC_CNT)] ++ l) ∧ SameBytes s t

/-- A register write is refused with a code: a refusal with STATE is logged (Table 0.5), any other leaves no event. -/
def OnlyRefused (s t : State) (code : Nat) (l : List (Nat × Nat)) : Prop :=
  if code = ST.STATE then OnlyLogged s t l else OnlyRegs s t l

/-- The counters of the times that a race has become blocked (R194), which what frees or takes room at a link port may raise. -/
def blockRegs : List (Nat × Nat) := (List.range 64).map fun r => (Pg.RACE r, raceOff r Off.RACE.RS_BLOCK_CNT)

/-- Nothing but the link side changes, the set of blocked races, and of the registers those listed and `blockRegs`. -/
def OnlyLinks (s t : State) (l : List (Nat × Nat)) : Prop :=
  t = { s with links := t.links, regs := t.regs, blocked := t.blocked } ∧ SameRegsBut s t (blockRegs ++ l) ∧ SameBytes s t

/-- A message leaves at link port p: in a flit that is kept, or it waits at the port (R276, R281). -/
def State.sends (s : State) (p : Nat) (m : Msg) : Prop := m ∈ (s.link p).txq ∨ ∃ f ∈ (s.link p).replay, m ∈ f.msgs

/-- A counter is raised by one, saturating. -/
def Counted (s t : State) (p off : Nat) : Prop := (t.rd p off).toNat = min ((s.rd p off).toNat + 1) 0xFFFFFFFF

/-- Nothing but core c changes, error marks of its registers apart. -/
def OnlyCore (s t : State) (c : Nat) : Prop :=
  t = { s with cores := t.cores, ue := t.ue } ∧ (∀ c', c' ≠ c → t.core c' = s.core c') ∧ (∀ e, e ∈ t.ue → e ∈ s.ue) ∧ SameBytes s t

/-! ## Where a sequencer stands -/

/-- The sequencer of core c is to carry out command i now, and meets no uncorrectable word (R95, R306). -/
def State.standsAt (s : State) (c : Nat) (i : Instr) : Bool := s.atCommand c i && !s.seqBad c i

/-- S[d] takes v, the sequencer goes on (R124), and nothing else changes. -/
def WroteS (s t : State) (c d : Nat) (v : W32) : Prop := t.core c = ((s.core c).setS d v).advance ∧ OnlyCore s t c

/-- A[d] takes v, the sequencer goes on, and nothing else changes. -/
def WroteA (s t : State) (c d : Nat) (v : W48) : Prop := t.core c = ((s.core c).setA d v).advance ∧ OnlyCore s t c

/-- The queue that carries an Edpervo command out (Table 6.2, column "Carried out by"); none for those of the sequencer, for the tally
commands with Q = 0, and for the commands that are no Edpervo commands. -/
def queueOf : Instr → Option Queue
  | .fCopy _ _ | .fHop _ _ | .fWgt _ _ | .fRqt _ _ | .fImem _ _ | .fPad _ _ | .fRarm _ _ | .sOpen _ _ | .sClose _ _ => some .fq
  | .xConv _ _ | .xWlds _ _ | .xWflip _ | .xPool _ _ | .vld _ _ | .vst _ _ | .vbc _ _ | .vadd _ _ | .vsub _ _ | .vadds _ _
  | .vsubs _ _ | .vmul _ _ | .vmin _ _ | .vmax _ _ | .vabs _ _ | .vand _ _ | .vor _ _ | .vxor _ _ | .vshl _ _ | .vshra _ _
  | .vshrr _ _ | .vcmp _ _ | .vsel _ _ | .vrq _ _ | .vsumr _ _ | .vmaxr _ _ | .vminr _ _ | .vmov _ _ | .vaddf _ _ | .vsubf _ _
  | .vmulf _ _ | .vfmaf _ _ | .vminf _ _ | .vmaxf _ _ | .vrcpf _ _ | .vdivf _ _ | .vsqrtf _ _ | .vrsqf _ _ | .vexpf _ _
  | .vlogf _ _ | .vtanhf _ _ | .vsigf _ _ | .vgeluf _ _ | .vsumrf _ _ | .vmaxrf _ _ | .vminrf _ _ | .vcvtif _ _ | .vcvtfi _ _
  | .vcvtfb _ _ => some .xq
  | .wCopy _ _ | .wGlz _ _ | .wRarm _ _ => some .wq
  | .tWait _ f | .tUpd _ f | .tRupd _ f => match f.q.toNat with
    | 1 => some .fq
    | 2 => some .xq
    | 3 => some .wq
    | _ => none
  | _ => none

/-- Every head of core c's queues that has a wait condition has had it registered (R149): no registration is due. -/
def State.headsRegistered (s : State) (c : Nat) : Bool :=
  [Queue.fq, .xq, .wq].all fun q => ((s.core c).unregistered c q).isNone

end Sys2Proof.Machine
end

