-- ==== Sys2Proof/WellFormed.lean ====
section
/-! DEFINITION. Well-formed commands: the operands a sender may give. A command that is not well formed still has its meaning in
`exec`; these are the forms the spec lets exist. -/
namespace Sys2Proof.Machine

/-- An Edpervo command: unused fields are 0 (R110), the operand kinds are those of Table 6.9, A registers are 0 to 7. -/
def edpervoWf (i : Instr) : Bool := decide (usedFields i = i) && sclKinds i && !aIndexBad i

/-- A register write names a word of a page (R293, R296). -/
def offWf (off : Nat) : Bool := decide (off % 4 = 0 ∧ off < 0x1000)

/-- A write burst: BL16 or BL32, aligned to its length (R261, R264). -/
def burstWf (addr n : Nat) : Bool := decide ((n = 32 ∨ n = 64) ∧ addr % n = 0)

/-- A message of one opcode, with as many slots as the opcode has (R278), at most 256 bytes of data (Table 15.5). -/
def msgWf (m : Msg) (op : MsgOp) : Bool := decide (m.op = op) && msgLenOk m && decide (m.data.length ≤ 256)

/-- The samples of one schedule: 40 temperatures, 16 voltages (R317). -/
def sampleWf (temps volts : List (BitVec 16)) : Bool := decide (temps.length = 40 ∧ volts.length = 16)

/-- The command is well formed. -/
def instrWf (i : Instr) : Bool :=
  match i with
  | .registerWrite _ _ off _ => offWf off.toNat
  | .hostWrite _ addr data => burstWf addr.toNat data.bytes.length
  | .hostMaskedWrite _ addr data mask => burstWf addr.toNat data.bytes.length && decide (mask.length = data.bytes.length)
  | .boardControllerTransfer _ off data nread => offWf off.toNat && decide (off.toNat + 4 * max data.length nread ≤ 0x1000)
  | .monitorSample temps volts _ => sampleWf temps volts
  | .rdReq _ m => msgWf m .rdReq
  | .rdRsp _ m => msgWf m .rdRsp
  | .wrMem _ m => msgWf m .wrMem
  | .xferOpen _ m => msgWf m .xferOpen
  | .wrSp _ m => msgWf m .wrSp
  | .tallySet _ m => msgWf m .tallySet
  | .tallyAdd _ m => msgWf m .tallyAdd
  | .job _ m => msgWf m .job
  | .jobRsp _ m => msgWf m .jobRsp
  | .recMsg _ m => msgWf m .recMsg
  | .wrTally _ m => msgWf m .wrTally
  | .prune _ m => msgWf m .prune
  | .rejoin _ m => msgWf m .rejoin
  | .ack _ m => msgWf m .ack
  | .nak _ m => msgWf m .nak
  | .hello _ m => msgWf m .hello
  | .routeAdv _ m => msgWf m .routeAdv
  | i => match cmdCore i with
    | some _ => edpervoWf i
    | none => true

end Sys2Proof.Machine
end

