-- ==== Sys2Proof/Certificates/Slice0/Obligations.lean ====
section
/-! DEFINITION. The statements for the provers. Each says what a command or the machine does, in the words of a numbered rule of the spec
where there is one; a statement that rests on a choice of the model names its log entry. -/
open Sys2Proof Sys2Proof.Machine

/-! ## The machine -/

/-- A step takes the command at the front of the queue and carries it out on the state with the queue's rest. -/
def Obligations.StepRunsFrontCommand : Prop :=
  ∀ (s : State) (c : Instr) (rest : List Instr), s.pending = c :: rest → step s = exec c { s with pending := rest }

/-! ## Command words (R109, R110) -/

/-- Decoding the word of an Edpervo command gives the command back, with every operand at every value its field admits. -/
def Obligations.DecodeOfEncode : Prop :=
  ∀ (c : Fin 32) (i : Instr), cmdCore i = some c → ∃ w, encodeWord i = some w ∧ decodeWord c w = some i

/-- A word that decodes is the word of the command it decodes to: no two words spell one command, and no bit of a word is dropped. -/
def Obligations.EncodeOfDecode : Prop :=
  ∀ (c : Fin 32) (w : W128) (i : Instr), decodeWord c w = some i → cmdCore i = some c ∧ encodeWord i = some w

/-! ## Scalar commands (R121, Table 6.9) -/

/-- The arithmetic and logic commands write their result to S[D], or A[D], and nothing else: sums, differences and products modulo 2^32,
address sums modulo 2^48 with B sign-extended, MADA's signed product, bitwise AND, OR, XOR. The shift, compare and minimum commands: the
shift distance is B[4:0], the compares are signed, CSHR rounds up on a 33-bit sum. NOP, the moves, RTIME and UNIT. -/
def Obligations.ScalarCommands : Prop :=
  (∀ (c : Fin 32) (f : SclF) (s : State), s.units = true →
    let k := s.core c
    let a := k.s f.a.toNat
    let b := if f.bi then f.imm else k.s f.b.toNat
    let d := f.d.toNat
    (s.standsAt c (.add c f) = true → f.da = false → ∃ t v, exec (.add c f) s = .next t ∧ WroteS s t c d v ∧ v.toNat = (a.toNat + b.toNat) % 2 ^ 32) ∧
    (s.standsAt c (.sub c f) = true → f.da = false → ∃ t v, exec (.sub c f) s = .next t ∧ WroteS s t c d v ∧
      (v.toNat + b.toNat) % 2 ^ 32 = a.toNat) ∧
    (s.standsAt c (.add c f) = true → f.da = true → ∃ t v, exec (.add c f) s = .next t ∧ WroteA s t c d v ∧
      (v.toInt - ((k.a f.a.toNat).toInt + b.toInt)) % 2 ^ 48 = 0) ∧
    (s.standsAt c (.sub c f) = true → f.da = true → ∃ t v, exec (.sub c f) s = .next t ∧ WroteA s t c d v ∧
      (v.toInt - ((k.a f.a.toNat).toInt - b.toInt)) % 2 ^ 48 = 0) ∧
    (s.standsAt c (.mul c f) = true → ∃ t v, exec (.mul c f) s = .next t ∧ WroteS s t c d v ∧ v.toNat = a.toNat * b.toNat % 2 ^ 32) ∧
    (s.standsAt c (.mada c f) = true → ∃ t v, exec (.mada c f) s = .next t ∧ WroteA s t c d v ∧
      (v.toInt - ((k.a f.a.toNat).toInt + (k.s f.b.toNat).toInt * f.imm.toInt)) % 2 ^ 48 = 0) ∧
    (s.standsAt c (.andS c f) = true → ∃ t v, exec (.andS c f) s = .next t ∧ WroteS s t c d v ∧
      ∀ i, v.getLsbD i = (a.getLsbD i && b.getLsbD i)) ∧
    (s.standsAt c (.orS c f) = true → ∃ t v, exec (.orS c f) s = .next t ∧ WroteS s t c d v ∧
      ∀ i, v.getLsbD i = (a.getLsbD i || b.getLsbD i)) ∧
    (s.standsAt c (.xorS c f) = true → ∃ t v, exec (.xorS c f) s = .next t ∧ WroteS s t c d v ∧
      ∀ i, v.getLsbD i = (a.getLsbD i ^^ b.getLsbD i))) ∧
  (∀ (c : Fin 32) (f : SclF) (s : State), s.units = true →
    let k := s.core c
    let a := k.s f.a.toNat
    let b := if f.bi then f.imm else k.s f.b.toNat
    let n := b.toNat % 32
    let d := f.d.toNat
    (s.standsAt c (.shl c f) = true → ∃ t v, exec (.shl c f) s = .next t ∧ WroteS s t c d v ∧ v.toNat = a.toNat * 2 ^ n % 2 ^ 32) ∧
    (s.standsAt c (.shr c f) = true → ∃ t v, exec (.shr c f) s = .next t ∧ WroteS s t c d v ∧ v.toNat = a.toNat / 2 ^ n) ∧
    (s.standsAt c (.sra c f) = true → ∃ t v, exec (.sra c f) s = .next t ∧ WroteS s t c d v ∧ v.toInt = a.toInt.fdiv (2 ^ n)) ∧
    (s.standsAt c (.minS c f) = true → ∃ t v, exec (.minS c f) s = .next t ∧ WroteS s t c d v ∧ v.toInt = min a.toInt b.toInt) ∧
    (s.standsAt c (.maxS c f) = true → ∃ t v, exec (.maxS c f) s = .next t ∧ WroteS s t c d v ∧ v.toInt = max a.toInt b.toInt) ∧
    (s.standsAt c (.slt c f) = true → ∃ t v, exec (.slt c f) s = .next t ∧ WroteS s t c d v ∧
      v.toNat = if a.toInt < b.toInt then 1 else 0) ∧
    (s.standsAt c (.cshr c f) = true → ∃ t v, exec (.cshr c f) s = .next t ∧ WroteS s t c d v ∧ v.toNat = (a.toNat + 2 ^ n - 1) / 2 ^ n)) ∧
  (∀ (c : Fin 32) (f : SclF) (s : State), s.units = true →
    let k := s.core c
    let d := f.d.toNat
    (s.standsAt c (.nop c f) = true → ∃ t, exec (.nop c f) s = .next t ∧ t.core c = k.advance ∧ OnlyCore s t c) ∧
    (s.standsAt c (.movi c f) = true → ∃ t, exec (.movi c f) s = .next t ∧
      if f.da then WroteA s t c d (f.immx ++ f.imm) else WroteS s t c d f.imm) ∧
    (s.standsAt c (.mov c f) = true → ∃ t, exec (.mov c f) s = .next t ∧
      match f.da, f.aa with
      | false, false => WroteS s t c d (k.s f.a.toNat)
      | false, true => ∃ v, WroteS s t c d v ∧ v.toNat = (k.a f.a.toNat).toNat % 2 ^ 32
      | true, false => ∃ v, WroteA s t c d v ∧ v.toNat = (k.s f.a.toNat).toNat
      | true, true => WroteA s t c d (k.a f.a.toNat)) ∧
    (s.standsAt c (.unitId c f) = true → ∃ t v, exec (.unitId c f) s = .next t ∧ WroteS s t c d v ∧ v.toNat = s.devId * 2 ^ 13 + c) ∧
    (s.standsAt c (.rtime c f) = true → d ≤ 14 → ∃ t lo hi, exec (.rtime c f) s = .next t ∧ OnlyCore s t c ∧
      t.core c = ((k.setS d lo).setS (d + 1) hi).advance ∧ hi.toNat * 2 ^ 32 + lo.toNat = s.rig.t.toNat))

/-! ## Control commands (R122 to R125) -/

/-- BR goes to TARGET; BC does so when its comparison of S[A] with S[B], or IMM32, holds, and else goes on; LOOP runs its body ceil(c /
2^TSH) times, or passes it; DRAIN holds the sequencer while entries of the item stand in the queues of QM. The end of a loop body (R124):
when the word at LAST of the innermost loop has been carried out, the loop goes on at FIRST with its index raised while iterations are
left, and else is left. -/
def Obligations.BranchesAndLoops : Prop :=
  (∀ (c : Fin 32) (f : CtlF) (s : State), s.units = true →
    let k := s.core c
    let a := k.s f.a.toNat
    let b := if f.bi then f.imm else k.s f.b.toNat
    let n := ((if f.bi then f.imm else a).toNat + 2 ^ f.tsh.toNat - 1) / 2 ^ f.tsh.toNat
    (s.standsAt c (.br c f) = true → ∃ t, exec (.br c f) s = .next t ∧ t.core c = { k with pc := f.target.toNat } ∧ OnlyCore s t c) ∧
    (s.standsAt c (.bc c f) = true → f.cond.toNat ≤ 5 → ∃ t, exec (.bc c f) s = .next t ∧ OnlyCore s t c ∧
      let taken : Prop := match f.cond.toNat with
        | 0 => a = b
        | 1 => a ≠ b
        | 2 => a.toInt < b.toInt
        | 3 => b.toInt ≤ a.toInt
        | 4 => a.toNat < b.toNat
        | _ => b.toNat ≤ a.toNat
      (taken → t.core c = { k with pc := f.target.toNat }) ∧ (¬taken → t.core c = k.advance)) ∧
    (s.standsAt c (.loop c f) = true → ∃ t, exec (.loop c f) s = .next t ∧ OnlyCore s t c ∧
      (n = 0 → t.core c = { k with pc := f.target.toNat + 1 }) ∧
      (n ≠ 0 → t.core c = { k.setS f.idx.toNat 0 with
        pc := k.pc + 1
        loops := { first := k.pc + 1, last := f.target.toNat, left := n, i := 0, idx := f.idx.toNat } :: k.loops })) ∧
    (s.standsAt c (.drain c f) = true → ∃ t, exec (.drain c f) s = .next t ∧ OnlyCore s t c ∧
      let waits : Prop := ∃ key, k.cur = some key ∧ ((f.qm.getLsbD 0 = true ∧ ∃ e ∈ k.fq, e.item = key) ∨
        (f.qm.getLsbD 1 = true ∧ ∃ e ∈ k.xq, e.item = key) ∨ (f.qm.getLsbD 2 = true ∧ ∃ e ∈ k.wq, e.item = key))
      (waits → t = s) ∧ (¬waits → t.core c = k.advance))) ∧
  (∀ (k : Core) (l : LoopFrame) (r : List LoopFrame), k.loops = l :: r → k.sreg.length = 16 → l.idx < 16 →
    (k.pc = l.last → 1 < l.left →
      k.advance.pc = l.first ∧ k.advance.s l.idx = l.i + 1 ∧ k.advance.loops = { l with left := l.left - 1, i := l.i + 1 } :: r ∧
      ∀ j, j ≠ l.idx → k.advance.s j = k.s j) ∧
    (k.pc = l.last → l.left ≤ 1 → k.advance = { k with pc := l.last + 1, loops := r }) ∧
    (k.pc ≠ l.last → k.advance = { k with pc := k.pc + 1 }))

/-- END (R122): with no earlier entry in the three queues its markers retire at once and the reading of the item has ended; while a queue
is full the sequencer stalls. -/
def Obligations.EndPlacesMarkers : Prop :=
  ∀ (c : Fin 32) (f : CtlF) (s : State) (it : Item), s.units = true → s.standsAt c (.endItem c f) = true →
    (s.core c).curItem = some it →
    ((32 ≤ (s.core c).fq.length ∨ 32 ≤ (s.core c).xq.length ∨ 32 ≤ (s.core c).wq.length) →
      ∃ t, exec (.endItem c f) s = .next t ∧ t.core c = { s.core c with stalled := true }) ∧
    ((s.core c).fq = [] → (s.core c).xq = [] → (s.core c).wq = [] → ∃ t, exec (.endItem c f) s = .next t ∧
      (t.core c).cur = none ∧ (t.core c).loops = [] ∧ (t.core c).fq = [] ∧ (t.core c).xq = [] ∧ (t.core c).wq = [] ∧
      (t.core c).acc = [] ∧ (t.core c).kept = false ∧ (t.core c).sreg = (s.core c).sreg ∧ (t.core c).areg = (s.core c).areg ∧
      ((t.core c).item it.key).map (·.phase) = some .ended ∧ (∀ c', c' ≠ c → t.core c' = s.core c') ∧ SameBytes s t)

/-! ## Queues (R95, R111, R149) -/

/-- Every command of the queues is placed at the end of its queue, with the registers it names as they stand now, while the queue holds
fewer than 32 entries; the sequencer goes on and nothing else changes. Said for an entry whose wait need not be registered yet: one behind
another entry, or one without a wait. While its queue holds 32 entries, a command stalls the sequencer: nothing is placed, and the stall
is counted once. -/
def Obligations.QueueIssue : Prop :=
  (∀ (c : Fin 32) (q : Queue) (i : Instr) (s : State) (it : Item), cmdCore i = some c → queueOf i = some q → s.units = true →
    s.standsAt c i = true → (s.core c).curItem = some it → s.headsRegistered c = true → ((s.core c).q q).length < 32 →
    (((s.core c).head q).isSome = true ∨ ((s.core c).entryOf it i s.nextKey).cond = none) →
    ∃ t e, exec i s = .next t ∧ t.core c = ({ (s.core c).setQ q ((s.core c).q q ++ [e]) with stalled := false }).advance ∧
      e.op = i ∧ e.item = it.key ∧ e.word = (s.core c).pc ∧ e.sr = (s.core c).sreg ∧ e.ar = (s.core c).areg ∧ e.st = .queued ∧
      e.wait = none ∧ OnlyCore { s with nextKey := t.nextKey } t c) ∧
  (∀ (c : Fin 32) (q : Queue) (i : Instr) (s : State) (it : Item), cmdCore i = some c → queueOf i = some q → s.units = true →
    s.standsAt c i = true → (s.core c).curItem = some it → s.headsRegistered c = true → 32 ≤ ((s.core c).q q).length →
    ∃ t, exec i s = .next t ∧ t.core c = { s.core c with stalled := true } ∧ (∀ c', c' ≠ c.val → t.core c' = s.core c') ∧
      (t.rd (Pg.CORE c) Off.CORE.STALL_CNT).toNat =
        (if (s.core c).stalled then (s.rd (Pg.CORE c) Off.CORE.STALL_CNT).toNat
         else min ((s.rd (Pg.CORE c) Off.CORE.STALL_CNT).toNat + 1) 0xFFFFFFFF) ∧
      SameRegsBut s t [(Pg.CORE c, Off.CORE.STALL_CNT)] ∧ SameBytes s t)

/-- An entry with a wait that reaches the head of its queue as it is placed has the wait registered and tested at once: it is released
where the condition holds, and held where it does not and the tally is neither STRICT nor on the miss list for the item. -/
def Obligations.QueueHeadWait : Prop :=
  ∀ (c : Fin 32) (q : Queue) (i : Instr) (s : State) (it : Item) (o : Nat) (v : W32) (eq : Bool), cmdCore i = some c → queueOf i = some q →
    s.units = true → s.standsAt c i = true → (s.core c).curItem = some it → s.headsRegistered c = true → (s.core c).q q = [] →
    ((s.core c).entryOf it i s.nextKey).cond = some (o, v, eq) →
    let a := it.tally c o
    let holds : Prop := if eq then s.tally a = v else (s.tally a - v).toNat < 2 ^ 31
    (holds ∨ (s.strict a = false ∧ s.missed it a = none)) →
    ∃ t e w, exec i s = .next t ∧ (t.core c).q q = [e] ∧ e.op = i ∧ e.wait = some w ∧ w.tally = a ∧ w.value = v ∧ w.eq = eq ∧
      w.at_ = s.rig.t ∧ (w.released = true ↔ holds) ∧ t.tval = s.tval ∧ SameBytes s t

/-! ## Tally commands of the sequencer (R140, R143) -/

/-- T.WAIT with Q = 0 lets the sequencer go on at once where its condition holds, and holds it where it does not (a STRICT tally or one on
the miss list apart). A wait on a STRICT tally whose condition does not hold at registration is not held: its item fails with DEADLOCK,
KIND 0b11, and bit 3 of the core's FAULT_SUM is set. -/
def Obligations.SequencerWait : Prop :=
  (∀ (c : Fin 32) (f : TalF) (s : State) (it : Item), s.units = true → f.q = 0 → s.standsAt c (.tWait c f) = true →
    (s.core c).curItem = some it →
    let a := it.tally c f.t.toNat
    let v := if f.vi then f.imm else (s.core c).s f.vr.toNat
    let holds : Prop := if f.c then s.tally a = v else (s.tally a - v).toNat < 2 ^ 31
    (holds → ∃ t, exec (.tWait c f) s = .next t ∧ t.core c = (s.core c).advance ∧ OnlyCore s t c) ∧
    (¬holds → s.strict a = false → s.missed it a = none → ∃ t, exec (.tWait c f) s = .next t ∧ OnlyCore s t c ∧
      t.core c = { s.core c with seqWait := some { tally := a, value := v, eq := f.c, at_ := s.rig.t, released := false } })) ∧
  (∀ (c : Fin 32) (f : TalF) (s : State) (it : Item), s.units = true → f.q = 0 → s.standsAt c (.tWait c f) = true →
    (s.core c).curItem = some it → (s.core c).fq = [] → (s.core c).xq = [] → (s.core c).wq = [] → it.fail = none →
    s.strict (it.tally c f.t.toNat) = true → condHolds f.c (s.tally (it.tally c f.t.toNat)) (talValue (s.core c).sreg f) = false →
    ∃ t d, exec (.tWait c f) s = .next t ∧ ((t.core c).item it.key).bind (·.fail) = some (ST.DEADLOCK, d) ∧ d / 2 ^ 22 = 3 ∧
      d / 2 ^ 11 % 2 ^ 11 = (s.core c).pc % 2048 ∧ d % 2 ^ 11 = 0x7FF ∧ (t.core c).cur = none ∧
      t.rdB (Pg.CORE c) Off.HDR.FAULT_SUM 3 = true ∧ t.tval = s.tval)

/-- T.UPD with Q = 0, and T.RUPD with Q = 0 to this device, set the tally their offset maps to, or add to it modulo 2^32, and the
sequencer goes on; every other tally keeps its value. Said where no agent waits on the tally and no lane follows it. -/
def Obligations.SequencerUpdate : Prop :=
  ∀ (c : Fin 32) (f : TalF) (s : State) (it : Item), s.units = true → f.q = 0 → (s.core c).curItem = some it →
    let a := it.tally c f.t.toNat
    let v := if f.vi then f.imm else (s.core c).s f.vr.toNat
    (∀ c' : Fin 32, ((s.core c').waits.any fun w => w.tally == a) = false) → s.lanes = [] → s.tallyRefused (.item c it.key) a = false →
    (s.standsAt c (.tUpd c f) = true → ∃ t, exec (.tUpd c f) s = .next t ∧ t.tally a = (if f.c then v else s.tally a + v) ∧
      (∀ b, b ≠ a → t.tally b = s.tally b) ∧ (t.core c).pc = (s.core c).advance.pc ∧ (t.core c).sreg = (s.core c).advance.sreg ∧
      SameBytes s t) ∧
    (s.standsAt c (.tRupd c f) = true → ((s.core c).s f.dr.toNat).toNat % 512 = s.devId →
      ∃ t, exec (.tRupd c f) s = .next t ∧ t.tally a = (if f.c then v else s.tally a + v) ∧
        (∀ b, b ≠ a → t.tally b = s.tally b) ∧ (t.core c).pc = (s.core c).advance.pc ∧ SameBytes s t) ∧
    (s.standsAt c (.tRupd c f) = true → ∀ d, ((s.core c).s f.dr.toNat).toNat % 512 = d → d ≠ s.devId →
      ∃ t h, exec (.tRupd c f) s = .next t ∧ t.tval = s.tval ∧ h ∈ (t.outStream d).all ∧ h.msg.op = (if f.c then .tallySet else .tallyAdd) ∧
        h.msg.addr.toNat = a ∧ h.msg.value = v ∧ h.msg.dst.toNat = d ∧ (t.core c).pc = (s.core c).advance.pc)

/-- A change of a tally releases every registered wait that its new value meets, in every queue and sequencer of the device. -/
def Obligations.WaitsAreReleased : Prop :=
  ∀ (s : State) (src : TallySrc) (a : Nat) (set : Bool) (v : W32), s.tallyRefused src a = false →
    let t := (s.tallyOp src a set v).1
    t.tally a = (if set then v else s.tally a + v) ∧ (∀ b, b ≠ a → t.tally b = s.tally b) ∧
    ∀ k ∈ t.cores, ∀ w ∈ k.waits, w.tally = a → condHolds w.eq (t.tally a) w.value = false

/-- Writes of T_SET, T_ADD and T_ATTR act on tally 1024 p + IDX; IDX advances after an accepted write while INC is 1; a write that R150
refuses leaves the tally, and is recorded in T_CODE and FAULT_SUM bit 0. -/
def Obligations.TallyRegisters : Prop :=
  ∀ (src : Agent) (p : Fin 16) (v : W32) (s : State),
    let pg := 0x070 + p.val
    let i := s.rdF pg Off.TALLY.T_IDX 9 0
    let a := 1024 * p.val + i
    (s.tallyRefused .reg a = false → ∃ t u, exec (.tallyTSetWrite src p v) s = .next t ∧ exec (.tallyTAddWrite src p v) s = .next u ∧
      t.tally a = v ∧ (u.tally a).toNat = ((s.tally a).toNat + v.toNat) % 2 ^ 32 ∧ (∀ b, b ≠ a → t.tally b = s.tally b ∧ u.tally b = s.tally b) ∧
      t.rdF pg Off.TALLY.T_IDX 9 0 = (if s.rdB pg Off.TALLY.T_IDX 31 then (i + 1) % 1024 else i) ∧
      u.rdF pg Off.TALLY.T_IDX 9 0 = t.rdF pg Off.TALLY.T_IDX 9 0 ∧ SameBytes s t ∧ SameBytes s u) ∧
    (s.tallyRefused .reg a = true → ∃ t u, exec (.tallyTSetWrite src p v) s = .next t ∧ exec (.tallyTAddWrite src p v) s = .next u ∧
      t.tval = s.tval ∧ u.tval = s.tval ∧ t.rdF pg Off.TALLY.T_CODE 31 24 = ST.STATE ∧ t.rdF pg Off.TALLY.T_CODE 9 0 = i ∧
      t.rdB pg Off.HDR.FAULT_SUM 0 = true ∧ u.rdB pg Off.HDR.FAULT_SUM 0 = true ∧
      t.rdF pg Off.TALLY.T_IDX 9 0 = i) ∧
    (∃ t, exec (.tallyTAttrWrite src p v) s = .next t ∧ t.strict a = v.getLsbD 0 ∧ (∀ b, b ≠ a → t.strict b = s.strict b) ∧
      t.tval = s.tval ∧ t.cores = s.cores ∧ t.rdF pg Off.TALLY.T_IDX 9 0 = (if s.rdB pg Off.TALLY.T_IDX 31 then (i + 1) % 1024 else i))

/-! ## The engines (R96 to R98, R142, R184 to R186) -/

/-- The head entry of a queue starts once its wait is released and its ordering conditions hold; commands that take effect when they start
do so and retire. Said for an entry that stands alone in its queue and makes no tally update. -/
def Obligations.QueueEntryStart : Prop :=
  ∀ (c : Fin 32) (q : Queue) (s : State) (e : QEntry) (it : Item), s.units = true → s.coreIn c = true → s.headsRegistered c = true →
    (s.core c).q q = [e] → e.st = .queued → e.marker = false → e.upd = none → (s.core c).item e.item = some it → s.ue = [] →
    (e.waited = false → ∃ t, exec (.queueEntryStart c q) s = .next t ∧ t = s) ∧
    (e.waited = true → s.mayStart c q it e = true →
      (∀ f, e.op = .fPad c f → ∃ t, exec (.queueEntryStart c q) s = .next t ∧ (t.core c).pad = f.imm ∧ (t.core c).padItem = it.key ∧
        (t.core c).q q = [] ∧ SameBytes s t) ∧
      (e.op = .xWflip c → ∃ t, exec (.queueEntryStart c q) s = .next t ∧ (t.core c).half = !(s.core c).half ∧ (t.core c).q q = [] ∧
        SameBytes s t) ∧
      (∀ f, e.op = .tWait c f → ∃ t, exec (.queueEntryStart c q) s = .next t ∧ (t.core c).q q = [] ∧ t.tval = s.tval ∧ SameBytes s t) ∧
      (xqUnit e.op < 2 → (∀ c', e.op ≠ .xWflip c') →
        ∃ t, exec (.queueEntryStart c q) s = .next t ∧ (t.core c).q q = [{ e with st := .started }] ∧ SameBytes s t))

/-- The result of a lane command is written to its vector register when its entry completes, and the entry retires. -/
def Obligations.VectorEntryCompletes : Prop :=
  ∀ (c : Fin 32) (s : State) (e : QEntry) (d : Nat) (ls : List W32) (fl : AFlags), s.units = true → s.coreIn c = true →
    s.headsRegistered c = true → (s.core c).xq = [e] → e.st = .started → e.marker = false → e.pend = [] → e.acks = [] →
    s.heldFor c e.key = false → e.upd = none → s.ue = [] → vecResult (s.core c) e = some (d, ls, fl) → d < 32 →
    ∃ t, exec (.entryComplete c .xq 0) s = .next t ∧ (t.core c).xq = [] ∧
      (∀ l, l < 64 → (t.core c).vlane d l = ls.getD l 0) ∧ (∀ r l, r ≠ d → l < 64 → (t.core c).vlane r l = (s.core c).vlane r l) ∧
      (t.core c).sreg = (s.core c).sreg ∧ t.tval = s.tval ∧ SameBytes s t

/-- GATE_GRANT. A gate grants the first of what it can grant now, in the order of R186: nothing it could grant comes before it. A granted row
of an F.COPY from memory of this device is copied into its scratchpad row, with the pad pattern after its valid bytes, and no other byte
of memory changes (said where no word carries an error mark). A granted row of an F.COPY or F.WGT that meets an uncorrectable word, or on
which read link ECC finds an error it cannot correct, enters nothing and fails its item (R248). A gate with nothing to grant leaves all but
the set of blocked races as it is. -/
def Obligations.FetchRowMovesData : Prop :=
  (∀ (rows : List GateRow) (x : GateRow), firstRow rows = some x → x ∈ rows ∧ ∀ y ∈ rows, lexLt y.keys x.keys = false) ∧
  (∀ (g : Gate) (s : State) (x : GateRow) (c : Nat) (q : Queue) (e : QEntry) (it : Item) (row : Nat × Nat) (c' : Fin 32) (f : CopyF),
    s.units = true → firstRow (s.gateRows g) = some x → (∀ n, g ≠ .glz n) → x.work = .row c q e it row → e.op = .fCopy c' f → c < 32 →
    (s.rowMem c it e row).1 = s.devId →
    let geo := copyGeo e f
    let src := (s.rowMem c it e row).2
    let dst := rowAddr c (geo.rowOf row.1 row.2)
    let n := min 256 (geo.lb - 256 * row.2)
    (s.ue = [] → s.ueWords src (geo.inRow row.2) = [] → ∃ t, exec (.gateGrant ⟨g, false⟩) s = .next t ∧
      (∀ i, i < geo.inRow row.2 → t.byte (dst + i) = s.byte (src + i)) ∧
      (∀ i, geo.inRow row.2 ≤ i → i < n → (t.byte (dst + i)).toNat = e.pad.toNat / 2 ^ (8 * (i % 4)) % 256) ∧
      (∀ a, ¬(dst ≤ a ∧ a < dst + n) → t.byte a = s.byte a)) ∧
    (∀ le, (s.ueWords src (geo.inRow row.2) ≠ [] ∨ (le = true ∧ s.rdB Pg.MEM Off.MEM.MEM_CFG 27 = true ∧ src < 0x1000000000 ∧ 0 < geo.inRow row.2)) →
      ∃ t, exec (.gateGrant ⟨g, le⟩) s = .next t ∧ SameBytes s t ∧ ((t.core c).item it.key).bind (·.fail) ≠ none)) ∧
  (∀ (g : Gate) (le : Bool) (s : State), s.gateRows g = [] → (∀ n, g ≠ .glz n) →
    ∃ t, exec (.gateGrant ⟨g, le⟩) s = .next t ∧ SameBytes s t ∧ t = { s with regs := t.regs, blocked := t.blocked } ∧
      ∀ p o b, p < 2048 → o < 4096 → b < 4096 → (∀ r < 64, (p, o) ≠ (Pg.RACE r, raceOff r Off.RACE.RS_BLOCK_CNT)) → t.rd p o b = s.rd p o b)

/-! ## Instruction memory (R100, R101, R114, R118, R373) -/

/-- IMEM_DATA. A write into the standby bank while no swap is pending, the domain is on and no configuration set is under way is carried
out, sets the load checks of the programs it touches back to unchecked (or starts the check of the directory entry whose upper word it
is), and moves IMEM_SEL on; any other write is refused with STATE. A read by the management controller moves IMEM_SEL on too. -/
def Obligations.InstructionMemoryRegisters : Prop :=
  ∀ (src : Agent) (c : Fin 32) (v : W32) (s : State), s.units = true →
    let k := s.core c
    let pg := Pg.CORE c
    let b := s.rdB pg Off.CORE.IMEM_SEL 13
    let w := s.rdF pg Off.CORE.IMEM_SEL 12 0
    let may : Prop := s.domainOn c = true ∧ s.mgmt.cfg = .idle ∧ b ≠ k.active ∧ k.swap = false
    (may → ∃ t, exec (.imemDataWrite src c v) s = .next t ∧ t.rdF pg Off.CORE.IMEM_SEL 12 0 = (w + 1) % 8192 ∧
      t.rdB pg Off.CORE.IMEM_SEL 13 = b ∧
      (32 ≤ w → (t.core c).iword b w = v ∧ ∀ e < 16, dirUsed (k.dirHi b e) = true →
        dirHdr (k.dirLo b e) ≤ w / 4 → w / 4 < dirHdr (k.dirLo b e) + dirLen (k.dirHi b e) → dirLstate ((t.core c).dirHi b e) = 0) ∧
      (w < 32 → w % 2 = 0 → (t.core c).iword b w = v ∧ dirLstate ((t.core c).dirHi b (w / 2)) = 0) ∧
      (w < 32 → w % 2 = 1 → v.getLsbD 31 = true → dirLstate ((t.core c).iword b w) = 1 ∧
        dirLen ((t.core c).iword b w) = dirLen v ∧ dirUsed ((t.core c).iword b w) = true) ∧
      (w < 32 → w % 2 = 1 → v.getLsbD 31 = false → dirLstate ((t.core c).iword b w) = 0 ∧ dirFail ((t.core c).iword b w) = 0) ∧
      (∀ i < 8192, (t.core c).iword k.active i = k.iword k.active i) ∧ (∀ c', c' ≠ c.val → t.core c' = s.core c') ∧
      SameRegsBut s t [(pg, Off.CORE.IMEM_SEL)] ∧ SameBytes s t) ∧
    (¬may → ∃ t, exec (.imemDataWrite src c v) s = .next t ∧ t.rdF pg Off.CORE.IMEM_CTRL 23 16 = ST.STATE ∧
      OnlyFault s t pg 0 [(pg, Off.CORE.IMEM_CTRL)]) ∧
    (∃ t, exec (.imemDataRead c) s = .next t ∧ t.out = [k.iword b w] ∧ t.rdF pg Off.CORE.IMEM_SEL 12 0 = (w + 1) % 8192 ∧
      OnlyRegs { s with out := t.out } t [(pg, Off.CORE.IMEM_SEL)])

/-- SWAP is accepted where no USED entry of the standby bank is unchecked or being checked, and refused with STATE where one is. A pending
swap takes effect at a program boundary, unless an item accepted before it still needs the bank that is active. The load check of an entry
in LSTATE 0b01 ends with LSTATE 0b10, or with 0b11 and FAIL_WORD; any other entry stays as it is. One that reads an uncorrectable word of a
requant image fails at word 3 or before, and the word is counted and recorded (R248). An entry whose directory words break
Table 6.4 fails with FAIL_WORD 0x7FF, whatever else is wrong with its program. -/
def Obligations.LoadChecksAndSwaps : Prop :=
  (∀ (src : Agent) (c : Fin 32) (s : State), s.units = true →
    let k := s.core c
    let waits : Prop := ∃ e < 16, dirUsed (k.dirHi (!k.active) e) = true ∧ dirLstate (k.dirHi (!k.active) e) < 2
    (s.domainOn c = true → s.mgmt.cfg = .idle → ¬waits → ∃ t, exec (.imemSwap src c) s = .next t ∧ (t.core c).swap = true ∧
      (t.core c).active = k.active ∧ (t.core c).imem = k.imem ∧ (∀ c', c' ≠ c.val → t.core c' = s.core c') ∧ t.regs = s.regs ∧
      SameBytes s t) ∧
    (s.domainOn c = true → s.mgmt.cfg = .idle → waits → ∃ t, exec (.imemSwap src c) s = .next t ∧
      t.rdF (Pg.CORE c) Off.CORE.IMEM_CTRL 23 16 = ST.STATE ∧ OnlyFault s t (Pg.CORE c) 0 [(Pg.CORE c, Off.CORE.IMEM_CTRL)]) ∧
    (k.swap = true → k.cur = none →
      (∀ it ∈ k.items, it.phase = .accepted → it.key < k.swapKey → k.entriesOf (!k.active) (descProgram it.desc) ≠ []) →
      (∀ x ∈ s.promised c, x.1 < k.swapKey → k.entriesOf (!k.active) x.2 ≠ []) →
      ∃ t, exec (.bankSwap c) s = .next t ∧ t.core c = { k with active := !k.active, swap := false } ∧ OnlyCore s t c) ∧
    (k.swap = false ∨ k.cur ≠ none → exec (.bankSwap c) s = .next s)) ∧
  (∀ (c : Fin 32) (b : Bool) (e : Fin 16) (le : Bool) (s : State), s.units = true →
    let k := s.core c
    let hi := k.dirHi b e
    let lo := k.dirLo b e
    let ue := if k.dirBad b e then none else s.imageUe (k.header b (dirHdr lo)) le
    (dirUsed hi = true → dirLstate hi = 1 → ue = none →
      ∃ t, exec (.loadCheckDone c b ⟨e, le⟩) s = .next t ∧ (∀ i < 8192, i ≠ 2 * e.val + 1 → (t.core c).iword b i = k.iword b i) ∧
        dirUsed ((t.core c).dirHi b e) = true ∧ dirLen ((t.core c).dirHi b e) = dirLen hi ∧
        (s.loadCheck c b e = none → dirLstate ((t.core c).dirHi b e) = 2 ∧ dirFail ((t.core c).dirHi b e) = dirFail hi) ∧
        (∀ w, s.loadCheck c b e = some w → dirLstate ((t.core c).dirHi b e) = 3 ∧ dirFail ((t.core c).dirHi b e) = w % 2048) ∧
        OnlyCore s t c) ∧
    (∀ x, dirUsed hi = true → dirLstate hi = 1 → ue = some x → 4 * x < 0x1000000000 →
      ∃ t, exec (.loadCheckDone c b ⟨e, le⟩) s = .next t ∧ dirLstate ((t.core c).dirHi b e) = 3 ∧ dirFail ((t.core c).dirHi b e) ≤ 3 ∧
        t.rdB Pg.MEM Off.HDR.FAULT_SUM 0 = true ∧ Counted s t Pg.MEM Off.MEM.ECC_UE_CNT ∧ SameBytes s t) ∧
    ((dirUsed hi = false ∨ dirLstate hi ≠ 1) → exec (.loadCheckDone c b ⟨e, le⟩) s = .next s) ∧
    ((dirHdr lo < 8 ∨ 2048 < dirHdr lo + dirLen hi ∨ dirLen hi < 5 ∨ 2040 < dirLen hi ∨
      ∃ e' < 16, e' ≠ e.val ∧ dirUsed (k.dirHi b e') = true ∧ dirPid (k.dirLo b e') = dirPid lo) → s.loadCheck c b e = some 0x7FF))

/-! ## Cores in and out of service (R301, R307 to R309) -/

/-- CORE_CMD: OUT is accepted in IDLE and RUN, RETURN in OUT, and any other combination is refused with STATE in LAST_CODE. A core that
goes OUT, by register or because its liveness ring stands still, sets bit 5 of its FAULT_SUM and bit 0 of DEV's; its stores keep their
contents. Said for a core with no item and with nothing of other cores landing in its windows. -/
def Obligations.CoreService : Prop :=
  ∀ (src : Agent) (c : Fin 32) (s : State), s.units = true →
    let k := s.core c
    let pg := Pg.CORE c
    let alone : Prop := k.items = [] ∧ (∀ w ∈ k.wins, w.landing = []) ∧ ∀ j ∈ s.jobs, ∀ q ∈ j.quanta, q.st ≠ .held c
    let went (t : State) (cause : Nat) : Prop := (t.core c).st = .out ∧ (t.core c).cause = cause ∧ (t.core c).fq = [] ∧
      (t.core c).xq = [] ∧ (t.core c).wq = [] ∧ (t.core c).cur = none ∧ (∀ w < 8, ((t.core c).wins.getD w {}).st = .closed) ∧
      (t.core c).imem = k.imem ∧ (t.core c).vreg = k.vreg ∧ (t.core c).acc = k.acc ∧ (t.core c).active = k.active ∧
      (∀ r, (t.lane r c).st = .free) ∧ t.rdB pg Off.HDR.FAULT_SUM 5 = true ∧ t.rdB Pg.DEV Off.HDR.FAULT_SUM 0 = true ∧
      t.tval = s.tval ∧ SameBytes s t
    (s.domainOn c = true → (k.st = .idle ∨ k.st = .run) → alone →
      ∃ t, exec (.coreCmdOut src c) s = .next t ∧ went t (match src with | .host _ => 0 | .mc => 1)) ∧
    (k.st = .idle ∨ k.st = .run → alone → ∃ t, exec (.livenessTimeout c) s = .next t ∧ went t 2) ∧
    (k.st = .off ∨ k.st = .out → exec (.livenessTimeout c) s = .next s) ∧
    (s.domainOn c = true → k.st = .out → ∃ t, exec (.coreCmdReturn src c) s = .next t ∧ t.core c = { k with st := .idle } ∧ OnlyCore s t c) ∧
    (s.domainOn c = true → k.st = .out → ∃ t, exec (.coreCmdOut src c) s = .next t ∧ t.rdF pg Off.CORE.CORE_STATE 23 16 = ST.STATE ∧
      OnlyLogged s t [(pg, Off.CORE.CORE_STATE)]) ∧
    (s.domainOn c = true → k.st ≠ .out → ∃ t, exec (.coreCmdReturn src c) s = .next t ∧
      t.rdF pg Off.CORE.CORE_STATE 23 16 = ST.STATE ∧ OnlyLogged s t [(pg, Off.CORE.CORE_STATE)])

/-! ## Work items (R26, R94, R99, R117, R20, R21) -/

/-- ITEM_START: of the accepted items that are ready, the first in the order of R26 starts: S0 to S15 and A0 to A7 take the values of Table
5.4, the sequencer stands at the program's entry word, the core is in RUN, and the item's private tallies are 0. -/
def Obligations.ItemStart : Prop :=
  ∀ (c : Fin 32) (s : State) (it : Item), s.units = true →
    let k := s.core c
    let ready (x : Item) : Prop := x.phase = .accepted ∧ x.ready ≠ none ∧ x.fail = none ∧ k.entriesOf k.active (descProgram x.desc) ≠ []
    (k.st = .idle ∨ k.st = .run) → k.cur = none → k.swap = false → it ∈ k.items → ready it →
    (∀ x ∈ k.items, x ≠ it → ready x → it.before x = true) →
    (∀ c' : Fin 32, c' ≠ c → ∀ x ∈ (s.core c').items, x.phase = .accepted) →
    ∀ e, (k.entriesOf k.active (descProgram it.desc)).head? = some e →
    let h := k.header k.active (dirHdr (k.dirLo k.active e))
    let d := it.desc
    ∃ t, exec (.itemStart c) s = .next t ∧ (t.core c).cur = some it.key ∧ (t.core c).st = .run ∧ (t.core c).pc = 4 + hdrNlayer h ∧
      (t.core c).s 0 = BitVec.ofNat 32 it.quantum ∧ (t.core c).s 1 = BitVec.ofNat 32 (it.quantum * descStripeH d) ∧
      (t.core c).s 2 = BitVec.ofNat 32 (min (descStripeH d) (descShape d (descLineDim d) - it.quantum * descStripeH d)) ∧
      (t.core c).s 3 = descFrame d ∧ (∀ i < 8, (t.core c).s (4 + i) = BitVec.ofNat 32 (descShape d i)) ∧
      (t.core c).s 12 = BitVec.ofNat 32 (descTallyBase d) ∧ (t.core c).s 13 = BitVec.ofNat 32 (descStripeH d) ∧
      (t.core c).s 14 = 0 ∧ (t.core c).s 15 = 0 ∧ (∀ i < 3, (t.core c).a i = descBase d i) ∧
      (t.core c).a 3 = BitVec.ofNat 48 (s.devId * 2 ^ 39 + 0x4000000000 + c * 0x400000) ∧
      (t.core c).a 4 = BitVec.ofNat 48 (s.devId * 2 ^ 39 + 0x4800000000 + c * 0x80000) ∧ (∀ i, 5 ≤ i → i < 8 → (t.core c).a i = 0) ∧
      (∀ i < hdrNpriv h, t.tally (tallyOf h d c (hdrNshared h + i)) = 0) ∧ SameBytes s t

/-- ITEM_COMPLETE of the last item of a core: the core is idle again, and the item is counted. While quanta of its job remain, a success
of a job with RECORD_MODE 0 is absorbed, and a failure is written to the job's ring at CPL_TAIL with the words of Table 1.4; the last
quantum brings the parent record, which carries the first failure. Said for an item without a hopper claim and a ring with room. -/
def Obligations.ItemComplete : Prop :=
  ∀ (c : Fin 32) (s : State) (it : Item) (j : Job) (n : Nat) (others : List Quantum) (q : Quantum), s.units = true → s.ue = [] →
    let k := s.core c
    k.items = [it] → it.phase = .ended → k.fq = [] → k.xq = [] → k.wq = [] → (∀ w ∈ k.wins, w.st = .closed) → it.claim = none →
    s.heldForItem c it.key = false → (k.st = .idle ∨ k.st = .run) → s.jobs = [j] → j.key = it.job → n < 16 →
    (j.src = .ring n ∨ j.src = .launch n) → j.quanta = q :: others → q.idx = it.quantum → (∀ x ∈ others, x.idx ≠ q.idx) →
    (∀ x ∈ j.quanta, x.st ≠ .held c) → s.ringFull n = false → s.pendRecs n = [] →
    let tail := s.rd (Pg.DB n) Off.DB.CPL_TAIL
    let slot := 0x80000 + n % 4 * 0x10000 + 32 * (tail.toNat % 2048)
    let failed : Nat := if it.fail.isSome then 1 else 0
    let status := (it.fail.map (·.1)).getD ST.OK
    let detail := (it.fail.map (·.2)).getD 0
    let lines := if it.fail.isSome then 0 else quantumLines it.desc it.quantum
    (∀ code d, it.fail = some (code, d) → code / 16 = 2) →
    let record (t : State) (ws : List W32) : Prop := t.rd (Pg.DB n) Off.DB.CPL_TAIL = tail + 1 ∧
      t.rd (Pg.DB n) Off.DB.SEQ = s.rd (Pg.DB n) Off.DB.SEQ + 1 ∧
      ∀ i < 32, t.ringByte (n / 4) (slot + i) = (wordBytes (ws ++ [s.rd (Pg.DB n) Off.DB.SEQ])).getD i 0
    ∃ t, exec (.itemComplete c) s = .next t ∧ (t.core c).items = [] ∧ (t.core c).st = .idle ∧
      (if it.fail.isSome then Counted s t (Pg.CORE c) Off.CORE.ITEM_FAIL_CNT ∧ t.rd (Pg.CORE c) Off.CORE.ITEM_CNT = s.rd (Pg.CORE c) Off.CORE.ITEM_CNT
       else Counted s t (Pg.CORE c) Off.CORE.ITEM_CNT ∧ t.rd (Pg.CORE c) Off.CORE.ITEM_FAIL_CNT = s.rd (Pg.CORE c) Off.CORE.ITEM_FAIL_CNT) ∧
      t.tval = s.tval ∧ (∀ a, t.byte a = s.byte a) ∧
      ((∃ x ∈ others, QuantumSt.hasEnded x.st = false) →
        ((∃ j', t.job it.job = some j' ∧ j'.lines = j.lines + lines ∧ j'.failed = j.failed + failed ∧ j'.done = j.done + (1 - failed)) ∧
        (it.fail = none → descRecordMode j.desc = false → t.ringMem = s.ringMem ∧ ∀ off bank, off < 4096 → bank < 4096 →
          t.rd (Pg.DB n) off bank = s.rd (Pg.DB n) off bank) ∧
        (it.fail ≠ none ∨ descRecordMode j.desc = true → record t [j.desc.getD 2 0, j.desc.getD 3 0,
          BitVec.ofNat 32 (status * 2 ^ 24 + s.coreUnit c), descFrame j.desc, BitVec.ofNat 32 (it.quantum % 2 ^ 16 * 2 ^ 16 + lines % 2 ^ 16),
          BitVec.ofNat 32 ((1 - failed) * 2 ^ 16 + failed), BitVec.ofNat 32 ((if it.reissued then 2 ^ 30 else 0) + detail % 2 ^ 24)]))) ∧
      ((∀ x ∈ others, QuantumSt.hasEnded x.st = true) → it.fail = none → descRecordMode j.desc = false →
        t.jobs = [] ∧ Counted s t Pg.DEV Off.DEV.REC_CNT ∧
        let code := (j.fail.map (·.1)).getD ST.OK
        let d := (j.fail.map (·.2)).getD 0
        record t [j.desc.getD 2 0, j.desc.getD 3 0, BitVec.ofNat 32 (code * 2 ^ 24 + descTarget j.desc), descFrame j.desc,
          BitVec.ofNat 32 (0xFFFF * 2 ^ 16 + (j.lines + lines) % 2 ^ 16),
          BitVec.ofNat 32 ((j.done + 1) % 2 ^ 16 * 2 ^ 16 + j.failed % 2 ^ 16), BitVec.ofNat 32 (2 ^ 31 + d % 2 ^ 24)])

/-! ## The scoreboard and the wait limit (R156 to R158) -/

/-- SCOREBOARD_DEADLOCK: the sequencer has passed END and the head of every queue that is not empty waits, unreleased, on a tally private
to its item, and nothing has started: the item of the first such head fails with DEADLOCK, and no tally changes. Where an update of each
head's tally stands behind the other head, KIND is 0b00 and both words are named; where none does, KIND is 0b01. While a queue is not
so blocked, nothing happens. Said for a core whose entries are all of one item. -/
def Obligations.ScoreboardDeclares : Prop :=
  ∀ (c : Fin 32) (s : State) (it : Item), s.units = true →
    let k := s.core c
    (k.st = .idle ∨ k.st = .run) → k.cur = none → k.items = [it] → it.fail = none →
    (∀ e ∈ k.fq ++ k.xq ++ k.wq, e.item = it.key ∧ e.st = .queued) →
    let blocked (e : QEntry) : Prop := e.marker = false ∧ ∃ w, e.wait = some w ∧ w.released = false ∧ it.private_ c w.tally = true ∧
      ∀ x ∈ k.wins, x.st = .closed ∨ x.tally ≠ some w.tally
    let updates (es : List QEntry) (e : QEntry) : Prop := ∃ w, e.wait = some w ∧ ∃ x ∈ es, ∃ o set v d, x.upd = some (o, set, v, d) ∧
      it.tally c o = w.tally ∧ d.getD s.devId = s.devId
    let fails (t : State) (kind a b : Nat) : Prop :=
      ((t.core c).item it.key).bind (·.fail) = some (ST.DEADLOCK, kind * 2 ^ 22 + a % 2048 * 2 ^ 11 + b) ∧
      t.rdB (Pg.CORE c) Off.HDR.FAULT_SUM 3 = true ∧ (t.core c).fq = [] ∧ (t.core c).xq = [] ∧ (t.core c).wq = [] ∧ t.tval = s.tval ∧
      (t.core c).st = k.st ∧ SameBytes s t
    (∀ e r, k.fq = e :: r → blocked e → k.xq = [] → k.wq = [] →
      ∃ t, exec (.scoreboardDeadlock c) s = .next t ∧ fails t 1 e.word 0x7FF) ∧
    (∀ e r e' r', k.fq = e :: r → blocked e → k.xq = e' :: r' → blocked e' → k.wq = [] → updates r' e → updates r e' →
      ∃ t, exec (.scoreboardDeadlock c) s = .next t ∧ fails t 0 e.word (e'.word % 2048)) ∧
    ((∃ q e r, k.q q = e :: r ∧ e.wait = none) → exec (.scoreboardDeadlock c) s = .next s)

/-- WAIT_LIMIT_EXPIRY: a wait registered for more than WAIT_LIMIT periods of its tally's page fails its item with DEADLOCK, KIND 0b10, and is
counted in LIMIT_CNT; one registered for no longer stays. Said for the sequencer's wait, and for a wait that stands alone in its queue. -/
def Obligations.WaitLimit : Prop :=
  ∀ (c : Fin 32) (s : State) (it : Item) (w : WaitReg), s.units = true →
    let k := s.core c
    let limit := (s.rd (Pg.TALLY w.tally) Off.TALLY.WAIT_LIMIT).toNat
    let fails (t : State) (word : Nat) : Prop :=
      ((t.core c).item it.key).bind (·.fail) = some (ST.DEADLOCK, 2 * 2 ^ 22 + word % 2048 * 2 ^ 11 + 0x7FF) ∧
      t.rdB (Pg.CORE c) Off.HDR.FAULT_SUM 3 = true ∧ Counted s t (Pg.TALLY w.tally) Off.TALLY.LIMIT_CNT ∧ t.tval = s.tval ∧
      (t.core c).st = k.st ∧ SameBytes s t
    w.tally < 16384 → k.items = [it] → it.fail = none →
    (k.cur = some it.key → k.seqWait = some w → k.fq = [] → k.xq = [] → k.wq = [] →
      (s.rig.t.toNat > w.at_.toNat + limit → ∃ t, exec (.waitLimitExpiry c .seq s.rig.t) s = .next t ∧ fails t k.pc ∧ (t.core c).cur = none) ∧
      (s.rig.t.toNat ≤ w.at_.toNat + limit → exec (.waitLimitExpiry c .seq s.rig.t) s = .next s)) ∧
    (∀ q e, k.cur = none → k.q q = [e] → (∀ q', q' ≠ q → k.q q' = []) → e.item = it.key → e.st = .queued → e.marker = false →
      e.wait = some w → w.released = false →
      (s.rig.t.toNat > w.at_.toNat + limit → ∃ t, exec (.waitLimitExpiry c (.queue q) s.rig.t) s = .next t ∧ fails t e.word ∧ (t.core c).q q = []) ∧
      (s.rig.t.toNat ≤ w.at_.toNat + limit → exec (.waitLimitExpiry c (.queue q) s.rig.t) s = .next s))

/-! ## The core scrubber and sluice landings (R167, R173) -/

/-- CORE_SCRUB_ROW: a domain that is on with SCRUB_CTRL.EN = 1 has the next of its 18,432 rows read; words with a correctable error in it are
rewritten and counted, and no byte changes value. An uncorrectable word is counted, logged and fails no item. A pass whose period has
ended is counted late once. With EN = 0 or the domain off nothing happens. -/
def Obligations.CoreScrub : Prop :=
  ∀ (c : Fin 32) (s : State), s.units = true →
    let k := s.core c
    let i := k.scrub
    let base := if i < 16384 then 0x4000000000 + c * 0x400000 + 256 * i else 0x4800000000 + c * 0x80000 + 256 * (i - 16384)
    let inRow (w : Nat) : Prop := base / 4 ≤ w ∧ w < base / 4 + 64
    let late : Prop := i ≠ 0 ∧ k.scrubAt.toNat + s.rdF (Pg.CORE c) Off.CORE.SCRUB_CTRL 15 0 * 100000 < s.rig.t.toNat
    (i < 18432 → s.domainOn c = true → s.rdB (Pg.CORE c) Off.CORE.SCRUB_CTRL 31 = true →
    ∃ t, exec (.coreScrubRow c) s = .next t ∧ (t.core c).scrub = (i + 1) % 18432 ∧ SameBytes s t ∧
      (t.core c).items = k.items ∧ (∀ c', c' ≠ c.val → t.core c' = s.core c') ∧ (∀ w, inRow w → EccLoc.mem w ∉ t.ce) ∧
      (∀ w, ¬inRow w → (EccLoc.mem w ∈ t.ce ↔ EccLoc.mem w ∈ s.ce)) ∧ t.ue = s.ue ∧
      (¬late → (∀ w, inRow w → EccLoc.mem w ∉ s.ce ∧ EccLoc.mem w ∉ s.ue) → t.regs = s.regs ∧ t.log = s.log) ∧
      (late → k.scrubLate = false → Counted s t (Pg.CORE c) Off.CORE.SCRUB_LATE_CNT ∧ (t.core c).scrubLate = true) ∧
      (late → k.scrubLate = true → t.rd (Pg.CORE c) Off.CORE.SCRUB_LATE_CNT = s.rd (Pg.CORE c) Off.CORE.SCRUB_LATE_CNT) ∧
      (∀ w, inRow w → EccLoc.mem w ∈ s.ue → t.rdB (Pg.CORE c) Off.HDR.FAULT_SUM 2 = true)) ∧
    ((s.domainOn c = false ∨ s.rdB (Pg.CORE c) Off.CORE.SCRUB_CTRL 31 = false) → exec (.coreScrubRow c) s = .next s)

/-- SLUICE_LANDING: the first transfer that a window has accepted from another core of this device lands. Its bytes are those of the
sender's row, the arrival tally is added 1, the sender's wait for the acknowledgement ends, and no other byte changes. Said for a
transfer of one line in one row that meets no error. -/
def Obligations.SluiceLanding : Prop :=
  ∀ (c c' : Fin 32) (w : Fin 8) (s : State) (e : QEntry) (f : CopyF) (src : LandSrc) (n : Nat), s.units = true → s.ue = [] → s.ce = [] →
    let k := s.core c
    let x := k.wins.getD w {}
    let g := copyGeo e f
    let dst := g.base.toNat % 2 ^ 39
    let len := g.bytes
    c ≠ c' → x.landing = [{ src := src, rows := n, err := false }] → src = .here c' e.key → (s.core c').wq = [e] → e.op = .wCopy c' f →
    g.lines = 1 → 0 < len → len ≤ 256 →
    ∃ t, exec (.sluiceLanding c w) s = .next t ∧ (∀ i < len, t.byte (dst + i) = s.byte (rowAddr c' g.row + i)) ∧
      (∀ a, ¬(dst ≤ a ∧ a < dst + len) → t.byte a = s.byte a) ∧ ((t.core c).wins.getD w {}).landing = [] ∧
      (∀ y ∈ (t.core c').wq, (s.devId, c.val) ∉ y.acks) ∧ (x.st = .closing → ((t.core c).wins.getD w {}).st = .closed) ∧
      (∀ a, x.tally = some a → t.tally a = s.tally a + 1 ∧ ∀ b, b ≠ a → t.tally b = s.tally b) ∧ (x.tally = none → t.tval = s.tval)

/-! ## Races (R188 to R191, R194) -/

/-- RD_CTRL: a write that sets VALID takes effect where DRAIN >= 1, STEP >= 1 with PT_EN, DEPTH >= 1 for WRITEBACK and MCAST, and MC_DEPTH >= 1
and a member for MCAST; each sent count then takes its credit's value. Otherwise RACE_ERR records BAD_DESC. While VALID is 1 only a
write that clears it is taken, and that not while a lane of the race is OPEN or BOUND: else RACE_ERR records STATE. -/
def Obligations.RaceDescriptor : Prop :=
  ∀ (src : Agent) (r : Fin 64) (v : W32) (s : State),
    let kind := fld v 30 29
    let good : Prop := 1 ≤ fld (s.rdRace r Off.RACE.RD_DRAIN) 19 0 ∧ (v.getLsbD 27 = true → 1 ≤ fld (s.rdRace r Off.RACE.RD_SPACE) 31 16) ∧
      (2 ≤ kind → 1 ≤ fld (s.rdRace r Off.RACE.RD_SPACE) 14 0) ∧
      (kind = 3 → 1 ≤ fld (s.rdRace r Off.RACE.RD_MCAST) 27 24 ∧ ∃ i < 16, (s.raceMemb r i).getLsbD 31 = true)
    let valid := (s.rdRace r Off.RACE.RD_CTRL).getLsbD 31
    let used : Prop := ∃ c < 32, (s.lane r c).st = .opened ∨ (s.lane r c).st = .bound
    let reg := (Pg.RACE r, 0x100 + 128 * (r.val % 16))
    let refused (t : State) (code : Nat) : Prop := t.rd Pg.WEIR Off.WEIR.RACE_ERR = BitVec.ofNat 32 (code * 2 ^ 24 + r) ∧
      OnlyRefused s t code [(Pg.WEIR, Off.WEIR.RACE_ERR)]
    let taken (t : State) : Prop := t.rdRace r Off.RACE.RD_CTRL = v &&& 0xFFFFFC00 ∧ SameRegsBut s t [reg] ∧ t.cores = s.cores ∧
      t.tval = s.tval ∧ SameBytes s t
    (valid = false → v.getLsbD 31 = true → good → ∃ t, exec (.rdCtrlWrite src r v) s = .next t ∧ taken t ∧
      ∀ i < 16, t.sent r i = s.tally ((fld (s.rdRace r Off.RACE.RD_MCAST) 13 0 + i) % 16384)) ∧
    (valid = false → v.getLsbD 31 = true → ¬good → ∃ t, exec (.rdCtrlWrite src r v) s = .next t ∧ refused t ST.BAD_DESC) ∧
    (valid = false → v.getLsbD 31 = false → ∃ t, exec (.rdCtrlWrite src r v) s = .next t ∧ taken t ∧ t.mcSent = s.mcSent) ∧
    (valid = true → (v.getLsbD 31 = true ∨ used) → ∃ t, exec (.rdCtrlWrite src r v) s = .next t ∧ refused t ST.STATE) ∧
    (valid = true → v.getLsbD 31 = false → ¬used → ∃ t, exec (.rdCtrlWrite src r v) s = .next t ∧ taken t ∧ t.mcSent = s.mcSent)

/-- RACE_DEADLOCK_DETECT: of two blocked races that wait on each other, the item of the larger DEADLINE_CLASS, and on equal classes that
of the higher race, fails with RACE_DEADLOCK, is recorded in DLK_LAST and counted in DLK_CNT. Where no blocked race depends on one, no
item fails. MC_HOLD_EXPIRY: a member for which a stripe has been held longer than MC_HOLD.PERIODS is pruned up to the latest frame among
the stripes held for it: RS_PRUNE, RS_PRUNE_FRAME and RS_MISS_CNT record it, bit 2 of WEIR's FAULT_SUM is set, and the held items go ahead
without it. A member held for no longer stays. -/
def Obligations.LongWaitsEnd : Prop :=
  (∀ (s : State) (r r' : Fin 64) (c c' : Fin 32) (it it' : Item), s.units = true →
    let none_ : Prop := ∀ x ∈ s.blockedRaces, s.raceDepEn x = false
    (none_ → ∃ t, exec .raceDeadlockDetect s = .next t ∧ t.blocked = s.blockedRaces ∧ t.cores = s.cores ∧ t.log = s.log ∧ SameBytes s t) ∧
    (r < r' → s.blockedRaces = [r.val, r'.val] → s.raceDepEn r = true → s.raceDepEn r' = true → s.raceDep r = r' → s.raceDep r' = r →
      s.oldestOwner r = some (c.val, it) → s.oldestOwner r' = some (c'.val, it') → c ≠ c' → it.fail = none → it'.fail = none →
      s.headsRegistered c = true → s.headsRegistered c' = true → (s.core c).items = [it] → (s.core c').items = [it'] →
      ∃ t, exec .raceDeadlockDetect s = .next t ∧ Counted s t Pg.WEIR Off.WEIR.DLK_CNT ∧ t.rdB Pg.WEIR Off.HDR.FAULT_SUM 0 = true ∧
        t.tval = s.tval ∧ SameBytes s t ∧
        (descClass it.desc ≤ descClass it'.desc →
          ((t.core c').item it'.key).bind (·.fail) = some (ST.RACE_DEADLOCK, r'.val * 2 ^ 18 + r.val * 2 ^ 12 + 2) ∧
          ((t.core c).item it.key).bind (·.fail) = none ∧ fld (t.rd Pg.WEIR Off.WEIR.DLK_LAST) 31 26 = r') ∧
        (descClass it'.desc < descClass it.desc →
          ((t.core c).item it.key).bind (·.fail) = some (ST.RACE_DEADLOCK, r.val * 2 ^ 18 + r'.val * 2 ^ 12 + 2) ∧
          ((t.core c').item it'.key).bind (·.fail) = none ∧ fld (t.rd Pg.WEIR Off.WEIR.DLK_LAST) 31 26 = r))) ∧
  (∀ (s : State) (r : Fin 64) (i : Fin 16) (x : Stripe) (t0 : W64), s.units = true →
    let hold := (s.rd Pg.WEIR Off.WEIR.MC_HOLD).toNat
    (s.stripes.filter fun y => decide (y.race = r.val) && y.held.any fun h => h.1 == i.val) = [x] → x.held = [(i.val, t0)] →
    (s.rig.t.toNat > t0.toNat + hold → ∃ t, exec (.mcHoldExpiry r i s.rig.t) s = .next t ∧ t.pruned r i = some x.frame ∧
      (t.rdRace r Off.RACE.RS_PRUNE).getLsbD i = true ∧ t.rdRace r Off.RACE.RS_PRUNE_FRAME = x.frame ∧
      Counted s t (Pg.RACE r) (raceOff r Off.RACE.RS_MISS_CNT) ∧ t.rdB Pg.WEIR Off.HDR.FAULT_SUM 2 = true ∧
      (∀ y ∈ t.stripes, y.race = r.val → ∀ h ∈ y.held, h.1 ≠ i.val) ∧ t.cores = s.cores ∧ t.tval = s.tval ∧ SameBytes s t) ∧
    (s.rig.t.toNat ≤ t0.toNat + hold → exec (.mcHoldExpiry r i s.rig.t) s = .next s))

/-! ## Glaze units (R231 to R239, R373) -/

/-- CTX_CMD and COEF_DATA on the selected context of a glaze unit. ARM arms it, its slots free, where the conditions of R239 hold, and else
is refused with BAD_DESC; DISARM is refused with STATE while the context has an open band. A coefficient is stored, and COEF_SEL moves
on, while the context is not armed; a read by the management controller moves COEF_SEL on too. -/
def Obligations.GlazeContexts : Prop :=
  ∀ (src : Agent) (g : Fin 8) (v : W32) (s : State), s.units = true →
    let z := s.glaze g
    let pg := Pg.GLZ g
    let x := s.rdF pg Off.GLZ.CTX_SEL 3 0
    let i := s.rdF pg Off.GLZ.COEF_SEL 8 0 x
    let coef (z : Glz) (c n : Nat) : BitVec 10 := SMap.get (fun _ => (0 : BitVec 10)) z.coefs (512 * c + n)
    let refused (t : State) (code : Nat) : Prop := t.rdF pg Off.GLZ.CTX_CMD 23 16 = code ∧ OnlyRefused s t code [(pg, Off.GLZ.CTX_CMD)]
    let bad : Prop := (s.glzCtx g x).stride = 0 ∨ 8 < (s.glzCtx g x).inSh ∨ (s.glzCtx g x).base.toNat % 64 ≠ 0 ∨ (s.glzCtx g x).hold = 0 ∨
      (s.glzCtx g x).slotLines < 2 ∨ 128 < (s.glzCtx g x).slotLines ∨ (s.glzCtx g x).dest = 3 ∨
      (s.glzCtx g x).yPitch < (s.glzCtx g x).yBytes ∨ ((s.glzCtx g x).hEn = true ∧ ∃ p < 64, (List.range 8).foldl (fun (a : Int) n => a + (coef z x (8 * p + n)).toInt) 0 ≠ 256)
    (bad → s.armGood g x = false) ∧
    (s.armGood g x = true → z.armed.contains x = false → ∃ t, exec (.ctxArm src g) s = .next t ∧ (t.glaze g).armed.contains x = true ∧
      (∀ y < 16, y ≠ x → (t.glaze g).armed.contains y = z.armed.contains y) ∧ (∀ n < 16, SMap.find (t.glaze g).slots (16 * x + n) = none) ∧
      (t.glaze g).bands = z.bands ∧ (t.glaze g).coefs = z.coefs ∧ t.regs = s.regs ∧ SameBytes s t) ∧
    (s.armGood g x = false → ∃ t, exec (.ctxArm src g) s = .next t ∧ refused t ST.BAD_DESC) ∧
    ((∀ b ∈ z.bands, b.ctx = x → b.closed = true) → ∃ t, exec (.ctxDisarm src g) s = .next t ∧ (t.glaze g).armed.contains x = false ∧
      (∀ y < 16, y ≠ x → (t.glaze g).armed.contains y = z.armed.contains y) ∧ t.regs = s.regs ∧ SameBytes s t) ∧
    ((∃ b ∈ z.bands, b.ctx = x ∧ b.closed = false) → ∃ t, exec (.ctxDisarm src g) s = .next t ∧ refused t ST.STATE) ∧
    (z.armed.contains x = false → ∃ t, exec (.coefDataWrite src g v) s = .next t ∧ (coef (t.glaze g) x i).toNat = v.toNat % 1024 ∧
      (∀ c n, n < 512 → (c, n) ≠ (x, i) → coef (t.glaze g) c n = coef z c n) ∧ t.rdF pg Off.GLZ.COEF_SEL 8 0 x = (i + 1) % 512 ∧
      SameRegsBut s t [(pg, Off.GLZ.COEF_SEL)] ∧ SameBytes s t) ∧
    (z.armed.contains x = true → ∃ t, exec (.coefDataWrite src g v) s = .next t ∧ refused t ST.STATE) ∧
    (∃ t w, exec (.coefDataRead g) s = .next t ∧ t.out = [w] ∧ w.toNat = (coef z x i).toNat ∧ t.rdF pg Off.GLZ.COEF_SEL 8 0 x = (i + 1) % 512 ∧
      OnlyRegs { s with out := t.out } t [(pg, Off.GLZ.COEF_SEL)])

/-- The glaze timeouts. A W.GLZ that has waited longer than C_HOLD for band space fails its item with DEADLOCK, KIND 0b10, WORD_A the W.GLZ.
So does a band that has waited that long for its slot with OVR = 0, and the failed item's bands are discarded; with OVR = 1 the unit
clears FULL, the slot passes to the band's group, and OVR_CNT counts it. A shorter wait changes nothing. Said for a core with one item
and one W.GLZ. -/
def Obligations.GlazeTimeouts : Prop :=
  ∀ (c c' : Fin 32) (g : Fin 8) (s : State) (it : Item) (e : QEntry) (f : GlzF) (b : Band) (t0 : W64), s.units = true → s.ue = [] →
    let k := s.core c
    let fails (t : State) : Prop :=
      ((t.core c).item it.key).bind (·.fail) = some (ST.DEADLOCK, 2 * 2 ^ 22 + e.word % 2048 * 2 ^ 11 + 0x7FF) ∧
      t.rdB (Pg.CORE c) Off.HDR.FAULT_SUM 3 = true ∧ t.tval = s.tval ∧ (t.core c).st = k.st ∧ SameBytes s t
    k.items = [it] → it.fail = none → k.cur = none → k.fq = [] → k.xq = [] → k.wq = [e] → e.item = it.key → e.op = .wGlz c' f →
    (e.st = .queued → e.held = some t0 →
      let hold := (s.rd (Pg.GLZ f.glz.toNat) Off.GLZ.C_HOLD f.ctx.toNat).toNat
      (s.rig.t.toNat > t0.toNat + hold → ∃ t, exec (.glazeBandWaitTimeout c s.rig.t) s = .next t ∧ fails t ∧ (t.core c).wq = []) ∧
      (s.rig.t.toNat ≤ t0.toNat + hold → exec (.glazeBandWaitTimeout c s.rig.t) s = .next s)) ∧
    (e.st = .started → b.opener = e.key → b.entry = e.key → b.core = c → b.item = it.key → b.closed = false → b.since = some t0 → (s.glaze g).bands = [b] →
      (∀ g' : Fin 8, g' ≠ g → (s.glaze g').bands = []) →
      let x := s.glzCtx g b.ctx
      let hold := (s.rd (Pg.GLZ g) Off.GLZ.C_HOLD b.ctx).toNat
      (s.rig.t.toNat > t0.toNat + hold → x.ovr = false → ∃ t, exec (.glazeSlotHoldTimeout c s.rig.t) s = .next t ∧ fails t ∧
        (t.glaze g).bands = [] ∧ Counted s t (Pg.GLZ g) Off.GLZ.ABANDON_CNT ∧ t.rdB (Pg.GLZ g) Off.HDR.FAULT_SUM 2 = true ∧
        ∀ y ∈ (t.core c).wq, y.pend = [] ∧ y.noUpd = true) ∧
      (s.rig.t.toNat > t0.toNat + hold → x.ovr = true → s.glzRemote x = false → ∀ gr o, x.bandGroups b = [gr] →
        SMap.find (s.glaze g).slots (16 * b.ctx + x.slotOf b.frame gr) = some o → (o.frame ≠ b.frame ∨ o.group ≠ gr) →
        let rec_ := x.localAddr c (x.slotOf b.frame gr * x.slotSize)
        (s.word (x.localAddr c (x.slotOf b.frame gr * x.slotSize + 4))).getLsbD 31 = true → s.ueWords (rec_ + 4) 4 = [] →
        ∃ t, exec (.glazeSlotHoldTimeout c s.rig.t) s = .next t ∧ Counted s t (Pg.GLZ g) Off.GLZ.OVR_CNT ∧
          t.rdB (Pg.GLZ g) Off.HDR.FAULT_SUM 1 = true ∧ (t.glaze g).bands = [{ b with since := none }] ∧
          SMap.find (t.glaze g).slots (16 * b.ctx + x.slotOf b.frame gr) = some { frame := b.frame, group := gr, done := [] } ∧
          (∀ a, ¬(rec_ + 4 ≤ a ∧ a < rec_ + 8) → x.dest ≠ 2 → t.byte a = s.byte a) ∧
          t.word (x.localAddr c (x.slotOf b.frame gr * x.slotSize + 4)) = 0 ∧ t.cores = s.cores) ∧
      (s.rig.t.toNat ≤ t0.toNat + hold → exec (.glazeSlotHoldTimeout c s.rig.t) s = .next s))

/-- GLAZE_LINE_OUTPUT: the next output line of the closed band is written at its place in its slot; where it is the last line of its group
that was open, the 64-byte ready record of Table 12.5 is written too. The band is gone after its last line. Said for a format without
a chroma plane and a destination on this device. -/
def Obligations.GlazeLines : Prop :=
  ∀ (g : Fin 8) (s : State) (b : Band) (o : GSlot), s.units = true → s.ue = [] → (s.glaze g).bands = [b] → b.closed = true →
    let x := s.glzCtx g b.ctx
    let y := (x.bandOut b).1 + b.out
    let group := y / x.slotLines
    let slot := x.slotOf b.frame group
    let dst := x.localAddr b.core (slot * x.slotSize + 64 + y % x.slotLines * x.yPitch)
    let rec_ := x.localAddr b.core (slot * x.slotSize)
    let bs := x.yLine (s.bandOutPx g x b b.out)
    let last := o.done.length + 1 = x.groupLines group
    (x.fmt < 4 ∨ x.fmt = 7) → s.glzRemote x = false → b.out < (x.bandOut b).2 → bs ≠ [] → s.ce = [] →
    s.ueWords dst bs.length = [] → s.ueWords rec_ 64 = [] →
    SMap.find (s.glaze g).slots (16 * b.ctx + slot) = some o → o.frame = b.frame → o.group = group → y ∉ o.done →
    (∀ j < x.ow, (s.bandOutPx g x b b.out j).isSome = true) →
    ∃ t, exec (.glazeLineOutput g) s = .next t ∧
      ((rec_ + 64 ≤ dst ∨ ¬last) → ∀ i < bs.length, some (t.byte (dst + i)) = bs.getD i none) ∧
      (∀ a, ¬(dst ≤ a ∧ a < dst + bs.length) → ¬(last ∧ rec_ ≤ a ∧ a < rec_ + 64) → t.byte a = s.byte a) ∧
      (last → ∀ i < 64, t.byte (rec_ + i) = ((readyWords x g b.ctx b.frame group s.rig.t).flatMap fun w => leBytes 4 w.toNat).getD i 0) ∧
      SMap.find (t.glaze g).slots (16 * b.ctx + slot) = some { o with done := o.done ++ [y] } ∧
      (t.glaze g).bands = (if b.out + 1 < (x.bandOut b).2 then [{ b with out := b.out + 1 }] else []) ∧ t.cores = s.cores ∧ t.regs = s.regs

/-! ## Rings, jobs and spans (R16 to R18, R20, R23 to R25, R266, R267, R306) -/

/-- A CMD_TAIL write posts descriptors where its ring is enabled and at most 2,048 would stand posted, and is refused with STATE and counted
otherwise; behind control writes that wait on the channel a doorbell write waits too. DESCRIPTOR_TAKE reads the 64 bytes of the next posted slot and
moves CMD_HEAD on. A CPL_HEAD write releases records unless it passes CPL_TAIL; it then frees room for a record that waits. Said for a channel in
RUN, the only state in which it takes doorbell writes. -/
def Obligations.CommandRings : Prop :=
  ∀ (n : Fin 16) (v : W32) (s : State), s.units = true → s.ue = [] →
    let db := Pg.DB n
    let hc := Pg.HC (n / 4)
    let en := s.rdB hc (Off.HC.RING_CTRL0 + 0x10 * (n.val % 4)) 31
    let head := s.rd db Off.DB.CMD_HEAD
    let slot := n.val % 4 * 0x20000 + 64 * (head.toNat % 2048)
    let tail := s.rd db Off.DB.CPL_TAIL
    let waits := (s.chan (n / 4)).ctl ≠ []
    (s.chan (n / 4)).st = .run →
    (¬waits → en = true → (v - head).toNat ≤ 2048 → ∃ t, exec (.cmdTailWrite n v) s = .next t ∧ t.rd db Off.DB.CMD_TAIL = v ∧
      OnlyRegs s t [(db, Off.DB.CMD_TAIL)]) ∧
    (¬waits → (en = false ∨ 2048 < (v - head).toNat) → ∃ t, exec (.cmdTailWrite n v) s = .next t ∧
      t.rd db Off.DB.CODE = BitVec.ofNat 32 (ST.STATE * 2 ^ 24) ∧ Counted s t hc (Off.HC.CMD_REFUSE0 + 0x10 * (n.val % 4)) ∧
      OnlyLogged s t [(db, Off.DB.CODE), (hc, Off.HC.CMD_REFUSE0 + 0x10 * (n.val % 4))]) ∧
    (waits → ∃ t, exec (.cmdTailWrite n v) s = .next t ∧ t = { s with chans := t.chans } ∧
      (t.chan (n / 4)).ctl.length = (s.chan (n / 4)).ctl.length + 1) ∧
    (waits → ∃ t, exec (.cplHeadWrite n v) s = .next t ∧ t = { s with chans := t.chans } ∧
      (t.chan (n / 4)).ctl.length = (s.chan (n / 4)).ctl.length + 1) ∧
    (en = true → head ≠ s.rd db Off.DB.CMD_TAIL → ∃ t j, exec (.descriptorTake n) s = .next t ∧ t.rd db Off.DB.CMD_HEAD = head + 1 ∧
      t.jobs = s.jobs ++ [j] ∧ j.ph = .taken ∧ j.src = .ring n ∧ j.desc.length = 16 ∧
      (∀ i < 16, (j.desc.getD i 0).toNat = ofBytes (s.ringBytes (n / 4) (slot + 4 * i) 4)) ∧
      t = { s with regs := t.regs, jobs := t.jobs, nextKey := t.nextKey } ∧ SameRegsBut s t [(db, Off.DB.CMD_HEAD)]) ∧
    (en = false ∨ head = s.rd db Off.DB.CMD_TAIL → exec (.descriptorTake n) s = .next s) ∧
    (¬waits → 2048 < (tail - v).toNat → ∃ t, exec (.cplHeadWrite n v) s = .next t ∧
      t.rd db Off.DB.CODE = BitVec.ofNat 32 (ST.STATE * 2 ^ 24 + 1) ∧ OnlyLogged s t [(db, Off.DB.CODE)]) ∧
    (¬waits → (tail - v).toNat ≤ 2048 → s.pendRecs n = [] → ∃ t, exec (.cplHeadWrite n v) s = .next t ∧ t.rd db Off.DB.CPL_HEAD = v ∧
      OnlyRegs s t [(db, Off.DB.CPL_HEAD)]) ∧
    (¬waits → (tail - v).toNat < 2048 → ∀ r, s.pendRecs n = [r] → r.words.length = 8 → ∃ t, exec (.cplHeadWrite n v) s = .next t ∧
      t.rd db Off.DB.CPL_HEAD = v ∧ t.rd db Off.DB.CPL_TAIL = tail + 1 ∧ t.pendRecs n = [] ∧
      (∀ i < 32, t.ringByte (n / 4) (0x80000 + n.val % 4 * 0x10000 + 32 * (tail.toNat % 2048) + i) = (wordBytes r.words).getD i 0) ∧
      ∀ a, t.byte a = s.byte a)

/-- CHECK_ROUND of a job for one core of this device. Where the core refuses nothing, its quanta are accepted in order while it has room
for 64 items, and the rest are held for it. Where the descriptor breaks R16, or the core is not in service, nothing of the job runs:
the target's record carries the refusal, with the unit in DETAIL. With a used shape entry of 0 it completes with ZERO. Said for a ring
with room. -/
def Obligations.CheckRound : Prop :=
  ∀ (key : Nat) (c : Fin 32) (n : Nat) (s : State) (j : Job), s.units = true → s.ue = [] → s.jobs = [j] → j.key = key → j.ph = .taken →
    j.src = .ring n → n < 16 → j.refusedFrame = false → descTarget j.desc = s.coreUnit c → s.ringFull n = false →
    s.pendRecs n = [] →
    let k := s.core c
    let d := j.desc
    let zero : Prop := ∃ i < descNdim d, i < 8 ∧ descShape d i = 0
    let tail := s.rd (Pg.DB n) Off.DB.CPL_TAIL
    let slot := 0x80000 + n % 4 * 0x10000 + 32 * (tail.toNat % 2048)
    let ends (t : State) (code detail : Nat) : Prop := t.jobs = [] ∧ (t.core c).items = k.items ∧
      t.rd (Pg.DB n) Off.DB.CPL_TAIL = tail + 1 ∧
      (∀ i < 32, t.ringByte (n / 4) (slot + i) = (wordBytes [d.getD 2 0, d.getD 3 0, BitVec.ofNat 32 (code * 2 ^ 24 + s.coreUnit c), descFrame d,
        BitVec.ofNat 32 (0xFFFF * 2 ^ 16), 0, BitVec.ofNat 32 (2 ^ 31 + detail), s.rd (Pg.DB n) Off.DB.SEQ]).getD i 0) ∧
      Counted s t Pg.DEV Off.DEV.REC_CNT ∧ ∀ a, t.byte a = s.byte a
    j.done = 0 → j.failed = 0 → j.lines = 0 →
    (s.badDesc d = true → ∃ t, exec (.checkRound key) s = .next t ∧ ends t ST.BAD_DESC (s.coreUnit c) ∧ Counted s t Pg.DEV Off.DEV.REFUSE_CNT ∧
      t.rdB Pg.DEV Off.HDR.FAULT_SUM 1 = true) ∧
    (s.badDesc d = false → (k.st = .off ∨ k.st = .out) → ∃ t, exec (.checkRound key) s = .next t ∧ ends t ST.STATE (s.coreUnit c) ∧
      Counted s t Pg.DEV Off.DEV.REFUSE_CNT) ∧
    (s.badDesc d = false → (k.st = .idle ∨ k.st = .run) → s.coreRefusals c d = [] → zero →
      ∃ t, exec (.checkRound key) s = .next t ∧ ends t ST.ZERO 0 ∧ t.rd Pg.DEV Off.DEV.REFUSE_CNT = s.rd Pg.DEV Off.DEV.REFUSE_CNT) ∧
    (s.badDesc d = false → (k.st = .idle ∨ k.st = .run) → s.coreRefusals c d = [] → ¬zero →
      ∃ t j', exec (.checkRound key) s = .next t ∧ t.jobs = [j'] ∧ j'.key = key ∧ j'.ph = .running ∧
        j'.quanta.map (·.idx) = List.range (descQuanta d) ∧
        (t.core c).waiting = max k.waiting (min 64 (k.waiting + descQuanta d)) ∧
        (∀ q ∈ j'.quanta, q.st = .onCore c ∨ q.st = .held c) ∧
        (∀ q ∈ j'.quanta, k.waiting + q.idx < 64 → q.st = .onCore c) ∧ t.ringMem = s.ringMem ∧ ∀ a, t.byte a = s.byte a)

/-- Writes to the span table. While VALID is 1 every write to an entry is refused with STATE, but a SPAN_HDR write that clears VALID. One
that sets it takes effect where LEVEL is 1 to 8, NMEMB 1 to 14 and every used member names a unit, a span of this device only one that is
valid and of a lower level; else SPAN_ERR records BAD_DESC and the entry. With equal weights quantum j goes to member (j + SPLIT_ROT) mod
n. -/
def Obligations.SpanTable : Prop :=
  (∀ (src : Agent) (e : Fin 240) (i : Fin 14) (v : W32) (s : State),
    let hdr := s.spanHdr e
    let valid := hdr.getLsbD 31
    let good : Prop := 1 ≤ fld v 27 24 ∧ fld v 27 24 ≤ 8 ∧ 1 ≤ fld v 23 20 ∧ fld v 23 20 ≤ 14 ∧
      ∀ m < fld v 23 20, let u := fld (s.spanMemb e m) 23 0
        unitNamed u = true ∧ (u / 2 ^ 22 % 4 = 3 → u / 2 ^ 13 % 512 = s.devId →
          (s.spanHdr (u % 2 ^ 13)).getLsbD 31 = true ∧ fld (s.spanHdr (u % 2 ^ 13)) 27 24 < fld v 27 24)
    let hreg := (Pg.SPAN e, spanOff e Off.SPAN.SPAN_HDR)
    let mreg := (Pg.SPAN e, spanOff e (Off.SPAN.SPAN_MEMB0 + 4 * i.val))
    let refused (t : State) (code : Nat) : Prop := t.rd Pg.SPAN0 Off.SPAN.SPAN_ERR = BitVec.ofNat 32 (code * 2 ^ 24 + e) ∧
      OnlyRefused s t code [(Pg.SPAN0, Off.SPAN.SPAN_ERR)]
    let taken (t : State) : Prop := (t.spanHdr e).getLsbD 31 = v.getLsbD 31 ∧ fld (t.spanHdr e) 27 24 = fld v 27 24 ∧
      fld (t.spanHdr e) 23 20 = fld v 23 20 ∧ OnlyRegs s t [hreg]
    (valid = true → v.getLsbD 31 = true → ∃ t, exec (.spanHdrWrite src e v) s = .next t ∧ refused t ST.STATE) ∧
    (v.getLsbD 31 = false → ∃ t, exec (.spanHdrWrite src e v) s = .next t ∧ taken t) ∧
    (valid = false → v.getLsbD 31 = true → good → ∃ t, exec (.spanHdrWrite src e v) s = .next t ∧ taken t) ∧
    (valid = false → v.getLsbD 31 = true → ¬good → ∃ t, exec (.spanHdrWrite src e v) s = .next t ∧ refused t ST.BAD_DESC) ∧
    (valid = true → ∃ t, exec (.spanMembWrite src e i v) s = .next t ∧ refused t ST.STATE) ∧
    (valid = false → ∃ t, exec (.spanMembWrite src e i v) s = .next t ∧ t.spanMemb e i = v ∧ OnlyRegs s t [mreg])) ∧
  (∀ (n rot q j : Nat), 0 < n → j < q → (divide (List.replicate n 1) rot q)[j]? = some ((j + rot) % n))

/-! ## Sensor ports: commands (R31, R32, R34, R37, R352) -/

/-- The commands of a port: from OFF to IDLE by EN with the domain on, PROBE in IDLE, START in READY under the partition and pixel-rate
rules, STOP in STREAM, RELEASE in READY, OFF from any state when EN is cleared. In another state a command has no effect, is refused with
STATE, or CAPACITY, in LAST_CODE, and sets bit 3 of FAULT_SUM. Said for a port with no swap pending and, where EN is cleared, no frame in
progress. -/
def Obligations.PortCommands : Prop :=
  ∀ (src : Agent) (n : Fin 24) (s : State), s.units = true → (s.port n).swapPend = false →
    let p := s.port n
    let pg := Pg.SP n
    let refused (t : State) (code : Nat) : Prop := t.rdF pg Off.SP.PORT_STATE 23 16 = code ∧ OnlyFault s t pg 3 [(pg, Off.SP.PORT_STATE)]
    let others (t : State) : Prop := (∀ m, m ≠ n.val → t.port m = s.port m) ∧ t.cores = s.cores ∧ SameBytes s t
    let toIdle (t : State) : Prop := (t.port n).st = .idle ∧ (t.port n).profile = none ∧ t.rdF pg Off.SP.PORT_STATE 15 12 = 15 ∧ others t
    let flow := (List.range 24).map fun i => if (s.port i).st = .stream ∨ (s.port i).st = .stopping then s.rdF (Pg.SP i) Off.SP.PIX_RATE 15 0 else 0
    let tooFast : Prop := 18000 < s.rdF pg Off.SP.PIX_RATE 15 0 + flow.sum
    (.sensorPort n ∉ s.power.failed → s.domainOn (32 + n.val / 6) = true → p.st = .off →
      ∃ t, exec (.portEnable src n) s = .next t ∧ toIdle t ∧ t.rdB pg Off.SP.INTAKE_CTRL 31 = true) ∧
    (.sensorPort n ∈ s.power.failed → ∃ t, exec (.portEnable src n) s = .next t ∧ refused t ST.STATE) ∧
    ((∀ i < 4, (p.stream i).cur = none ∧ (p.stream i).rx = []) →
      ∃ t, exec (.portDisable src n) s = .next t ∧ (t.port n).st = .off ∧ (t.port n).proc = .none ∧ (t.port n).profile = none ∧
        t.rdB pg Off.SP.INTAKE_CTRL 31 = false ∧ (t.port n).act = p.act ∧ others t) ∧
    (p.st = .idle → ∀ c, s.nextCandidate n 0 = some c → ∃ t, exec (.probe src n) s = .next t ∧ (t.port n).st = .probing ∧
      (t.port n).proc = .idRead c ∧ t.regs = s.regs ∧ others t) ∧
    (p.st = .idle → s.nextCandidate n 0 = none → ∃ t, exec (.probe src n) s = .next t ∧ toIdle t) ∧
    (p.st ≠ .idle → ∃ t, exec (.probe src n) s = .next t ∧ refused t ST.STATE) ∧
    (p.st = .ready → s.partsBad n = false → ¬tooFast → ∃ t, exec (.portStart src n) s = .next t ∧ (t.port n).st = .stream ∧
      (t.port n).lastFs = s.rig.t ∧ (t.port n).act = p.act ∧ t.regs = s.regs ∧ others t) ∧
    (p.st = .ready → (s.partsBad n = true ∨ tooFast) → ∃ t, exec (.portStart src n) s = .next t ∧ refused t ST.CAPACITY) ∧
    (p.st ≠ .ready → ∃ t, exec (.portStart src n) s = .next t ∧ refused t ST.STATE) ∧
    (p.st = .stream → (∃ i < 4, (p.stream i).cur ≠ none) → ∃ t, exec (.portStop src n) s = .next t ∧
      t.port n = { p with st := .stopping } ∧ t.regs = s.regs ∧ others t) ∧
    (p.st ≠ .stream → ∃ t, exec (.portStop src n) s = .next t ∧ refused t ST.STATE) ∧
    (p.st = .ready → ∃ t, exec (.release src n) s = .next t ∧ toIdle t) ∧
    (p.st ≠ .ready → ∃ t, exec (.release src n) s = .next t ∧ refused t ST.STATE)

/-! ## Correction registers and tables, statistics registers (R36, R44, R45, R302, R333, R373) -/

/-- TBL_SWAP exchanges the two copies at once while the port does not stream, and else waits for a frame start; a correction-register write
goes to both copies, a TBL_DATA write to the standby copy alone and moves TBL_SEL on, and a read by the management controller moves it
on too. What R36, R44, R45 or R333 forbids is refused with BAD_DESC or STATE in LAST_CODE and leaves both copies as they are. -/
def Obligations.CorrectionTables : Prop :=
  ∀ (src : Agent) (n : Fin 24) (r : CorrReg) (v : W32) (s : State), s.units = true →
    let p := s.port n
    let pg := Pg.SP n
    let k := CorrReg.idx r
    let tbl := s.rdF pg Off.SP.TBL_SEL 31 30
    let i := s.rdF pg Off.SP.TBL_SEL 13 0
    let last := if tbl = 0 then 64 else if tbl = 1 then 12739 else 8191
    let held : Prop := s.mgmt.cfg ≠ .idle ∧ n.val ∈ s.mgmt.covered
    let flows : Prop := p.st = .stream ∨ p.st = .stopping
    let fits := p.stby.fits (s.rdF pg Off.SP.FRAME_GEOM 13 0) (s.rdF pg Off.SP.FRAME_GEOM 29 16)
    let refused (t : State) (code : Nat) : Prop := t.rdF pg Off.SP.PORT_STATE 23 16 = code ∧ OnlyFault s t pg 3 [(pg, Off.SP.PORT_STATE)]
    let onlyPort (t : State) (x : Port) : Prop := t.port n = x ∧ t = { s with ports := t.ports } ∧ ∀ m, m ≠ n.val → t.port m = s.port m
    (¬held → ¬flows → fits = true → ∃ t, exec (.tblSwap src n) s = .next t ∧
      onlyPort t { p with act := p.stby, stby := p.act, swapPend := false }) ∧
    (¬held → flows → fits = true → ∃ t, exec (.tblSwap src n) s = .next t ∧ onlyPort t { p with swapPend := true }) ∧
    (¬held → p.swapPend = false → fits = false → ∃ t, exec (.tblSwap src n) s = .next t ∧ t.rdF pg Off.SP.PORT_STATE 23 16 = ST.BAD_DESC ∧
      t.rdB pg Off.HDR.FAULT_SUM 3 = true ∧ t.port n = p) ∧
    (held → ∃ t, exec (.tblSwap src n) s = .next t ∧ refused t ST.STATE) ∧
    (spBad n (corrOffs.getD k 0) v = true → ∃ t, exec (.correctionRegWrite src n r v) s = .next t ∧ refused t ST.BAD_DESC) ∧
    (spBad n (corrOffs.getD k 0) v = false → (p.st ≠ .off ∧ p.st ≠ .idle ∧ p.st ≠ .ready ∨ p.swapPend = true ∨ held) →
      ∃ t, exec (.correctionRegWrite src n r v) s = .next t ∧ refused t ST.STATE) ∧
    (spBad n (corrOffs.getD k 0) v = false → (p.st = .off ∨ p.st = .idle ∨ p.st = .ready) → p.swapPend = false → ¬held →
      ∃ t x, exec (.correctionRegWrite src n r v) s = .next t ∧ onlyPort t { p with act := p.act.setReg k x, stby := p.stby.setReg k x } ∧
        match r with
        | .cfa => x.toNat = v.toNat % 4
        | .black _ => x.toNat = v.toNat % 2 ^ 20
        | .linCtrl => x = v &&& 0x8000000F
        | .gainCtrl => x = v &&& 0xFF7F0F0F
        | .defCtrl => x = v &&& 0x80003FFF
        | .vstCtrl => x = v &&& 0x8000000F
        | .vstA _ => x.toNat = v.toNat % 2 ^ 16
        | .vstB _ => x = v) ∧
    (p.swapPend = true ∨ held → ∃ t, exec (.tblDataWrite src n v) s = .next t ∧ refused t ST.STATE) ∧
    (p.swapPend = false → ¬held → tbl < 3 → i ≤ last → ∃ t, exec (.tblDataWrite src n v) s = .next t ∧ (t.port n).act = p.act ∧
      ((t.port n).stby.entry tbl i).toNat = v.toNat % (if tbl = 0 then 2 ^ 24 else if tbl = 1 then 2 ^ 16 else 2 ^ 28) ∧
      (∀ b j, j < 16384 → (b, j) ≠ (tbl, i) → (t.port n).stby.entry b j = p.stby.entry b j) ∧ (t.port n).stby.regs = p.stby.regs ∧
      t.rdF pg Off.SP.TBL_SEL 13 0 = (if i = last then 0 else i + 1) ∧ SameRegsBut s t [(pg, Off.SP.TBL_SEL)] ∧ SameBytes s t) ∧
    (i ≤ last → ∃ t, exec (.tblDataRead n) s = .next t ∧ t.out = [p.stby.entry tbl i] ∧
      t.rdF pg Off.SP.TBL_SEL 13 0 = (if i = last then 0 else i + 1) ∧ OnlyRegs { s with out := t.out } t [(pg, Off.SP.TBL_SEL)])

/-- Statistics registers of the stream that STAT_SEL names: refused with STATE while its port streams; a write that sets EN is refused with
BAD_DESC where the ring is not aligned to 16 KiB, has no depth, has a bin shift above 16 or lies outside LPDDR5X and host window SRAM. -/
def Obligations.StatisticsRegisters : Prop :=
  ∀ (src : Agent) (r : StatReg) (v : W32) (s : State),
    let k := s.rdF Pg.STAT Off.STAT.STAT_SEL 6 0
    let off := StatReg.off r
    let base := s.rdF Pg.STAT Off.STAT.RING_BASE_HI 6 0 k * 2 ^ 32 + (s.rd Pg.STAT Off.STAT.RING_BASE_LO k).toNat
    let depth := s.rdF Pg.STAT Off.STAT.RING_DEPTH 11 0 k
    let inOne : Prop := s.regionOf base (0x4000 * depth) = some .lpddr ∨ (0x5800000000 ≤ base ∧ base + 0x4000 * depth ≤ 0x5802000000)
    let good : Prop := base % 0x4000 = 0 ∧ depth ≠ 0 ∧ fld v 20 16 ≤ 16 ∧ inOne
    let sets : Prop := r = .cfg ∧ v.getLsbD 31 = true
    let flows : Prop := (s.port (k / 4)).st = .stream ∨ (s.port (k / 4)).st = .stopping
    let refused (t : State) (code : Nat) : Prop := t.rd Pg.STAT Off.STAT.STAT_CODE = BitVec.ofNat 32 (code * 2 ^ 24 + k) ∧
      OnlyRefused s t code [(Pg.STAT, Off.STAT.STAT_CODE)]
    (sets → ¬good → ∃ t, exec (.statCfgWrite src r v) s = .next t ∧ refused t ST.BAD_DESC) ∧
    (¬(sets ∧ ¬good) → flows → ∃ t, exec (.statCfgWrite src r v) s = .next t ∧ refused t ST.STATE) ∧
    (¬(sets ∧ ¬good) → ¬flows → ∃ t, exec (.statCfgWrite src r v) s = .next t ∧ OnlyRegs s t [(Pg.STAT, off)] ∧
      (r = .baseLo → t.rd Pg.STAT off k = v) ∧ (r = .depth → t.rdF Pg.STAT off 11 0 k = fld v 11 0) ∧
      (r = .baseHi → t.rdF Pg.STAT off 6 0 k = fld v 6 0) ∧ (r = .cfg → t.rdB Pg.STAT off 31 k = v.getLsbD 31 ∧
      t.rdF Pg.STAT off 20 16 k = fld v 20 16))

/-! ## Sensor ports: probing, training, scripts, losing the sensor (R29, R30, R32, R33) -/

/-- The steps of probing and training. The ID of a candidate that does not match leads to the next candidate, or to IDLE with none left;
one that does, to the assignment of an address. A script goes on at its next step when its wait has ended, and a mode that has not trained
by its deadline goes on to its stop script. A Hot-Join probes every IDLE port of its bus. Said for a bus with nothing else waiting and
steps that write the bus. -/
def Obligations.PortProcedures : Prop :=
  ∀ (n : Fin 24) (data : W32) (s : State), s.units = true → (s.port n).swapPend = false →
    let p := s.port n
    let b : Fin 12 := ⟨n.val / 2, by omega⟩
    let bus := s.bus b
    let alone : Prop := bus.cur = some (.proc n) ∧ bus.waiting = [] ∧ bus.exps = []
    let writes (x : Profile) (i : Nat) : Prop := (x.steps[i]?.map (·.op)) = some 1
    let others (t : State) : Prop := (∀ m, m ≠ n.val → t.port m = s.port m) ∧ t.cores = s.cores ∧ SameBytes s t
    (alone → ∀ c x, p.proc = .idRead c → s.candidate n c = some x →
      (data &&& x.idMask = x.idValue &&& x.idMask → x.i2c = false → ∃ t, exec (.i3cTransferDone b true data) s = .next t ∧
        (t.port n).profile = some x ∧ (t.port n).proc = .assign c (if x.provId.isSome then .entdaa else .setdasa) ∧ (t.port n).st = p.st ∧ (t.bus b).cur = some (.proc n) ∧ others t) ∧
      (∀ ack c', (ack = false ∨ data &&& x.idMask ≠ x.idValue &&& x.idMask) → s.nextCandidate n (c + 1) = some c' →
        ∃ t, exec (.i3cTransferDone b ack data) s = .next t ∧ (t.port n).proc = .idRead c' ∧ (t.port n).st = p.st ∧
          (t.bus b).cur = some (.proc n) ∧ others t) ∧
      (∀ ack, (ack = false ∨ data &&& x.idMask ≠ x.idValue &&& x.idMask) → s.nextCandidate n (c + 1) = none →
        ∃ t, exec (.i3cTransferDone b ack data) s = .next t ∧ (t.port n).st = .idle ∧ (t.port n).proc = .none ∧ (t.bus b).cur = none ∧
          others t)) ∧
    (bus.cur = none → exec (.i3cTransferDone b true data) s = .next s) ∧
    (∀ c k i e x, p.proc = .script c k i (some e) → p.profile = some x → writes x (i + 1) →
      (e ≤ s.rig.t → ∃ t, exec (.scriptWaitExpiry n s.rig.t) s = .next t ∧ (t.port n).proc = .script c k (i + 1) none ∧
        (t.port n).st = p.st ∧ others t) ∧
      (s.rig.t < e → exec (.scriptWaitExpiry n s.rig.t) s = .next s)) ∧
    (∀ c m d k x md, p.proc = .train c m d k → p.profile = some x → x.modes[m]? = some md → writes x md.stop →
      (d ≤ s.rig.t → ∃ t, exec (.trainingTimeout n s.rig.t) s = .next t ∧ (t.port n).proc = .script c (.trainStop m false) md.stop none ∧
        (t.port n).st = p.st ∧ others t) ∧
      (s.rig.t < d → exec (.trainingTimeout n s.rig.t) s = .next s)) ∧
    ((∀ m : Fin 24, m.val / 2 = b.val → (s.port m).st = .idle → (s.port m).swapPend = false ∧ (s.nextCandidate m 0).isSome = true) →
      ∃ t, exec (.hotJoin b) s = .next t ∧ (∀ m : Fin 24, m.val / 2 = b.val → (s.port m).st = .idle → (t.port m).st = .probing) ∧
        (∀ m, (m / 2 ≠ b.val ∨ (s.port m).st ≠ .idle) → t.port m = s.port m) ∧ t.regs = s.regs ∧ SameBytes s t) ∧
    (∃ t, exec (.inBandInterrupt n data) s = .next t ∧ t.rd (Pg.SP n) Off.SP.IBI = data ∧ (t.bus b).ibiFrom = some n.val ∧
      OnlyRegs { s with buses := t.buses } t [(Pg.SP n, Off.SP.IBI)])

/-- A port that streams or stops goes to LOST, with bit 0 of its FAULT_SUM set, when no frame start has come within LOSS_TIMEOUT, when lane
lock is gone, or when an exposure write is not acknowledged twice in a row; a write that is acknowledged puts its tag in force. The answer to a
transfer that the port has given up changes nothing of the port. A LOST port is IDLE once no work item waits on it. Said for a port with no frame and no swap in progress. -/
def Obligations.LosingASensor : Prop :=
  ∀ (n : Fin 24) (s : State) (r : ExpReq), s.units = true → (s.port n).swapPend = false →
    (∀ i < 4, ((s.port n).stream i).cur = none ∧ ((s.port n).stream i).rx = []) →
    let p := s.port n
    let pg := Pg.SP n
    let flows : Prop := p.st = .stream ∨ p.st = .stopping
    let limit := (s.rd pg Off.SP.LOSS_TIMEOUT).toNat
    let lost (t : State) : Prop := (t.port n).st = .lost ∧ (t.port n).proc = .none ∧ t.rdB pg Off.HDR.FAULT_SUM 0 = true ∧
      (∀ m, m ≠ n.val → t.port m = s.port m) ∧ t.cores = s.cores ∧ SameBytes s t
    let bus := s.bus (n.val / 2)
    (flows → limit ≠ 0 → s.rig.t.toNat > p.lastFs.toNat + limit → ∃ t, exec (.lossTimeoutExpiry n s.rig.t) s = .next t ∧ lost t) ∧
    (¬flows ∨ limit = 0 ∨ s.rig.t.toNat ≤ p.lastFs.toNat + limit → exec (.lossTimeoutExpiry n s.rig.t) s = .next s) ∧
    (flows → ∃ t, exec (.laneLockLost n) s = .next t ∧ lost t) ∧
    (¬flows → exec (.laneLockLost n) s = .next s) ∧
    (p.st = .lost → (∀ c ∈ s.claims, c.port ≠ n.val) → ∃ t, exec (.lostToIdle n) s = .next t ∧ (t.port n).st = .idle ∧
      (t.port n).profile = none ∧ (∀ m, m ≠ n.val → t.port m = s.port m) ∧ t.cores = s.cores ∧ SameBytes s t) ∧
    ((p.st ≠ .lost ∨ ∃ c ∈ s.claims, c.port = n.val) → exec (.lostToIdle n) s = .next s) ∧
    (bus.cur = some (.exposure n) → bus.exps = [] → p.expOut = [(r, 0)] →
      (∃ t, exec (.exposureWriteDone n true) s = .next t ∧ (t.port n).expOut = [] ∧ (t.port n).tagNow = r.tag ∧ (t.port n).st = p.st ∧
        t.rdF Pg.LCH Off.LCH.EXP_STATE 15 0 n = r.tag.toNat ∧ SameRegsBut s t [(Pg.LCH, Off.LCH.EXP_STATE)] ∧ SameBytes s t) ∧
      (∃ t, exec (.exposureWriteDone n false) s = .next t ∧ (t.port n).expOut = [(r, 1)] ∧ (t.bus (n.val / 2)).cur = some (.exposure n) ∧
        (t.port n).st = p.st ∧ t.regs = s.regs ∧ SameBytes s t)) ∧
    (bus.cur = some (.exposure n) → flows → p.expOut = [(r, 1)] → ∃ t, exec (.exposureWriteDone n false) s = .next t ∧ lost t ∧
      (t.port n).expOut = []) ∧
    (bus.cur = some (.stale n) → bus.exps = [] → bus.waiting = [] → ∀ ack, ∃ t, exec (.exposureWriteDone n ack) s = .next t ∧
      t = { s with buses := t.buses } ∧ (t.bus (n.val / 2)).cur = none) ∧
    (bus.cur ≠ some (.exposure n) → bus.cur ≠ some (.stale n) → ∀ ack, exec (.exposureWriteDone n ack) s = .next s)

/-! ## Frames and lines (R27, R28, R35, R37 to R42, R61, R64 to R67) -/

/-- A frame start in STREAM: the frame takes the next frame number, which goes on by one, and is admitted where its stream has ADMIT.FREE free
line slots and it is not shed; one that is not is counted in DROP_CNT, sets bit 1 of FAULT_SUM, and ends the items that claim its lines
with DROPPED_FRAME. A pending table swap takes effect first. Said for a port with one enabled stream and no frame in progress. -/
def Obligations.FrameStart : Prop :=
  ∀ (n : Fin 24) (i : Fin 4) (vc : BitVec 5) (fn : BitVec 16) (s : State), s.units = true →
    (s.port n).proc = .none → s.enabled n = [i.val] → fld (s.streamReg n i) 30 26 = vc.toNat →
    let p := s.port n
    let num := p.next
    (p.st = .stream → (p.stream i).cur = none →
      let free := s.streamLines n i - (p.stream i).held.length
      let admits : Prop := s.rdF (Pg.SP n) Off.SP.ADMIT 7 0 ≤ free ∧ s.sheds n = false
      let started (t : State) (ok : Bool) (cause : Nat) : Prop := (t.port n).next = num + 1 ∧ (t.port n).lastFs = s.rig.t ∧
        ((t.port n).stream i).cur = some num ∧ ((t.port n).stream i).last = some num ∧
        ∃ f, ((t.port n).stream i).frame num = some f ∧ f.admitted = ok ∧ f.cause = cause ∧ f.lines = 0 ∧ f.csi = fn ∧ f.fsTime = s.rig.t ∧
          f.cut = none ∧ f.ended = false
      (p.swapPend = false → admits → ∃ t, exec (.frameStartPacket n vc fn .ok) s = .next t ∧ started t true 0 ∧ (t.port n).act = p.act ∧
        Counted s t (Pg.SP n) Off.SP.FRAME_CNT ∧ SameRegsBut s t [(Pg.SP n, Off.SP.FRAME_CNT)] ∧ t.cores = s.cores ∧ SameBytes s t) ∧
      (p.swapPend = true → p.stby.fits (s.imgWidth n) (s.imgHeight n) = true → admits → ∃ t, exec (.frameStartPacket n vc fn .ok) s = .next t ∧
        started t true 0 ∧ (t.port n).act = p.stby ∧ (t.port n).stby = p.act ∧ (t.port n).swapPend = false) ∧
      (p.swapPend = false → free < s.rdF (Pg.SP n) Off.SP.ADMIT 7 0 → s.jobs = [] →
        ∃ t, exec (.frameStartPacket n vc fn .ok) s = .next t ∧
        ((∀ c : Fin 32, (s.core c).items = []) → started t false 0 ∧ Counted s t (Pg.SP n) Off.SP.DROP_CNT ∧
          t.rdB (Pg.SP n) Off.HDR.FAULT_SUM 1 = true ∧ SameBytes s t) ∧
        (∀ (c : Fin 32) it cl, (∀ c' : Fin 32, c' ≠ c → (s.core c').items = []) → (s.core c).items = [it] → it.claim = some cl → it.fail = none →
          cl.port = n.val → cl.stream = i.val → cl.frame = num → cl.first ≤ cl.last →
          ((t.core c).item it.key).bind (·.fail) = some (ST.DROPPED_FRAME, n.val * 2 ^ 19 + i.val * 2 ^ 14 + 0x3FFF)))) ∧
    (p.st ≠ .stream → p.st ≠ .stopping → exec (.frameStartPacket n vc fn .ok) s = .next s)

/-- The frame in progress ends at its frame end: complete where every line was received, and else cut at the first missing line as a format
error. A packet whose header is uncorrectable cuts it there too. Said for a frame with statistics and a device without jobs. -/
def Obligations.FrameEnd : Prop :=
  ∀ (n : Fin 24) (i : Fin 4) (vc : BitVec 5) (s : State) (f : Frame), s.units = true →
    (s.port n).st = .stream → (s.port n).proc = .none → s.enabled n = [i.val] → fld (s.streamReg n i) 30 26 = vc.toNat → s.jobs = [] →
    (∀ c : Fin 32, (s.core c).items = []) →
    let st := (s.port n).stream i
    st.cur = some f.num → st.frame f.num = some f → f.statEn = true → f.recorded = false → f.admitted = true → f.cut = none →
    let got := f.lines + f.lost + (st.rx.filter fun l => l.frame == f.num).length
    let height := s.rdF (Pg.SP n) Off.SP.FRAME_GEOM 29 16
    (got = height → ∃ t, exec (.frameEndPacket n vc .ok) s = .next t ∧ ((t.port n).stream i).cur = none ∧
      ((t.port n).stream i).frame f.num = some { f with ended := true, feTime := s.rig.t } ∧ t.regs = s.regs ∧ SameBytes s t) ∧
    (got < height → ∃ t, exec (.frameEndPacket n vc .ok) s = .next t ∧ ((t.port n).stream i).cur = none ∧
      ((t.port n).stream i).frame f.num = some { f with cut := some (got, 4), ended := true, feTime := s.rig.t } ∧
      Counted s t (Pg.SP n) Off.SP.DROP_CNT ∧ t.rdB (Pg.SP n) Off.HDR.FAULT_SUM 1 = true ∧ SameBytes s t) ∧
    (∃ t, exec (.frameEndPacket n vc .uncorrectable) s = .next t ∧ ((t.port n).stream i).cur = some f.num ∧
      ((t.port n).stream i).frame f.num = some { f with cut := some (got, 4), feTime := s.rig.t } ∧
      Counted s t (Pg.SP n) Off.SP.DROP_CNT ∧ SameBytes s t)

/-- A line packet goes into the receiver's holding lines, two at most; a line of a wrong length, one past the last, a third one, or one with a
payload CRC error while CRC_KEEP is 0 cuts its frame, and so does a packet of an unsupported feature (RAW24: type 0x27, the model's reading,
log entry 66). A packet of no enabled stream, or of another data type, is discarded and counted. Line start and line end packets are ignored. Embedded data enters the frame's record up to 768 bytes. Said for a device without jobs. -/
def Obligations.LinePackets : Prop :=
  ∀ (n : Fin 24) (i : Fin 4) (vc : BitVec 5) (dt : BitVec 6) (px : List (BitVec 20)) (bs : List Byte) (s : State) (f : Frame), s.units = true →
    (s.port n).st = .stream → (s.port n).proc = .none → s.jobs = [] → (∀ c : Fin 32, (s.core c).items = []) →
    let p := s.port n
    let st := p.stream i
    let y := f.lines + f.lost + (st.rx.filter fun l => l.frame == f.num).length
    let keep := s.rdB (Pg.SP n) Off.SP.INTAKE_CTRL 29
    let mine : Prop := dt ≠ 0x27 ∧ s.streamOf n vc.toNat dt.toNat = some i.val ∧ st.cur = some f.num ∧ st.frame f.num = some f ∧ f.admitted = true ∧ f.cut = none
    let fits : Prop := y < s.rdF (Pg.SP n) Off.SP.FRAME_GEOM 29 16 ∧ px.length = s.rdF (Pg.SP n) Off.SP.FRAME_GEOM 13 0
    let cutAt (t : State) (cause : Nat) : Prop := ((t.port n).stream i).frame f.num = some { f with cut := some (y, cause), feTime := s.rig.t } ∧
      ((t.port n).stream i).rx = st.rx ∧ Counted s t (Pg.SP n) Off.SP.DROP_CNT ∧ t.rdB (Pg.SP n) Off.HDR.FAULT_SUM 1 = true ∧ SameBytes s t
    let current : Prop := s.onVc n vc.toNat = [i.val] ∧ st.cur = some f.num ∧ st.frame f.num = some f ∧ f.admitted = true ∧ f.cut = none
    let discards (t : State) : Prop := t.port n = { p with discarded := p.discarded + 1 } ∧ t.regs = s.regs ∧ t.cores = s.cores ∧ SameBytes s t
    (mine → fits → st.rx.length < 2 → ∀ ok, (ok = true ∨ keep = true) → ∃ t, exec (.linePacket n vc dt px ok .ok s.rig.t) s = .next t ∧
      ((t.port n).stream i).rx = st.rx ++ [{ frame := f.num, line := y, pixels := px, crcOk := ok }] ∧ ((t.port n).stream i).frames = st.frames ∧
      (ok = true → t.regs = s.regs) ∧ (ok = false → Counted s t (Pg.SP n) Off.SP.CRC_CNT) ∧ t.cores = s.cores ∧ SameBytes s t) ∧
    (mine → fits → keep = false → ∃ t, exec (.linePacket n vc dt px false .ok s.rig.t) s = .next t ∧ cutAt t 3 ∧
      Counted s t (Pg.SP n) Off.SP.CRC_CNT) ∧
    (mine → ¬fits → ∃ t, exec (.linePacket n vc dt px true .ok s.rig.t) s = .next t ∧ cutAt t 4) ∧
    (mine → fits → 2 ≤ st.rx.length → ∃ t, exec (.linePacket n vc dt px true .ok s.rig.t) s = .next t ∧ cutAt t 4) ∧
    (current → dt = 0x27 → ∃ t, exec (.linePacket n vc dt px true .ok s.rig.t) s = .next t ∧ cutAt t 4) ∧
    (current → ∃ t, exec (.discardedPacket n ⟨vc, .ok⟩ ⟨dt, true⟩) s = .next t ∧ cutAt t 4 ∧ (t.port n).discarded = p.discarded + 1) ∧
    (dt ≠ 0x27 → s.streamOf n vc.toNat dt.toNat = none → ∃ t, exec (.linePacket n vc dt px true .ok s.rig.t) s = .next t ∧ discards t) ∧
    (dt ≠ 0x27 → ∃ t, exec (.discardedPacket n ⟨vc, .ok⟩ ⟨dt, false⟩) s = .next t ∧ discards t) ∧
    exec (.lineShortPacket n ⟨vc, .ok⟩) s = .next s ∧
    (s.onVc n vc.toNat = [i.val] → st.cur = some f.num → st.frame f.num = some f → f.cut = none →
      ∃ t, exec (.embeddedDataPacket n ⟨vc, .ok⟩ bs) s = .next t ∧ ((t.port n).stream i).frame f.num =
        some { f with stats := { f.stats with emb := (f.stats.emb ++ bs).take 768, embTrunc := f.stats.embTrunc || decide (768 < f.stats.emb.length + bs.length) } } ∧
        t.regs = s.regs ∧ t.cores = s.cores ∧ SameBytes s t)

/-- The intake takes the oldest held line of a stream: corrected and packed, it fills the lowest free slot of its stream, and no other byte
changes; with no free slot its frame is cut there. A defect pixel's code is all ones, and no other pixel's is. Said for a line that an
item claims, on a device without jobs held back. -/
def Obligations.LineIntake : Prop :=
  ∀ (n : Fin 24) (i : Fin 4) (s : State) (f : Frame) (l : RxLine) (rest : List RxLine), s.units = true →
    let p := s.port n
    let st := p.stream i
    st.rx = l :: rest → l.frame = f.num → st.frame f.num = some f → f.cut = none → f.admitted = true →
    let w := s.hopWidth n i
    let codes := lineCodes p.act w l.line l.pixels
    let bs := packCodes w codes
    (∀ slot, s.freeSlot n i = some slot → s.claims.any (fun c => c.covers n i f.num l.line) = true →
      let a := s.slotAddr n i slot
      ∃ t, exec (.lineIntake n i) s = .next t ∧ (∀ j < bs.length, t.byte (a + j) = bs.getD j 0) ∧
        (∀ b, ¬(a ≤ b ∧ b < a + bs.length) → t.byte b = s.byte b) ∧ ((t.port n).stream i).rx = rest ∧
        { frame := f.num, line := l.line, slot := slot } ∈ ((t.port n).stream i).held ∧
        (((t.port n).stream i).frame f.num).map (·.lines) = some (f.lines + 1)) ∧
    (s.freeSlot n i = none → s.jobs = [] → (∀ c : Fin 32, (s.core c).items = []) → ∃ t, exec (.lineIntake n i) s = .next t ∧
      ((t.port n).stream i).frame f.num = some { f with cut := some (l.line, 1), feTime := s.rig.t } ∧ SameBytes s t ∧
      Counted s t (Pg.SP n) Off.SP.DROP_CNT) ∧
    codes.length = l.pixels.length ∧
    (∀ x < l.pixels.length, codes.getD x 0 < 2 ^ w ∧ (codes.getD x 0 = 2 ^ w - 1 ↔ x ∈ defectCols p.act l.line))

/-- The record of a frame that has ended is written to its stream's ring, its sequence number first in the record, and the sequence number
goes on; the tally that STAT_CFG names is added 1. No byte outside the record's 16 KiB changes. An FSYNC pulse ends once its width has
passed. -/
def Obligations.StatisticsRecord : Prop :=
  ∀ (n : Fin 24) (i : Fin 4) (s : State) (f : Frame) (e : W64), s.units = true → s.ue = [] →
    let st := (s.port n).stream i
    let k := 4 * n.val + i.val
    let cfg := s.rd Pg.STAT Off.STAT.STAT_CFG k
    let seq := s.rd Pg.STAT Off.STAT.STAT_SEQ k
    let a := s.statBase k + 0x4000 * (seq.toNat % s.statDepth k)
    (Stream.due st = some f → cfg.getLsbD 31 = true → s.statDepth k ≠ 0 → s.ueWords a 0x4000 = [] → f.stats.emb.length ≤ 768 →
      (cfg.getLsbD 30 = true → s.tallyRefused .stat (fld cfg 13 0) = false) →
      ∃ t, exec (.statRecordWrite n i) s = .next t ∧ (∀ j < 4, t.byte (a + j) = (leBytes 4 seq.toNat).getD j 0) ∧
        (∀ j < 4, t.byte (a + 8 + j) = (leBytes 4 f.num.toNat).getD j 0) ∧
        (∀ b, ¬(a ≤ b ∧ b < a + 0x4000) → t.byte b = s.byte b) ∧ t.rd Pg.STAT Off.STAT.STAT_SEQ k = seq + 1 ∧
        Counted s t Pg.STAT Off.STAT.REC_CNT ∧
        (if cfg.getLsbD 30 then t.tally (fld cfg 13 0) = s.tally (fld cfg 13 0) + 1 else t.tval = s.tval)) ∧
    (Stream.due st = none → exec (.statRecordWrite n i) s = .next s) ∧
    ((s.port n).fsyncEnd = some e →
      (e ≤ s.rig.t → ∃ t, exec (.fsyncPulseEnd n s.rig.t) s = .next t ∧ t.port n = { s.port n with fsyncEnd := none } ∧
        t.regs = s.regs ∧ t.cores = s.cores ∧ SameBytes s t ∧ t.fsyncPin n = s.rdB (Pg.SP n) Off.SP.FSYNC_CTRL 30) ∧
      (s.rig.t < e → exec (.fsyncPulseEnd n s.rig.t) s = .next s))

/-! ## Rig time (R48 to R50, R52 to R54) -/

/-- With no command waiting a step is one period of the rig reference (R48; that a step with an empty queue is a period is the model's
choice, log entry 12): the count advances by one, and stands while it does not count yet or is held. Rig time: the reference lock starts
the count from FREE or HOLDOVER; without a reference edge SYNC and SLEW go to HOLDOVER, where the count goes on; HOLD_MAX ms later rig
time is FREE and bit 1 of LCH's FAULT_SUM is set. An armed entry that fell due while the table could not fire is late (R53). TIME_LOAD is taken on the root while the table does not fire, and refused otherwise; the
value becomes rig time at the next period boundary, never setting it back. A read of RIG_TIME_LO captures the high word. -/
def Obligations.RigTimeStates : Prop :=
  (∀ s : State, s.pending = [] → ∃ t, step s = .next t ∧ t = { s with rig := t.rig } ∧
    (s.rig.counting = true → s.rig.load = none → s.rig.hold = none → s.rig.st ≠ .slew → t.rig = { s.rig with t := s.rig.t + 1 }) ∧
    (s.rig.counting = true → s.rig.load = none → ∀ h, s.rig.hold = some h → s.rig.t > h + 1 → t.rig.t = s.rig.t ∧ t.rig.hold = some (h + 1)) ∧
    (s.rig.counting = false → t = s)) ∧
  (∀ (src : Agent) (s : State), s.units = true →
    let r := s.rig
    let only (t : State) (r' : Rig) : Prop := t = { s with rig := r' }
    let again (x : LEntry) : LEntry := if x.armed = true ∧ r.stopAt < x.time ∧ x.time ≤ r.t then { x with lateDue := true } else x
    let root := s.rdB Pg.LCH Off.LCH.TIME_CTRL 31
    let limit := s.rdF Pg.LCH Off.LCH.TIME_CTRL 7 0 * 100000
    let load := s.rd Pg.LCH Off.LCH.TIME_LOAD_HI ++ s.rd Pg.LCH Off.LCH.TIME_LOAD_LO
    (r.st = .free → root = false → ∃ t, exec .referenceLock s = .next t ∧ only t { r with st := .locking, counting := true }) ∧
    (r.st = .free → root = true → ∃ t, exec .referenceLock s = .next t ∧
      t = { s with rig := { r with st := .sync, counting := true }, launch := { s.launch with entries := t.launch.entries } } ∧
      ∀ e, t.entry e = again (s.entry e)) ∧
    (r.st = .holdover → root = false → ∃ t, exec .referenceLock s = .next t ∧
      only t { r with st := .locking, counting := true, stopAt := r.t }) ∧
    (r.st = .holdover → root = true → ∃ t, exec .referenceLock s = .next t ∧
      t = { s with rig := { r with st := .sync, counting := true, stopAt := r.t }, launch := { s.launch with entries := t.launch.entries } } ∧
      ∀ e, t.entry e = s.entry e) ∧
    ((r.st = .sync ∨ r.st = .slew) → ∃ t, exec .referenceLost s = .next t ∧ only t { r with st := .holdover, holdStart := r.t, slew := 0 }) ∧
    (r.st ≠ .sync → r.st ≠ .slew → exec .referenceLost s = .next s) ∧
    (r.st = .holdover → r.holdStart.toNat + limit ≤ r.t.toNat → ∃ t, exec (.holdoverExpiry r.t) s = .next t ∧
      OnlyFault { s with rig := { r with st := .free, stopAt := r.t } } t Pg.LCH 1 []) ∧
    ((r.st ≠ .holdover ∨ r.t.toNat < r.holdStart.toNat + limit) → exec (.holdoverExpiry r.t) s = .next s) ∧
    (s.rdB Pg.LCH Off.LCH.LCH_CTRL 31 = false → root = true → ∃ t, exec .timeLoad s = .next t ∧ only t { r with load := some load }) ∧
    (s.rdB Pg.LCH Off.LCH.LCH_CTRL 31 = true ∨ root = false → ∃ t, exec .timeLoad s = .next t ∧
      t = { s with regs := t.regs, log := t.log } ∧ SameRegsBut s t [(Pg.LOG, Off.LOG.LOST_CNT), (Pg.LOG, Off.LOG.LOSTREC_CNT)]) ∧
    (s.pending = [] → r.counting = true → r.hold = none → r.st ≠ .slew → ∀ v, r.load = some v →
      ∃ t, step s = .next t ∧ t.rig.load = none ∧ (r.t + 1 ≤ v → t.rig.t = v ∧ t.rig.hold = none) ∧
        (v < r.t + 1 → t.rig.t = r.t + 1 ∧ t.rig.hold = some v)) ∧
    (∃ t lo, exec (.rigTimeLoRead src) s = .next t ∧ t.out = [lo] ∧ lo.toNat = r.t.toNat % 2 ^ 32 ∧ t.rig = r ∧
      match src with
      | .host ch => (t.chan ch).capHi.toNat = r.t.toNat / 2 ^ 32 ∧ t.regs = s.regs ∧ ∀ c, c ≠ ch.val → t.chan c = s.chan c
      | .mc => (t.rd Pg.LCH Off.LCH.RIG_TIME_HI).toNat = r.t.toNat / 2 ^ 32 ∧ t.chans = s.chans ∧
        SameRegsBut s t [(Pg.LCH, Off.LCH.RIG_TIME_HI)]) ∧
    (r.st = .slew → r.hold = none → ∃ t, exec .slewOffsetRemoved s = .next t ∧ only t { r with st := .sync, slew := 0, slewDiv := 0 }) ∧
    (∀ h, r.hold = some h → ∃ t, exec .rigTimeHoldEnd s = .next t ∧ t = { s with rig := t.rig } ∧ t.rig.t = r.t ∧ t.rig.hold = none) ∧
    (r.hold = none → exec .rigTimeHoldEnd s = .next s))

/-! ## The launch table (R55 to R60, R62, R373) -/

/-- ENT_CMD, DESC_DATA and EXP_CMD. READ copies the selected entry into the staging registers, WRITE the staging registers into an entry that
is not armed, ARM and DISARM its armed bit; an action above 9, a fraction of 1 or more, or an armed entry refuses a WRITE. A word of the
descriptor store is stored, or read, and DESC_SEL moves on. PUSH queues a request for a frame, replaces the one for that frame, and is
refused for a frame not after the last one written and with eight others queued. -/
def Obligations.LaunchTableCommands : Prop :=
  ∀ (src : Agent) (v : W32) (s : State), s.units = true →
    let lch := s.rd Pg.LCH
    let e := s.rdF Pg.LCH Off.LCH.ENT_IDX 7 0
    let x := s.entry e
    let code (t : State) (c : Nat) : Prop := t.rdF Pg.LCH Off.LCH.ENT_CMD 23 16 = c
    let act := lch Off.LCH.ENT_ACT
    let rep := lch Off.LCH.ENT_REPEAT
    let refused (t : State) (c : Nat) : Prop := code t c ∧ OnlyRefused s t c [(Pg.LCH, Off.LCH.ENT_CMD)]
    let late : Prop := s.rig.st ≠ .sync ∧ s.rig.st ≠ .slew ∧ s.rig.st ≠ .holdover ∧ x.time ≤ s.rig.t
    let armed (t : State) (b : Bool) : Prop := code t ST.OK ∧ (x.armed = b → t.entry e = x) ∧
      (x.armed ≠ b → t.entry e = { x with armed := b, begun := false, lateDue := b && decide late }) ∧ (∀ i, i ≠ e → t.entry i = s.entry i) ∧
      OnlyRegs { s with launch := t.launch } t [(Pg.LCH, Off.LCH.ENT_CMD)] ∧ t.launch.desc = s.launch.desc
    let w := s.rdF Pg.LCH Off.LCH.DESC_SEL 11 0
    let n := s.rdF Pg.LCH Off.LCH.EXP_SEL 4 0
    let f := s.rd Pg.LCH Off.LCH.EXP_FRAME n
    let push (t : State) (c : Nat) : Prop := exec .expPush s = .next t ∧ t.rdF Pg.LCH Off.LCH.EXP_CMD 23 16 n = c ∧
      OnlyRefused { s with ports := t.ports } t c [(Pg.LCH, Off.LCH.EXP_CMD)] ∧ ∀ m, m ≠ n → t.port m = s.port m
    let p := s.port n
    let early : Prop := ∃ l, p.expLast = some l ∧ serialLe f l = true
    let isNew (q : ExpReq) : Prop := q.frame = f ∧ q.tag.toNat = (s.rd Pg.LCH Off.LCH.EXP_TAG n).toNat % 2 ^ 16 ∧
      q.vals = [s.rd Pg.LCH Off.LCH.EXP_VAL0 n, s.rd Pg.LCH (Off.LCH.EXP_VAL0 + 4) n, s.rd Pg.LCH (Off.LCH.EXP_VAL0 + 8) n,
        s.rd Pg.LCH (Off.LCH.EXP_VAL0 + 12) n]
    (∃ t, exec .entRead s = .next t ∧ code t ST.OK ∧ t.rd Pg.LCH Off.LCH.ENT_TIME_HI ++ t.rd Pg.LCH Off.LCH.ENT_TIME_LO = x.time ∧
      t.rd Pg.LCH Off.LCH.ENT_ARG = x.arg1 ∧ t.rd Pg.LCH Off.LCH.ENT_PERIOD = x.period ∧
      OnlyRegs s t [(Pg.LCH, Off.LCH.ENT_TIME_LO), (Pg.LCH, Off.LCH.ENT_TIME_HI), (Pg.LCH, Off.LCH.ENT_ACT), (Pg.LCH, Off.LCH.ENT_ARG),
        (Pg.LCH, Off.LCH.ENT_PERIOD), (Pg.LCH, Off.LCH.ENT_REPEAT), (Pg.LCH, Off.LCH.ENT_CMD)]) ∧
    ((9 < fld act 31 28 ∨ (fld rep 23 16 ≠ 0 ∧ fld rep 23 16 ≤ fld rep 31 24)) → ∃ t, exec .entWrite s = .next t ∧ refused t ST.BAD_DESC) ∧
    (s.staged.bad = false → x.armed = true → ∃ t, exec .entWrite s = .next t ∧ refused t ST.STATE) ∧
    (s.staged.bad = false → x.armed = false → ∃ t, exec .entWrite s = .next t ∧ code t ST.OK ∧ t.entry e =
      { time := lch Off.LCH.ENT_TIME_HI ++ lch Off.LCH.ENT_TIME_LO, act := fld act 31 28, latePol := act.getLsbD 27, ffp := act.getLsbD 26,
        arg0 := fld act 23 0, arg1 := lch Off.LCH.ENT_ARG, period := lch Off.LCH.ENT_PERIOD, num := fld rep 31 24, den := fld rep 23 16,
        count := fld rep 15 0, armed := false, acc := 0 } ∧
      (∀ i, i ≠ e → t.entry i = s.entry i) ∧ OnlyRegs { s with launch := t.launch, ue := t.ue } t [(Pg.LCH, Off.LCH.ENT_CMD)]) ∧
    (∃ t, exec .entArm s = .next t ∧ armed t true) ∧ (∃ t, exec .entDisarm s = .next t ∧ armed t false) ∧
    (∃ t, exec (.descDataWrite src v) s = .next t ∧ t.descWord w = v ∧ (∀ i, i ≠ w → t.descWord i = s.descWord i) ∧
      t.launch.entries = s.launch.entries ∧ t.rdF Pg.LCH Off.LCH.DESC_SEL 11 0 = (w + 1) % 4096 ∧
      OnlyRegs { s with launch := t.launch, ue := t.ue } t [(Pg.LCH, Off.LCH.DESC_SEL)]) ∧
    (∃ t, exec .descDataRead s = .next t ∧ t.out = [s.descWord w] ∧ t.rdF Pg.LCH Off.LCH.DESC_SEL 11 0 = (w + 1) % 4096 ∧
      OnlyRegs { s with out := t.out } t [(Pg.LCH, Off.LCH.DESC_SEL)]) ∧
    (24 ≤ n → ∃ t, push t ST.BAD_DESC ∧ t.ports = s.ports) ∧ (n < 24 → early → ∃ t, push t ST.STATE ∧ t.ports = s.ports) ∧
    (n < 24 → ¬early → (∀ q ∈ p.expQ, q.frame ≠ f) → 8 ≤ p.expQ.length → ∃ t, push t ST.CAPACITY ∧ t.ports = s.ports) ∧
    (n < 24 → ¬early → (∀ q ∈ p.expQ, q.frame ≠ f) → p.expQ.length < 8 → ∃ t q, push t ST.OK ∧ isNew q ∧
      t.port n = { p with expQ := p.expQ ++ [q] }) ∧
    (n < 24 → ¬early → ∀ l r old, p.expQ = l ++ old :: r → old.frame = f → (∀ q ∈ l, q.frame ≠ f) → ∃ t q, push t ST.OK ∧ isNew q ∧
      t.port n = { p with expQ := l ++ q :: r })

/-- A due entry of the table fires: it is counted, its repeat is applied (TIME goes on by PERIOD and its fraction, COUNT falls by one; with
PERIOD 0 or COUNT 1 the entry is disarmed), and its action is carried out. An entry later than 100 periods with LATE_POL set is skipped
and counted in SKIP_CNT. An entry that is not due, or a table that does not fire, does nothing. Said for an entry that meets no
uncorrectable word. -/
def Obligations.LaunchFires : Prop :=
  ∀ (e : Fin 256) (s : State), s.units = true → s.entryBad e = false →
    let now := s.rig.t
    let x := s.entry e
    let runs : Prop := s.fires = true ∧ s.due e = true ∧ s.firstDue e = true
    let late : Prop := x.lateDue = true ∨ x.time.toNat + 100 < now.toNat
    let carry := if x.den = 0 then 0 else (x.acc + x.num) / x.den
    let after : LEntry := if x.period = 0 ∨ x.count = 1 then { x with lateDue := false, begun := false, armed := false }
      else { x with lateDue := false, begun := false, time := x.time + BitVec.ofNat 64 (x.period.toNat + carry), acc := if x.den = 0 then x.acc else (x.acc + x.num) % x.den,
                    count := x.count - 1 }
    let alone : Prop := ∀ i, e.val < i → s.due i = true → (s.entry i).time = x.time → (s.entry i).act ≠ 3
    let fired (u : State) : Prop := u.entry e = after ∧ (∀ i, i ≠ e.val → u.entry i = s.entry i) ∧ u.launch.desc = s.launch.desc ∧
      Counted s u Pg.LCH Off.LCH.FIRE_CNT ∧ OnlyRegs { s with launch := u.launch } u [(Pg.LCH, Off.LCH.FIRE_CNT)]
    let on (c : Instr) (act : State → State) : Prop := ∃ u, fired u ∧ exec c s = .next (act u)
    let all : List Instr := [.launchNone e now, .launchTrigger e now, .launchExposure e now, .launchPortCmd e now, .launchDispatch e now,
      .launchCommit e now, .launchRevert e now, .launchTblSwap e now, .launchTallySet e now, .launchTallyAdd e now, .launchWatchGe e now,
      .launchWatchEq e now, .launchArm e now, .launchDisarm e now]
    (¬runs → ∀ c ∈ all, exec c s = .next s) ∧
    (runs → late → x.latePol = true → x.act = 1 → (x.period = 0 ∨ x.count = 1) → ∃ t, exec (.launchTrigger e now) s = .next t ∧
      t.entry e = { x with lateDue := false, begun := false, armed := false } ∧ Counted s t Pg.LCH Off.LCH.SKIP_CNT ∧
      OnlyRegs { s with launch := t.launch } t [(Pg.LCH, Off.LCH.SKIP_CNT)]) ∧
    (runs → ¬late →
      (x.act = 0 → on (.launchNone e now) id) ∧
      (x.act = 1 → on (.launchTrigger e now) (onPorts x.arg0 State.trigger)) ∧
      (x.act = 2 → on (.launchExposure e now) (onPorts x.arg0 State.exposePort)) ∧
      (x.act = 3 → x.arg1.getLsbD 4 = false → x.begun = false → (x.arg1.toNat % 16 ≠ 2 ∨ alone) → on (.launchPortCmd e now) (onPorts x.arg0 fun u n => u.portCmd n (x.arg1.toNat % 16) none)) ∧
      (x.act = 4 → x.ffp = false → ∃ u t j, fired u ∧ exec (.launchDispatch e now) s = .next t ∧ t = { u with jobs := t.jobs, nextKey := t.nextKey } ∧
        t.jobs = s.jobs ++ [j] ∧ j.ph = .taken ∧ j.src = .launch (x.arg0 / 2 ^ 16 % 16) ∧ j.desc = s.descSlot (x.arg0 % 256)) ∧
      (x.act = 5 → x.arg0 % 4 = 1 → on (.launchCommit e now) fun u => u.cfgCommit x.arg1) ∧
      (x.act = 5 → x.arg0 % 4 = 2 → on (.launchRevert e now) fun u => u.cfgRevert x.arg1) ∧
      (x.act = 6 → on (.launchTblSwap e now) (onPorts x.arg0 State.tblSwap)) ∧
      (x.act = 7 → s.tallyRefused .launch (x.arg0 % 16384) = false →
        (x.arg0 / 2 ^ 22 % 4 = 0 → ∃ t, exec (.launchTallySet e now) s = .next t ∧ t.tally (x.arg0 % 16384) = x.arg1 ∧
          (∀ b, b ≠ x.arg0 % 16384 → t.tally b = s.tally b) ∧ t.entry e = after ∧ SameBytes s t) ∧
        (x.arg0 / 2 ^ 22 % 4 = 1 → ∃ t, exec (.launchTallyAdd e now) s = .next t ∧
          t.tally (x.arg0 % 16384) = s.tally (x.arg0 % 16384) + x.arg1 ∧ (∀ b, b ≠ x.arg0 % 16384 → t.tally b = s.tally b) ∧
          t.entry e = after ∧ SameBytes s t)) ∧
      (x.act = 8 → let a := s.tally (x.arg0 % 16384)
        (x.arg0 / 2 ^ 22 % 4 = 0 → ((a - x.arg1).toNat < 2 ^ 31 → on (.launchWatchGe e now) id) ∧
          (2 ^ 31 ≤ (a - x.arg1).toNat → ∃ u t, fired u ∧ exec (.launchWatchGe e now) s = .next t ∧ OnlyFault u t Pg.LCH 0 [])) ∧
        (x.arg0 / 2 ^ 22 % 4 = 1 → (a = x.arg1 → on (.launchWatchEq e now) id) ∧
          (a ≠ x.arg1 → ∃ u t, fired u ∧ exec (.launchWatchEq e now) s = .next t ∧ OnlyFault u t Pg.LCH 0 []))) ∧
      (x.act = 9 → x.arg0 % 256 ≠ e →
        let y := s.entry (x.arg0 % 256)
        (x.arg0.testBit 8 = true → ∃ t, exec (.launchArm e now) s = .next t ∧ t.entry e = after ∧
          t.entry (x.arg0 % 256) = if y.armed then y else { y with armed := true, begun := false, lateDue := false }) ∧
        (x.arg0.testBit 8 = false → ∃ t, exec (.launchDisarm e now) s = .next t ∧ t.entry e = after ∧
          t.entry (x.arg0 % 256) = if y.armed then { y with armed := false, begun := false, lateDue := false } else y)))

/-! ## The host port and register writes (R9, R10, R260 to R265, R293, R315) -/

/-- Reads, writes and control writes of a channel in RUN. A read is answered from ring SRAM, staging, the doorbell words or the registers;
with the marker below the least RL, counted in LATE_CNT, and from a reserved region, counted and recorded. A write reaches ring SRAM and
staging but for its excluded bytes; in the control aperture it waits, every later write of the channel behind it, and is applied as register
writes counted in WR_SEQ, a word that is excluded in part counted as ignored; elsewhere it is ignored and counted. A register write to a
page that is not listed has no effect. BOARD_CONTROLLER_TRANSFER reads and writes registers through the running management controller. -/
def Obligations.HostAccesses : Prop :=
  ∀ (ch : Fin 4) (addr : BitVec 29) (bl32 : Bool) (bs : List Byte) (mask : List Bool) (src : Agent) (v : W32) (s : State), s.units = true →
    (s.chan ch).st = .run → s.ue = [] → s.ce = [] → 0 < bs.length →
    let k := s.chan ch
    let hc := 0x0A1 + ch.val
    let n := if bl32 then 64 else 32
    let a := addr.toNat / n * n
    let w := addr.toNat
    let slow : Prop := 0 < k.mode.rl.toNat ∧ k.mode.rl.toNat < [10, 14, 18, 20, 24, 27].getD k.mode.rate.toNat 27
    let marker := List.replicate (n / 4) (0x5A5A5A5A : W32)
    let answers (f : Nat → Nat) : Prop := ∃ t, exec (.hostRead ch addr bl32) s = .next t ∧ t = { s with out := t.out } ∧ t.out.length = n / 4 ∧
      ∀ i < n / 4, (t.out.getD i 0).toNat = f i
    let ignored (t : State) : Prop := Counted s t hc Off.HC.IGNORED_CNT ∧ OnlyRegs s t [(hc, Off.HC.IGNORED_CNT)]
    let kept (i : Nat) : Bool := mask.getD i false
    (slow → ∃ t, exec (.hostRead ch addr bl32) s = .next t ∧ t.out = marker ∧ Counted s t hc Off.HC.LATE_CNT ∧
      OnlyRegs { s with out := t.out } t [(hc, Off.HC.LATE_CNT)]) ∧
    (¬slow → ((0x10C000 ≤ a ∧ a < 0x1000000) ∨ (0x1100000 ≤ a ∧ a < 0x8000000) ∨ 0x8800000 ≤ a) →
      ∃ t, exec (.hostRead ch addr bl32) s = .next t ∧ t.out = marker ∧ Counted s t hc Off.HC.MARKER_CNT ∧
        t.rd hc Off.HC.LAST_MARK = BitVec.ofNat 32 a ∧ t.rdB hc Off.HDR.FAULT_SUM 0 = true ∧ SameBytes s t) ∧
    (¬slow → 0x1000000 ≤ a → a < 0x10C0000 → answers fun i => ofBytes (s.ringBytes ch (a - 0x1000000 + 4 * i) 4)) ∧
    (¬slow → 0x10C0000 ≤ a → a < 0x10FF000 → answers fun _ => 0) ∧
    (¬slow → 0x10FF000 ≤ a → a < 0x10FF100 → answers fun i =>
      let o := a - 0x10FF000 + 4 * i
      if o % 64 ≤ 0x14 then (s.rd (0x400 + 4 * ch.val + o / 64) (o % 64)).toNat else 0) ∧
    (¬slow → 0x8000000 ≤ a → a < 0x8800000 → answers fun i =>
      ofBytes (s.bytes (0x5800000000 + ch.val * 0x800000 + (a - 0x8000000) + 4 * i) 4)) ∧
    (¬slow → a < 0x10C000 → (RegMap.kindOf (a / 0x1000)).isSome = true → a / 0x1000 ≠ 0x080 →
      answers fun i => (s.readReg (.host ch) (a / 0x1000) (a % 0x1000 + 4 * i)).toNat) ∧
    (k.ctl = [] → 0x1000000 ≤ w → w + bs.length ≤ 0x1080000 →
      (∃ t, exec (.hostWrite ch addr ⟨bs, .ok⟩) s = .next t ∧ (∀ i < bs.length, t.ringByte ch (w - 0x1000000 + i) = bs.getD i 0) ∧
        (∀ h o, h < 4 → o < 0x100000 → ¬(h = ch.val ∧ w - 0x1000000 ≤ o ∧ o < w - 0x1000000 + bs.length) → t.ringByte h o = s.ringByte h o) ∧
        t.mem = s.mem ∧ t.regs = s.regs) ∧
      (∃ t, exec (.hostMaskedWrite ch addr ⟨bs, .ok⟩ mask) s = .next t ∧ (∀ i < bs.length, t.ringByte ch (w - 0x1000000 + i) =
          if kept i then s.ringByte ch (w - 0x1000000 + i) else bs.getD i 0) ∧ t.mem = s.mem ∧ t.regs = s.regs)) ∧
    (k.ctl = [] → 0x8000000 ≤ w → w + bs.length ≤ 0x8800000 → let x := 0x5800000000 + ch.val * 0x800000 + (w - 0x8000000)
      (∃ t, exec (.hostWrite ch addr ⟨bs, .ok⟩) s = .next t ∧ (∀ i < bs.length, t.byte (x + i) = bs.getD i 0) ∧
        (∀ b, ¬(x ≤ b ∧ b < x + bs.length) → t.byte b = s.byte b) ∧ t.ringMem = s.ringMem ∧ t.regs = s.regs) ∧
      (∃ t, exec (.hostMaskedWrite ch addr ⟨bs, .ok⟩ mask) s = .next t ∧ (∀ i < bs.length, t.byte (x + i) =
          if kept i then s.byte (x + i) else bs.getD i 0) ∧ (∀ b, ¬(x ≤ b ∧ b < x + bs.length) → t.byte b = s.byte b))) ∧
    (w < 0x10C000 ∨ k.ctl ≠ [] → ∃ t, exec (.hostWrite ch addr ⟨bs, .ok⟩) s = .next t ∧ t = { s with chans := t.chans } ∧
      t.chan ch = { k with ctl := k.ctl ++ [(w, bs.map some)] } ∧ ∀ c, c ≠ ch.val → t.chan c = s.chan c) ∧
    (k.ctl = [] → ((0x1080000 ≤ w ∧ w < 0x10FF000) ∨ (0x10FF100 ≤ w ∧ w < 0x8000000) ∨ 0x8800000 ≤ w) →
      ∃ t, exec (.hostWrite ch addr ⟨bs, .ok⟩) s = .next t ∧ ignored t) ∧
    (k.ctl = [] → exec (.controlWriteApply ch) s = .next s) ∧
    (∀ r, k.ctl = (w, bs.map some) :: r → bs.length = 4 → v = BitVec.ofNat 32 (ofBytes bs) → (∀ x, r.head? = some x → x.1 < 0x10C000) → w < 0x10C000 → (RegMap.kindOf (w / 0x1000)).isSome = true → ∃ t u,
      exec (.registerWrite (.host ch) (BitVec.ofNat 12 (w / 0x1000)) (BitVec.ofNat 12 (w % 0x1000)) v) (s.modChan ch fun k => { k with ctl := r }) =
        .next u ∧ exec (.controlWriteApply ch) s = .next t ∧ t = { u with regs := t.regs } ∧
      t.rd hc Off.HC.WR_SEQ = u.rd hc Off.HC.WR_SEQ + 1 ∧ SameRegsBut u t [(hc, Off.HC.WR_SEQ)]) ∧
    (∀ l, k.ctl = [(w, l)] → l.length = 4 → w < 0x10C000 → none ∈ l → (∃ b, some b ∈ l) → ∃ t, exec (.controlWriteApply ch) s = .next t ∧
      t.chan ch = { k with ctl := [] } ∧ Counted s t hc Off.HC.IGNORED_CNT ∧ OnlyRegs { s with chans := t.chans } t [(hc, Off.HC.IGNORED_CNT)]) ∧
    (∀ page off : BitVec 12, RegMap.kindOf page.toNat = none → exec (.registerWrite .mc page off v) s = .next s ∧
      ∃ t, exec (.registerWrite (.host ch) page off v) s = .next t ∧ ignored t) ∧
    (∀ page : BitVec 12, (RegMap.kindOf page.toNat).isSome = true → s.mgmt.run ≠ .restarting →
      ∃ t, exec (.registerWrite src page 0x018 v) s = .next t ∧
        t.rd page.toNat Off.HDR.FAULT_SUM = s.rd page.toNat Off.HDR.FAULT_SUM &&& ~~~v ∧ OnlyRegs s t [(page.toNat, Off.HDR.FAULT_SUM)]) ∧
    (s.mgmt.run = .running → ∀ page off : BitVec 16, RegMap.kindOf page.toNat = none →
      ∃ t, exec (.boardControllerTransfer page off [v] 1) s = .next t ∧ t = { s with out := [0] }) ∧
    (s.mgmt.run = .running → ∀ (page off : BitVec 12), ∃ t u, exec (.registerWrite .mc page off v) s = .next u ∧
      exec (.boardControllerTransfer (page.setWidth 16) (off.setWidth 16) [v] 0) s = .next t ∧ t = { u with out := [] }) ∧
    (s.mgmt.run ≠ .running → ∀ page off : BitVec 16, exec (.boardControllerTransfer page off [v] 1) s = .next s)

/-! ## Channel states, memory channels (R244, R250, R254 to R259, R270) -/

/-- The states of the host channels, mode registers, HP_CFG, and what the memory channels do by themselves: refresh commands are counted and
change nothing, activate and precharge have no effect, self refresh, power-down and training take the channel from and to the states of
R257, a reset returns it to WAIT with its mode registers at their defaults. A write to a read-only mode register is ignored and counted
(those that only the standard makes read-only: the model's reading, log entry 65). Clearing EN takes every channel to OFF. Tracking, every
100 ms, and refresh change no data; a correction past the range of the trims is held there, and logged. The patrol scrubber corrects the
sector it reads while no row waits at the channel's gate; a pass longer than its period is counted. -/
def Obligations.ChannelStates : Prop :=
  ∀ (ch : Fin 4) (m : Fin 8) (mr : BitVec 7) (v : Byte) (w : W32) (eff : HcMode) (src : Agent) (s : State), s.units = true →
    let k := s.chan ch
    let hc := 0x0A1 + ch.val
    let moves (c : Instr) (st : HcSt) : Prop := ∃ t, exec c s = .next t ∧ t = { s with chans := t.chans } ∧ t.chan ch = { k with st := st } ∧
      ∀ i, i ≠ ch.val → t.chan i = s.chan i
    let counts (c : Instr) (off : Nat) (st : HcSt) : Prop := ∃ t, exec c s = .next t ∧ (t.chan ch).st = st ∧ (t.chan ch).ctl = k.ctl ∧
      Counted s t hc off ∧ OnlyRegs { s with chans := t.chans } t [(hc, off)] ∧ ∀ i, i ≠ ch.val → t.chan i = s.chan i
    let takes : Prop := k.st = .wait ∨ k.st = .train ∨ k.st = .run
    let vmr := s.rdF Pg.HP Off.HP.VMR_CFG 6 0
    let fixed : Prop := (5 ≤ mr.toNat ∧ mr.toNat ≤ 8) ∨ (vmr ≤ mr.toNat ∧ mr.toNat < vmr + 4) ∨ (47 ≤ mr.toNat ∧ mr.toNat ≤ 54) ∨
      mr.toNat ∈ [0, 4, 27, 35, 36, 38, 39, 43, 44, 45]
    let least (h : HcMode) : Nat := [10, 14, 18, 20, 24, 27].getD h.rate.toNat 27
    let cfg := s.rd Pg.HP Off.HP.HP_CFG
    let here := s.memTop / (if s.fitted = 3 then 8 else 4)
    let fit := s.chanFitted m
    let mem := s.memChans.getD m {}
    let due : Prop := ∀ x, mem.trackAt = some x → x.toNat + 10000000 ≤ s.rig.t.toNat
    let range : Int := Config.trimRange m
    let i := mem.scrub
    let a := s.localOf m (32 * i)
    (k.st ≠ .off → counts (.hostRefresh ch) Off.HC.REF_CNT k.st) ∧
    exec (.hostActivate ch) s = .next s ∧ exec (.hostPrecharge ch) s = .next s ∧
    ((k.st = .run ∨ k.st = .pdn) → moves (.selfRefreshEntry ch) .sref ∧ counts (.deepSleepEntry ch) Off.HC.IGNORED_CNT .sref) ∧
    (k.st = .sref → moves (.selfRefreshExit ch) .run) ∧ (k.st = .run → moves (.powerDownEntry ch) .pdn) ∧
    (k.st = .pdn → moves (.powerDownExit ch) .run) ∧ ((k.st = .wait ∨ k.st = .run) → counts (.hostTrainingEntry ch) Off.HC.TRAIN_CNT .train) ∧
    (k.st = .train → moves (.hostTrainingExit ch) .run) ∧
    (k.st ≠ .off → ∃ t, exec (.hcReset ch) s = .next t ∧ t = { s with chans := t.chans } ∧
      t.chan ch = { k with st := .wait, mr := [], mode := ({} : Chan).mode, fifo := [] }) ∧
    (takes → fixed → ∃ t, exec (.modeRegisterWrite ch mr v eff) s = .next t ∧ Counted s t hc Off.HC.IGNORED_CNT ∧
      OnlyRegs s t [(hc, Off.HC.IGNORED_CNT)]) ∧
    (takes → ¬fixed → ∃ t u, exec (.modeRegisterWrite ch mr v eff) s = .next t ∧ (t.chan ch).mode = eff ∧ (t.chan ch).st = k.st ∧
      exec (.modeRegisterRead ch mr) t = .next u ∧ u.out = [v.setWidth 32] ∧
      (k.mode.rl = 0 ∨ least k.mode ≤ k.mode.rl.toNat → eff.rl ≠ 0 → eff.rl.toNat < least eff → t.rdB hc Off.HDR.FAULT_SUM 3 = true) ∧
      (eff.rl = 0 ∨ least eff ≤ eff.rl.toNat → t.regs = s.regs)) ∧
    (takes → mr = 5 → ∃ t x, exec (.modeRegisterRead ch mr) s = .next t ∧ t = { s with out := [x] } ∧ x.toNat = fld cfg 23 16) ∧
    (¬takes → exec (.modeRegisterWrite ch mr v eff) s = .next s ∧ exec (.modeRegisterRead ch mr) s = .next s) ∧
    (bit cfg 31 = true → bit w 31 = true → ∃ t, exec (.hpCfgWrite src w) s = .next t ∧ OnlyLogged s t []) ∧
    (bit w 31 = false → ∃ t, exec (.hpCfgWrite src w) s = .next t ∧ t.rd Pg.HP Off.HP.HP_CFG &&& 0xCFFFFFFF = w &&& 0xCFFFFFFF ∧ (∀ c < 4, (t.chan c).st = .off) ∧
      OnlyRegs { s with chans := t.chans } t [(Pg.HP, Off.HP.HP_CFG)]) ∧
    (bit cfg 31 = false → bit w 31 = true → s.power.cones.getLsbD 2 = true → s.domainOn 39 = true → (∀ c < 4, (s.chan c).st = .off) →
      ∃ t, exec (.hpCfgWrite src w) s = .next t ∧ t.rd Pg.HP Off.HP.HP_CFG &&& 0xCFFFFFFF = w &&& 0xCFFFFFFF ∧
        ∀ c < 4, (t.chan c).st = if bit w (24 + c) then .wait else .off) ∧
    (∀ x : Int, fit = true → due → -range ≤ x → x ≤ range → ∃ t, exec (.memTracking m x) s = .next t ∧ Counted s t Pg.MEM Off.MEM.TRACK_CNT ∧
      (t.memChans.getD m {}).moved = x ∧ (t.memChans.getD m {}).trackAt = some s.rig.t ∧
      OnlyRegs { s with memChans := t.memChans } t [(Pg.MEM, Off.MEM.TRACK_CNT)]) ∧
    (∀ x : Int, fit = true → due → range < x → ∃ t, exec (.memTracking m x) s = .next t ∧ (t.memChans.getD m {}).moved = range ∧
      OnlyFault { s with memChans := t.memChans } t Pg.MEM 2 []) ∧
    (∀ x : Int, ¬due → exec (.memTracking m x) s = .next s) ∧
    (fit = true → ∃ t, exec (.memRefresh ⟨m, v⟩) s = .next t ∧ t = { s with memChans := t.memChans } ∧ (t.memChans.getD m {}).mr4 = v ∧
      (t.memChans.getD m {}).refresh = mem.refresh + 1 ∧ (t.memChans.getD m {}).scrub = i) ∧
    (fit = false → exec (.memRefresh ⟨m, v⟩) s = .next s ∧ (∀ x, exec (.memTracking m x) s = .next s) ∧ exec (.memPatrolScrub m) s = .next s) ∧
    (fit = true → s.rdB Pg.MEM Off.MEM.MEM_CFG 29 = true → s.rdB Pg.MEM Off.MEM.SCRUB_CTRL 31 = true → s.gateRows (.mem m) = [] → 32 * i < here →
      let others : Prop := ∀ x < 8, x ≠ m.val → s.chanFitted x = true → here ≤ 32 * (s.memChans.getD x {}).scrub
      ∃ t, exec (.memPatrolScrub m) s = .next t ∧ SameBytes s t ∧ (∀ x, a / 4 ≤ x → x ≤ (a + 31) / 4 → EccLoc.mem x ∉ t.ce) ∧ t.ue = s.ue ∧
        t.cores = s.cores ∧ (32 * (i + 1) < here ∨ ¬others → (t.memChans.getD m {}).scrub = i + 1) ∧
        (here ≤ 32 * (i + 1) → others → ∀ x, (t.memChans.getD x {}).scrub = 0) ∧
        (0 < i → s.memPass.late = false → s.memPass.since.toNat + s.rdF Pg.MEM Off.MEM.SCRUB_CTRL 15 0 * 100000000 < s.rig.t.toNat →
          Counted s t Pg.MEM Off.MEM.SCRUB_LATE_CNT ∧ t.memPass.late = true)) ∧
    (s.gateRows (.mem m) ≠ [] → exec (.memPatrolScrub m) s = .next s) ∧
    (s.rdB Pg.MEM Off.MEM.MEM_CFG 29 = false → exec (.memPatrolScrub m) s = .next s)

/-! ## Link ports (R272 to R277, R285, R288, R290) -/

/-- The states of a link port: RETRAIN, RENEG and DOWN, DL_CFG, the training attempts and what follows them, renegotiation. A write to DL_CFG
that does not clear EN is refused in TRAINING, UP and RENEG, RENEG on a port that is not UP. Training takes the port UP in the first mode
that succeeds, at the lower of the offered levels; where none does it is DOWN, with bit 1 of FAULT_SUM, and tries again after 100 ms. A
port that loses lock, hears no flit for IDLE_LIMIT periods, or is told DOWN goes DOWN, counted, with bit 0. A port that enters UP, or ends
RENEG, sends HELLO. Said, where a port leaves UP, for a port with nothing to send or unacknowledged, and where it enters UP, for a device
without discovery. -/
def Obligations.LinkStates : Prop :=
  ∀ (src : Agent) (d : Fin 8) (v : W32) (m : Fin 9) (far : FarCaps) (lvl : BitVec 2) (s : State), s.units = true →
    let k := s.link d
    let pg := 0x0B1 + d.val
    let now := s.rig.t
    let cfg := s.rd pg Off.DL.DL_CFG
    let can (w : W32) : Prop := w.getLsbD 31 = true ∧ s.domainOn 38 = true ∧ s.power.fired = true ∧ CalItem.link d ∉ s.power.failed
    let joined : Prop := k.st = .up ∨ k.st = .reneg
    let quiet : Prop := k.replay = [] ∧ k.txq = [] ∧ k.fwd = [] ∧ s.links.wait = []
    let refused (t : State) (c : Nat) : Prop := t.rdF pg Off.DL.DL_CMD 23 16 = c ∧ OnlyRefused s t c [(pg, Off.DL.DL_CMD)]
    let rest (t : State) : Prop := (∀ i, i ≠ d.val → t.link i = s.link i) ∧ t.links.out = s.links.out ∧ t.links.inn = s.links.inn ∧
      t.tval = s.tval ∧ t.cores = s.cores ∧ SameBytes s t
    let gives (c : Instr) (k' : LinkPort) : Prop := ∃ t, exec c s = .next t ∧ t.link d = k' ∧ rest t ∧ t.regs = s.regs
    let fresh : LinkPort := { k with st := .training, mode := 0, far := none }
    let downs (c : Instr) : Prop := ∃ t, exec c s = .next t ∧ (t.link d).st = .down ∧ (t.link d).retryAt = now ∧ rest t ∧
      Counted s t pg Off.DL.DOWN_CNT ∧ t.rdB pg Off.HDR.FAULT_SUM 0 = true ∧ SameRegsBut s t (blockRegs ++ (pg, Off.DL.DOWN_CNT) :: faultRegs pg)
    let lost (c : Instr) : Prop := ∃ t, exec c s = .next t ∧ t.link d = { k with st := .down, retryAt := now + 10000000 } ∧ rest t ∧
      t.rdB pg Off.HDR.FAULT_SUM 1 = true
    let reserved : Prop := fld v 30 29 = 0 ∨ fld v 30 29 = 3 ∨ fld v 28 27 = 3
    let first := s.nextLinkMode d far k.mode
    let quiescent := (s.rd pg Off.DL.LOSS_CTRL).toNat % 2 ^ 16
    (¬can cfg → ∃ t, exec (.retrain src d) s = .next t ∧ refused t ST.STATE) ∧ (can cfg → ¬joined → gives (.retrain src d) fresh) ∧
    (k.st = .up → gives (.reneg src d) { k with st := .reneg } ∧ gives (.farEndRenegRequest d) { k with st := .reneg }) ∧
    (k.st ≠ .up → (∃ t, exec (.reneg src d) s = .next t ∧ refused t ST.STATE) ∧ exec (.farEndRenegRequest d) s = .next s) ∧
    (joined → quiet → downs (.down src d) ∧ downs (.linkLaneLockLoss d)) ∧
    (¬joined → (∃ t, exec (.down src d) s = .next t ∧ refused t ST.STATE) ∧ exec (.linkLaneLockLoss d) s = .next s) ∧
    (k.st = .up → quiet → k.lastFlit.toNat + quiescent ≤ now.toNat → downs (.linkIdleTimeout d now)) ∧
    ((k.st ≠ .up ∨ now.toNat < k.lastFlit.toNat + quiescent) → exec (.linkIdleTimeout d now) s = .next s) ∧
    ((joined ∨ k.st = .training) → bit v 31 = true → ∃ t, exec (.dlCfgWrite src d v) s = .next t ∧ refused t ST.STATE) ∧
    (bit v 31 = true → ¬(joined ∨ k.st = .training) → reserved → ∃ t, exec (.dlCfgWrite src d v) s = .next t ∧ refused t ST.BAD_DESC) ∧
    (k.st = .off → ¬reserved → can v → ∃ t, exec (.dlCfgWrite src d v) s = .next t ∧ t.link d = fresh ∧ rest t ∧
      t.rdF pg Off.DL.DL_CFG 31 22 = fld v 31 22 ∧ SameRegsBut s t [(pg, Off.DL.DL_CFG)]) ∧
    (bit v 31 = false → quiet → ∃ t, exec (.dlCfgWrite src d v) s = .next t ∧ (t.link d).st = .off ∧ rest t ∧
      t.rdF pg Off.DL.DL_CFG 31 22 = fld v 31 22 ∧ SameRegsBut s t (blockRegs ++ [(pg, Off.DL.DL_CFG)])) ∧
    (k.st ≠ .training → ∀ ok, exec (.linkModeAttemptDone d m ok far) s = .next s) ∧
    (k.st = .training → first = none → ∀ ok, lost (.linkModeAttemptDone d m ok far)) ∧
    (k.st = .training → first = some m.val → s.rdB Pg.LNK Off.LNK.LNK_CFG 31 = false → s.links.wait = [] → ∃ t, exec (.linkModeAttemptDone d m true far) s = .next t ∧
      (t.link d).st = .up ∧ (t.link d).mode = m ∧ (t.link d).level = min (s.offered d) far.lvl.toNat ∧ (t.link d).peerDev = far.dev.toNat ∧
      (t.link d).rxNext = 0 ∧ ((t.link d).replay.flatMap (·.msgs)).map (·.op) = [.hello] ∧ some (t.link d).lanes = s.modeFits d far m ∧ rest t ∧
      Counted s t pg Off.DL.TRAIN_CNT ∧ (m ≠ 0 → t.rdB pg Off.HDR.FAULT_SUM 2 = true)) ∧
    (k.st = .training → first = some m.val → ∀ j, s.nextLinkMode d far (m.val + 1) = some j →
      ∃ t, exec (.linkModeAttemptDone d m false far) s = .next t ∧ t.link d = { k with mode := j } ∧ rest t ∧ Counted s t pg Off.DL.TRAIN_CNT) ∧
    (k.st = .training → first = some m.val → s.nextLinkMode d far (m.val + 1) = none → lost (.linkModeAttemptDone d m false far)) ∧
    (k.st = .down → k.retryAt ≤ now → can cfg → gives (.linkTrainRetry d now) fresh) ∧
    ((k.st ≠ .down ∨ now < k.retryAt ∨ ¬can cfg) → exec (.linkTrainRetry d now) s = .next s) ∧
    (k.st = .reneg → s.rdB Pg.LNK Off.LNK.LNK_CFG 31 = false → s.links.wait = [] → k.txq = [] → k.replay.length < 512 →
      ∃ t f x, exec (.renegComplete d lvl) s = .next t ∧ (t.link d).st = .up ∧ (t.link d).level = min (s.offered d) lvl.toNat ∧
        (t.link d).peerLvl = lvl.toNat ∧ (t.link d).lastFlit = now ∧ (t.link d).rxNext = k.rxNext ∧ (t.link d).txNext = k.txNext + 1 ∧
        (t.link d).replay = k.replay ++ [f] ∧ f.seq = k.txNext ∧ f.msgs = [x] ∧ x.op = .hello ∧ x.src.toNat = s.devId % 512 ∧ rest t) ∧
    (k.st ≠ .reneg → exec (.renegComplete d lvl) s = .next s)

/-- Flits, time markers and routes. A data flit is taken where its FSEQ is the one expected, and discarded otherwise or with an error that FEC
could not clear, and a discard asks for a replay from the FSEQ expected; its FACK frees the flits it covers. A replay request sends every
kept flit again, counted. IDLE_FLIT_SEND sends an idle flit, TIME_MARKER_SEND a marker with its departure and the times of the far end's last
one; a marker that answers one of this port's gives a measurement. A write to a ROUTE entry sets MANUAL where it sets it or changes the
route; one to this device's own is refused. A distance vector goes out on every UP port, this device in it; 20 ms without a change set
CONVERGED. Said for a port at which nothing waits to leave. -/
def Obligations.LinkTraffic : Prop :=
  ∀ (src : Agent) (d : Fin 8) (h : Fhdr) (msgs : List Msg) (mk : Marker) (frac : Byte) (dev : BitVec 9) (v : W32) (s : State), s.units = true →
    (s.link d).txq = [] →
    let k := s.link d
    let pg := 0x0B1 + d.val
    let now := s.rig.t
    let at_ := 256 * now.toNat + frac.toNat
    let left := k.replay.filter fun f => decide ((f.seq - h.fack).toNat < 2048)
    let only (t : State) (l : List (Nat × Nat)) : Prop := OnlyLinks s t l ∧ (∀ i, i ≠ d.val → t.link i = s.link i)
    let asks (t : State) : Prop := (∃ x : Fhdr, (t.link d).ctl = some (.replayRequest x) ∧ x.fack = k.rxNext ∧ x.fseq = k.txNext) ∧ (t.link d).rx = k.rx ∧
      (t.link d).rxNext = k.rxNext ∧ (t.link d).replay = k.replay ∧ (t.link d).lastFlit = now ∧ Counted s t pg Off.DL.FEC_UE_CNT ∧
      only t [(pg, Off.DL.FEC_UE_CNT)]
    let off := 0x100 + 4 * dev.toNat
    let old := s.route dev.toNat
    let n := left.length
    (k.st = .up → h.fseq = k.rxNext → ∃ t, exec (.dataFlit d h .clean msgs now) s = .next t ∧ only t [(pg, Off.DL.RX_FLIT_CNT)] ∧
      (t.link d).rx = k.rx ++ msgs ∧ (t.link d).rxNext = k.rxNext + 1 ∧ (t.link d).replay = left ∧ (t.link d).lastFlit = now ∧
      (t.link d).credit = modNth (· + h.crcnt.toNat) k.credit h.crcls.toNat ∧ Counted s t pg Off.DL.RX_FLIT_CNT) ∧
    (k.st = .up → h.fseq ≠ k.rxNext → ∃ t, exec (.dataFlit d h .clean msgs now) s = .next t ∧ asks t) ∧
    (k.st = .up → ∃ t, exec (.dataFlit d h .bad msgs now) s = .next t ∧ asks t) ∧
    (k.st = .up → h.fseq = k.rxNext → ∃ t, exec (.dataFlit d h .corrected msgs now) s = .next t ∧ (t.link d).rx = k.rx ++ msgs ∧
      Counted s t pg Off.DL.FEC_CE_CNT) ∧
    (k.st ≠ .up → ∀ fec, exec (.dataFlit d h fec msgs now) s = .next s ∧ exec (.replayRequest d h now) s = .next s) ∧
    ((k.st = .up ∨ k.st = .reneg) → ∃ t, exec (.idleFlit d h now) s = .next t ∧ only t [] ∧ (t.link d).rx = k.rx ∧
      (t.link d).replay = left ∧ (t.link d).lastFlit = now) ∧
    (k.st = .up → s.ue = [] → (∀ f ∈ left, f.replays + 1 < s.rdF pg Off.DL.LOSS_CTRL 31 24) → ∃ t, exec (.replayRequest d h now) s = .next t ∧
      only t [(pg, Off.DL.REPLAY_CNT), (pg, Off.DL.TX_FLIT_CNT)] ∧ (t.link d).st = .up ∧ (t.link d).replay = left.map (fun f => { f with replays := f.replays + 1 }) ∧
      (t.rd pg Off.DL.REPLAY_CNT).toNat = min ((s.rd pg Off.DL.REPLAY_CNT).toNat + n) 0xFFFFFFFF) ∧
    ((k.st = .up ∨ k.st = .reneg) → ∃ (t : State) (x : Fhdr), exec (.idleFlitSend d) s = .next t ∧ t = { s with links := t.links } ∧
      (t.link d).ctl = some (.idle x) ∧ x.fseq = k.txNext ∧ x.fack = k.rxNext ∧ (t.link d).txNext = k.txNext ∧ (t.link d).replay = k.replay) ∧
    (k.st ≠ .up → k.st ≠ .reneg → exec (.idleFlitSend d) s = .next s) ∧
    ((k.st = .up ∨ k.st = .reneg) → s.rdB Pg.LCH Off.LCH.TIME_CTRL 31 = true → ∃ t, exec (.timeMarker d h mk ⟨now, frac⟩) s = .next t ∧
      only t [(pg, Off.DL.LINK_DELAY)] ∧ (t.link d).markDep = mk.depart ∧ (t.link d).markArr = at_ ∧ (t.link d).replay = left ∧
      ((∀ f, k.markFrom = some f → mk.lastDepart < f ∨ k.markSent < mk.lastDepart) → (t.link d).delays = k.delays ∧ only t []) ∧
      (∀ f, k.markFrom = some f → f ≤ mk.lastDepart → mk.lastDepart ≤ k.markSent → (t.link d).delays.length = min (k.delays.length + 1) 16 ∧
        (t.link d).delays.getLast? = some (((at_ : Int) - mk.depart + ((mk.lastArrive : Int) - mk.lastDepart)).fdiv 2).toNat)) ∧
    (k.st = .up → ∃ (t : State) (x : Fhdr) (y : Marker), exec (.timeMarkerSend ⟨d, now, frac⟩) s = .next t ∧ t = { s with links := t.links } ∧ (t.link d).markSent = at_ ∧
      (t.link d).ctl = some (.marker x y) ∧ x.fack = k.rxNext ∧ y.depart = at_ ∧ y.lastDepart = k.markDep ∧ y.lastArrive = k.markArr ∧
      (t.link d).replay = k.replay) ∧
    (k.st ≠ .up → exec (.timeMarkerSend ⟨d, now, frac⟩) s = .next s) ∧
    (dev.toNat = s.devId → ∃ t, exec (.routeEntryWrite src dev v) s = .next t ∧
      t.rdF Pg.LNK Off.LNK.LNK_ERR 31 24 = ST.STATE ∧ t.rdF Pg.LNK Off.LNK.LNK_ERR 8 0 = s.rdF Pg.LNK Off.LNK.LNK_ERR 8 0 ∧
      OnlyLogged s t [(Pg.LNK, Off.LNK.LNK_ERR)]) ∧
    (dev.toNat ≠ s.devId → s.rdB Pg.LNK Off.LNK.LNK_CFG 31 = false → s.links.wait = [] → ∃ t, exec (.routeEntryWrite src dev v) s = .next t ∧
      fld (t.route dev.toNat) 31 30 = fld v 31 30 ∧ fld (t.route dev.toNat) 25 16 = fld v 25 16 ∧
      (bit (t.route dev.toNat) 29 = true ↔ bit v 29 = true ∨ fld old 21 16 ≠ fld v 21 16 ∨ fld old 31 30 ≠ fld v 31 30) ∧
      (t.route dev.toNat ≠ old → t.rdB Pg.LNK Off.LNK.DISC_STATE 31 = false) ∧ OnlyLinks s t [(Pg.ROUTE, off), (Pg.LNK, Off.LNK.DISC_STATE)]) ∧
    (s.rdB Pg.LNK Off.LNK.LNK_CFG 31 = true → s.mgmt.run ≠ .restarting → k.st = .up → k.replay.length ≤ 508 → ∃ t, exec .routeAdvSend s = .next t ∧
      (∃ f ∈ (t.link d).replay, ∃ x ∈ f.msgs, x.op = .routeAdv ∧ ∃ a ∈ x.adv, a.dev.toNat = s.devId ∧ a.hops = 0) ∧ t.cores = s.cores ∧
      SameBytes s t) ∧
    (s.links.lastChange.toNat + 2000000 ≤ now.toNat → s.mgmt.run ≠ .restarting → ∃ t, exec .discConverged s = .next t ∧
      t.rdB Pg.LNK Off.LNK.DISC_STATE 31 = true ∧ OnlyRegs s t [(Pg.LNK, Off.LNK.DISC_STATE)]) ∧
    (now.toNat < s.links.lastChange.toNat + 2000000 → exec .discConverged s = .next s)

/-! ## Messages (R192, R278 to R283, R287) -/

/-- Stream messages that arrive in order at their destination are applied once, in turn: the stream's expected SEQ goes on and an
acknowledgement is owed. A read or write of LPDDR5X waits for the gate of its channel, and GATE_GRANT applies it: a write changes the
unmasked bytes, a fused one a tally as well, a read is answered with the bytes. A tally operation changes its tally; a transfer is accepted by the window that holds it, and its rows land; a notice enters or leaves the miss list. An earlier SEQ is
a duplicate, counted, a later one changes nothing. A reserved opcode, and one above the level of the link, is discarded and counted. Said
of the first message that waits in its stream. -/
def Obligations.StreamMessages : Prop :=
  ∀ (d : Fin 8) (m : Msg) (s : State), s.units = true → s.ue = [] → s.ce = [] →
    let k := s.link d
    let o := m.src.toNat
    let i := s.inStream o
    let joined : Prop := k.st = .up ∨ k.st = .reneg
    let comes (op : MsgOp) : Prop := joined ∧ m.op = op ∧ msgLenOk m = true ∧ m.dst.toNat = s.devId
    let ready (op : MsgOp) : Prop := comes op ∧ m.seq = i.expect ∧ i.queue = []
    let waits (c : Instr) : Prop := ∃ t, exec c s = .next t ∧ (t.inStream o).expect = i.expect + 1 ∧ (t.inStream o).queue = [(m, true)] ∧ OnlyLinks s t []
    let idle : Prop := ∀ x ∈ s.links.out, x.2.wait = []
    let applied (t : State) : Prop := (t.inStream o).expect = i.expect + 1 ∧ (t.inStream o).owed = true
    let a := m.addr.toNat
    let n := m.data.length
    let wrote (t : State) : Prop := (∀ j < n, t.byte (a + j) = if m.mask.getD j false then m.data.getD j 0 else s.byte (a + j)) ∧
      ∀ b, ¬(a ≤ b ∧ b < a + n) → t.byte b = s.byte b
    let inside : Prop := s.regionOf a (max 1 n) = some .lpddr
    let granted (op : MsgOp) : Prop := m.op = op ∧ i.queue = [(m, true)] ∧ ∃ g : Fin 8, ∃ key, s.gateRows (.mem g) = [{ keys := key, work := .msg o m }]
    let grants (t : State) : Prop := (∀ (g : Fin 8) key, s.gateRows (.mem g) = [{ keys := key, work := .msg o m }] →
      exec (.gateGrant ⟨.mem g, false⟩) s = .next t) ∧ (t.inStream o).queue = [] ∧ (t.inStream o).owed = true
    let bad (t : State) : Prop := Counted s t Pg.LNK Off.LNK.BAD_CNT ∧ OnlyRegs { s with links := t.links } t [(Pg.LNK, Off.LNK.BAD_CNT)]
    let all : List Instr := [.rdReq d m, .rdRsp d m, .wrMem d m, .xferOpen d m, .wrSp d m, .tallySet d m, .tallyAdd d m, .job d m, .jobRsp d m,
      .recMsg d m, .wrTally d m, .prune d m, .rejoin d m, .ack d m, .nak d m, .hello d m, .routeAdv d m]
    let c := (a - 0x4000000000) / 0x400000
    let onCore : Prop := 0x4000000000 ≤ a ∧ a < 0x4000000000 + 32 * 0x400000
    let tl := m.value.toNat % 16384
    (ready .wrMem → inside → waits (.wrMem d m)) ∧ (ready .rdReq → s.regionOf a (m.bytes.toNat + 1) = some .lpddr → waits (.rdReq d m)) ∧
    (ready .wrTally → 2 ≤ k.level → inside → waits (.wrTally d m)) ∧
    (granted .wrMem → inside → s.ueWords a n = [] → ∃ t, grants t ∧ wrote t ∧ t.tval = s.tval ∧ t.cores = s.cores ∧ SameRegsBut s t blockRegs) ∧
    (comes .wrMem → m.seq ≠ i.expect → (i.expect - m.seq).toNat < 0x8000 → ∃ t, exec (.wrMem d m) s = .next t ∧ SameBytes s t ∧
      (t.inStream o).expect = i.expect ∧ Counted s t Pg.LNK Off.LNK.DUP_CNT) ∧
    (comes .wrMem → 0x8000 ≤ (i.expect - m.seq).toNat → ∃ t, exec (.wrMem d m) s = .next t ∧ SameBytes s t ∧ t.inStream o = i) ∧
    (s.tallyRefused .link (a % 16384) = false →
      (ready .tallySet → ∃ t, exec (.tallySet d m) s = .next t ∧ t.tally (a % 16384) = m.value ∧ (∀ b, b ≠ a % 16384 → t.tally b = s.tally b) ∧
        applied t ∧ SameBytes s t) ∧
      (ready .tallyAdd → ∃ t, exec (.tallyAdd d m) s = .next t ∧ t.tally (a % 16384) = s.tally (a % 16384) + m.value ∧
        (∀ b, b ≠ a % 16384 → t.tally b = s.tally b) ∧ applied t ∧ SameBytes s t)) ∧
    (s.tallyRefused .link (a % 16384) = true → ready .tallySet → ∃ t, exec (.tallySet d m) s = .next t ∧ t.tval = s.tval ∧ applied t) ∧
    (granted .wrTally → inside → a < 0x1000000000 → s.ueWords a n = [] → s.tallyRefused .link tl = false → ∃ t, grants t ∧ wrote t ∧
      t.tally tl = s.tally tl + 1 ∧ ∀ b, b ≠ tl → t.tally b = s.tally b) ∧
    (comes .wrTally → k.level < 2 → ∃ t, exec (.wrTally d m) s = .next t ∧ bad t) ∧
    (joined → (∃ b, m.op = .reserved b) → ∀ x ∈ all, ∃ t, exec x s = .next t ∧ bad t) ∧ (¬joined → ∀ x ∈ all, exec x s = .next s) ∧
    (granted .rdReq → s.regionOf a (m.bytes.toNat + 1) = some .lpddr → s.ueWords a (m.bytes.toNat + 1) = [] → ∀ p alt, s.egress o = some (p, alt) → p < 8 →
      ∃ t x, grants t ∧ t.sends p x ∧ x.op = .rdRsp ∧ x.seq = m.seq ∧ x.dst = m.src ∧ x.status = 0 ∧ x.data = s.bytes a (m.bytes.toNat + 1) ∧
        SameBytes s t) ∧
    (ready .rdReq → s.regionOf a (m.bytes.toNat + 1) ≠ some .lpddr → ∀ p alt, s.egress o = some (p, alt) → p < 8 → ∃ t x, exec (.rdReq d m) s = .next t ∧
      t.sends p x ∧ x.op = .rdRsp ∧ x.seq = m.seq ∧ x.dst = m.src ∧ x.status = 0x25 ∧ SameBytes s t ∧ applied t) ∧
    (comes .rdRsp → (s.outStream o).held = [] → ∃ t, exec (.rdRsp d m) s = .next t ∧ OnlyLinks s t []) ∧
    (∀ h e, idle → comes .rdRsp → m.status = 0 → (s.outStream o).held = [h] → h.msg.op = .rdReq → h.msg.seq = m.seq → (s.core h.core).fq = [e] →
      e.key = h.entry → e.noUpd = false → ∃ t u, exec (.rdRsp d m) s = .next t ∧
        t = ((State.putFetched u h.core e h.row m.data).settleQueue h.core .fq).scanBlocked ∧
        u = { s with links := u.links } ∧ (u.outStream o).held = []) ∧
    (∀ w, ready .xferOpen → onCore → ((s.core c).st = .idle ∨ (s.core c).st = .run) →
      ((s.core c).windowFor m.quanta = some w → m.quanta ≠ [] → ∃ t, exec (.xferOpen d m) s = .next t ∧ applied t ∧ SameBytes s t ∧
        t.tval = s.tval ∧ ((t.core c).wins.getD w {}).landing = ((s.core c).wins.getD w {}).landing ++
          [{ src := .remote o m.core.toNat m.xfer.toNat m.seq, rows := m.value.toNat, err := false }]) ∧
      ((s.core c).windowFor m.quanta = none → s.domainOn c = true → ∃ t, exec (.xferOpen d m) s = .next t ∧ (t.inStream o).expect = i.expect + 1 ∧ SameBytes s t ∧
        t.tval = s.tval ∧ t.cores = s.cores ∧ Counted s t (Pg.CORE c) Off.CORE.BOUNDS_CNT)) ∧
    (∀ (w : Fin 8) l q, ready .wrSp → onCore → ((s.core c).wins.getD w {}).landing = [l] → l.src = .remote o m.core.toNat m.xfer.toNat q →
      (∀ x < 8, x ≠ w.val → ((s.core c).wins.getD x {}).landing = []) → n < l.rows → ∃ t, exec (.wrSp d m) s = .next t ∧ wrote t ∧ applied t ∧
      t.tval = s.tval ∧ ((t.core c).wins.getD w {}).landing = [{ l with rows := l.rows - n }]) ∧
    (ready .prune → 2 ≤ k.level → (none ∈ s.miss ∨ s.missOf tl ≠ none) → (∀ c' : Fin 32, (s.core c').waiters tl = []) →
      ∃ t, exec (.prune d m) s = .next t ∧ applied t ∧ t.cores = s.cores ∧ SameBytes s t ∧
        (s.missOf tl = none → t.missOf tl = some { tally := tl, frame := m.frame, dev := o, race := m.race.toNat }) ∧
        (∀ x, s.missOf tl = some x → t.missOf tl = some { x with frame := m.frame })) ∧
    (ready .rejoin → 2 ≤ k.level → ∃ t, exec (.rejoin d m) s = .next t ∧ t.missOf tl = none ∧ applied t ∧
      ∀ x, some x ∈ s.miss → x.tally ≠ tl → some x ∈ t.miss)

/-- Acknowledgements, resends, neighbours and forwarding. An ACK without a status drops the copies it covers, reads apart; a NAK, or RESEND
periods without one after it has left, sends the held copies again, counted; LIMIT periods abandon it, counted, with bit 0 of LNK's FAULT_SUM, and fail the item that
issued it with LINK_LOST. HELLO shows the neighbour, or a conflict of IDs; a distance vector replaces the entries it names. A message for
another device goes to the gate of its route's port with HOP raised, and leaves once GATE_GRANT has granted it, or is discarded and counted.
Said for a device without discovery, no message of which waits for a route or for the delivery store. -/
def Obligations.Delivery : Prop :=
  ∀ (d : Fin 8) (m : Msg) (dev : BitVec 9) (s : State), s.units = true → s.ue = [] → s.rdB Pg.LNK Off.LNK.LNK_CFG 31 = false →
    s.links.wait = [] → (∀ x ∈ s.links.out, x.2.wait = []) →
    let k := s.link d
    let o := m.src.toNat
    let v := dev.toNat
    let now := s.rig.t
    let joined : Prop := k.st = .up ∨ k.st = .reneg
    let comes (op : MsgOp) : Prop := joined ∧ m.op = op ∧ msgLenOk m = true ∧ m.dst.toNat = s.devId
    let resend := s.rdF Pg.LNK Off.LNK.E2E_CTRL 15 0
    let limit := s.rdF Pg.LNK Off.LNK.E2E_CTRL 31 16
    let again (t : State) (x : Nat) (h : HeldMsg) : Prop := (t.outStream x).held.map (·.msg) = [h.msg] ∧ Counted s t Pg.LNK Off.LNK.RESEND_CNT ∧
      t.cores = s.cores ∧ t.tval = s.tval ∧ SameBytes s t
    let noEntries : Prop := ∀ c : Fin 32, (s.core c).fq = [] ∧ (s.core c).xq = [] ∧ (s.core c).wq = []
    let passes : Prop := joined ∧ m.dst.toNat ≠ s.devId ∧ m.op ≠ .hello ∧ m.op ≠ .routeAdv ∧ (∀ b, m.op ≠ .reserved b) ∧ msgLenOk m = true ∧ 2 ≤ k.level
    let covered (h : HeldMsg) : Prop := h.msg.op ≠ .rdReq ∧ (m.seq - h.msg.seq).toNat < 0x8000
    (comes .ack → m.status = 0 → ∃ t, exec (.ack d m) s = .next t ∧ OnlyLinks s t [] ∧
      ∀ h, h ∈ (t.outStream o).held ↔ h ∈ (s.outStream o).held ∧ ¬covered h) ∧
    (∀ h it, comes .ack → m.status = 0x20 → (s.outStream o).held = [h] → covered h → h.msg.seq = m.seq → (h.msg.op = .wrMem ∨ h.msg.op = .wrSp) → h.core < 32 → noEntries →
      (s.core h.core).items = [it] → it.key = h.item → it.fail = none → ∃ t, exec (.ack d m) s = .next t ∧ (t.outStream o).held = [] ∧
        ((t.core h.core).item it.key).bind (·.fail) = some (ST.ECC_UNCORR, 0) ∧ t.tval = s.tval ∧ SameBytes s t) ∧
    (∀ h, comes .nak → (s.outStream o).held = [h] → s.waitsToLeave h.msg = false → ∃ t, exec (.nak d m) s = .next t ∧ again t o h) ∧
    (∀ h, (s.outStream v).held = [h] → s.waitsToLeave h.msg = false → h.left = true → h.last.toNat + resend ≤ now.toNat → ∃ t, exec (.e2eResend dev now) s = .next t ∧ again t v h) ∧
    ((∀ h ∈ (s.outStream v).held, h.left = false ∨ now.toNat < h.last.toNat + resend) → exec (.e2eResend dev now) s = .next s) ∧
    (∀ h, (s.outStream v).held = [h] → h.first.toNat + limit ≤ now.toNat → h.msg.op ≠ .recMsg → s.jobs = [] → noEntries →
      ∃ t, exec (.e2eLimitExpiry dev now) s = .next t ∧ (t.outStream v).held = [] ∧ Counted s t Pg.LNK Off.LNK.LOST_CNT ∧
        t.rdF Pg.LNK Off.LNK.LNK_ERR 8 0 = v ∧ t.rdB Pg.LNK Off.HDR.FAULT_SUM 0 = true ∧ t.tval = s.tval ∧ SameBytes s t ∧
        (32 ≤ h.core → t.cores = s.cores) ∧
        (∀ it, h.core < 32 → (s.core h.core).items = [it] → it.key = h.item → it.fail = none →
          ((t.core h.core).item it.key).bind (·.fail) = some (ST.LINK_LOST, v))) ∧
    ((∀ h ∈ (s.outStream v).held, now.toNat < h.first.toNat + limit) → noEntries → exec (.e2eLimitExpiry dev now) s = .next s) ∧
    ((s.inStream v).owed = true → ∃ t, exec (.ackSend dev) s = .next t ∧ (t.inStream v).owed = false ∧
      (t.inStream v).expect = (s.inStream v).expect ∧ t.cores = s.cores ∧ t.tval = s.tval ∧ SameBytes s t) ∧
    ((s.inStream v).owed = false → exec (.ackSend dev) s = .next s) ∧
    (joined → m.op = .hello → msgLenOk m = true →
      (o ≠ s.devId → ∃ t, exec (.hello d m) s = .next t ∧ OnlyLinks s t [] ∧ (t.link d).peerDev = o ∧ (t.link d).conflict = false) ∧
      (o = s.devId → ∃ t, exec (.hello d m) s = .next t ∧ (t.link d).conflict = true ∧ t.rdB Pg.LNK Off.HDR.FAULT_SUM 1 = true ∧ SameBytes s t)) ∧
    (joined → m.op = .routeAdv → msgLenOk m = true → ∃ t, exec (.routeAdv d m) s = .next t ∧ OnlyLinks s t [] ∧
      (∀ x, x ∈ (t.link d).adv ↔ x ∈ m.adv ∨ (x ∈ k.adv ∧ ∀ y ∈ m.adv, y.dev ≠ x.dev))) ∧
    (passes → m.hop = 15 → ∃ t, exec (.messageForward d m) s = .next t ∧ Counted s t Pg.LNK Off.LNK.HOP_DROP_CNT ∧
      OnlyRegs { s with links := t.links } t [(Pg.LNK, Off.LNK.HOP_DROP_CNT)]) ∧
    (passes → m.hop ≠ 15 → s.egress m.dst.toNat = none → ∃ t, exec (.messageForward d m) s = .next t ∧ Counted s t Pg.LNK Off.LNK.NOROUTE_CNT ∧
      OnlyRegs { s with links := t.links } t [(Pg.LNK, Off.LNK.NOROUTE_CNT)]) ∧
    (passes → m.hop ≠ 15 → ∀ (p : Fin 8) alt, s.egress m.dst.toNat = some (p.val, alt) → ∃ t, exec (.messageForward d m) s = .next t ∧
      t = { s with links := t.links } ∧ (t.link p).fwd = (s.link p).fwd ++ [{ m with hop := m.hop + 1 }]) ∧
    (∀ (p : Fin 8) key, s.gateRows (.dl p) = [{ keys := key, work := .pass p m }] → ∃ t, exec (.gateGrant ⟨.dl p, false⟩) s = .next t ∧
      (t.link p).fwd = (s.link p).fwd.erase m ∧ t.sends p m ∧ t.cores = s.cores ∧ t.tval = s.tval ∧ SameBytes s t) ∧
    (m.dst.toNat = s.devId → exec (.messageForward d m) s = .next s)

/-! ## Jobs on other devices (R18, R314) -/

/-- A part of a job led elsewhere: its check round is answered with a JOB_RSP that carries the first refusal, or OK, and the part stays; told
to run, its quanta are accepted, told to drop it, it is gone. At the parent a JOB_RSP answers for its member and a REC ends its quantum; late ones are absorbed and change no job. LIMIT
periods without a JOB_RSP, or without a route to the member's device, count its quanta as failed with LINK_LOST. Said for one core of
this device as the target. How JOB, JOB_RSP and REC carry their fields is the model's choice (log entries 11 and 23). -/
def Obligations.RemoteJobs : Prop :=
  ∀ (d : Fin 8) (c : Fin 32) (m : Msg) (dev : BitVec 9) (j : Job) (x y : Member) (q : Quantum) (others : List Quantum) (s : State),
    s.units = true → s.ue = [] →
    let k := s.link d
    let o := m.src.toNat
    let i := s.inStream o
    let now := s.rig.t
    let limit := s.rdF Pg.LNK Off.LNK.E2E_CTRL 31 16
    let ready (op : MsgOp) : Prop := (k.st = .up ∨ k.st = .reneg) ∧ m.op = op ∧ msgLenOk m = true ∧ m.dst.toNat = s.devId ∧ m.seq = i.expect ∧ i.queue = []
    let quietly (t : State) : Prop := (t.inStream o).expect = i.expect + 1 ∧ t.tval = s.tval ∧ ∀ a, t.byte a = s.byte a
    let w := m.words
    let serves := (s.core c).st = .idle ∨ (s.core c).st = .run
    let answers (st : Nat) (l : List Job) : Prop := ∃ t h, exec (.job d m) s = .next t ∧ h ∈ (t.outStream o).all ∧ h.msg.op = .jobRsp ∧
      h.msg.value = m.frame ∧ h.msg.status.toNat = st ∧ t.jobs = s.jobs ++ l ∧ t.cores = s.cores ∧ quietly t
    (ready .job → m.value = 0 → s.partOf m = none → descTarget w = s.coreUnit c → (∀ z ∈ s.jobs, z.key < s.nextKey) →
      (s.badDesc w = true → answers ST.BAD_DESC []) ∧ (s.badDesc w = false → ¬serves → answers ST.STATE []) ∧
      (s.badDesc w = false → serves → s.coreRefusals c w = [] → ∃ z, answers ST.OK [z] ∧ z.ph = .checked ∧ z.src = .parent o m.frame ∧ z.desc = w)) ∧
    (∀ z, ready .job → m.value = 2 → s.jobs = [z] → s.partOf m = some z → z.members = [] → ∃ t, exec (.job d m) s = .next t ∧ t.jobs = [] ∧
      t.cores = s.cores ∧ quietly t) ∧
    (ready .job → m.value = 2 → s.partOf m = none → ∃ t, exec (.job d m) s = .next t ∧ t.jobs = s.jobs ∧ t.cores = s.cores ∧ quietly t) ∧
    (ready .job → m.value = 1 → s.partOf m = none → descTarget w = s.coreUnit c → (∀ z ∈ s.jobs, z.key < s.nextKey) → serves → s.coreRefusals c w = [] →
      m.quanta.length = 1 → (s.core c).waiting < 64 → ∃ t z, exec (.job d m) s = .next t ∧ z ∈ t.jobs ∧ z.ph = .running ∧ z.src = .parent o m.frame ∧
        z.quanta.map (·.idx) = m.quanta ∧ (∀ u ∈ z.quanta, u.st = .onCore c) ∧ (t.core c).waiting = (s.core c).waiting + 1 ∧ quietly t) ∧
    (ready .jobRsp → s.job m.value.toNat = none → ∃ t, exec (.jobRsp d m) s = .next t ∧ t.jobs = s.jobs ∧ t.cores = s.cores ∧ quietly t) ∧
    (ready .recMsg → s.job m.value.toNat = none → ∃ t, exec (.recMsg d m) s = .next t ∧ t.jobs = s.jobs ∧ t.cores = s.cores ∧ quietly t) ∧
    (s.jobs = [j] → j.ph = .checking → j.members = [x, y] → x.answer = none → y.answer = none → x.dev ≠ y.dev →
      (ready .jobRsp → m.value.toNat = j.key → x.dev = o → x.unit = m.addr.toNat / 2 ^ 15 → ∃ t j', exec (.jobRsp d m) s = .next t ∧ t.jobs = [j'] ∧
        j'.members = [{ x with answer := some (m.status.toNat, m.detail.toNat), cores := m.addr.toNat % 2 ^ 15, out := m.xfer == 1 }, y] ∧ j'.ph = .checking ∧
        quietly t) ∧
      (x.dev = dev.toNat → x.sent.toNat + limit ≤ now.toNat → ∃ t j', exec (.jobRspTimeout j.key dev now) s = .next t ∧ t.jobs = [j'] ∧
        j'.members = [{ x with answer := some (ST.LINK_LOST, dev.toNat), cores := 0, out := false }, y] ∧ j'.ph = .checking ∧
        OnlyLogged { s with jobs := t.jobs } t []) ∧
      (x.dev = dev.toNat → now.toNat < x.sent.toNat + limit → exec (.jobRspTimeout j.key dev now) s = .next s)) ∧
    (s.jobs = [j] → j.ph = .running → j.quanta = q :: others → (∀ z ∈ others, z.idx ≠ q.idx) → (∃ z ∈ others, QuantumSt.hasEnded z.st = false) →
      (ready .recMsg → m.value.toNat = j.key → q.st = .remote o → q.idx = wf w 4 31 16 → wf w 2 31 24 = 0 → descRecordMode j.desc = false →
        ∀ n, j.src = .ring n → ∃ t j', exec (.recMsg d m) s = .next t ∧ t.jobs = [j'] ∧ j'.done = j.done + 1 ∧ j'.failed = j.failed ∧
          j'.lines = j.lines + wf w 4 15 0 ∧ t.ringMem = s.ringMem ∧ quietly t) ∧
      (q.st = .remote dev.toNat → (∀ z ∈ others, z.st ≠ .remote dev.toNat) → dev.toNat ≠ s.devId → s.routeUsable dev.toNat = false →
        (SMap.get (fun _ => 0) s.links.noRoute dev.toNat : W64).toNat + limit ≤ now.toNat →
        ∃ t j', exec (.memberRouteTimeout dev now) s = .next t ∧ t.jobs = [j'] ∧ j'.failed = j.failed + 1 ∧ j'.done = j.done ∧
          (j.fail = none → j'.fail = some (ST.LINK_LOST, dev.toNat)) ∧ t.cores = s.cores ∧ t.tval = s.tval)) ∧
    ((dev.toNat = s.devId ∨ s.routeUsable dev.toNat = true) → exec (.memberRouteTimeout dev now) s = .next s)

/-! ## Power domains, resets, the firing (R107, R108, R307, R342, R343, R345 to R348, R351) -/

/-- PD_REQ, the switching of domains and the loading of a core that has come up. Each bit of PD_REQ that may change does; one that may not
keeps its value and leaves STATE. The next domain whose request differs is switched: a core comes up OFF with its stores at 0, and is
IDLE once its banks are loaded, with both directories empty where no set is active; a domain whose trimming fails sets PD_FAIL and bit 0 of PWR's FAULT_SUM. A domain lost without a request
takes its core OUT. Resets, the end of the firing (where memory training comes to nothing there is no LPDDR5X region) and READY. Said for a core with no item, with nothing of others landing. -/
def Obligations.PowerDomains : Prop :=
  ∀ (src : Agent) (hi : Bool) (v : W32) (pd : Fin 40) (c : Fin 32) (failed : List CalItem) (mem : MemFiring) (ms : BitVec 16) (s : State),
    s.units = true →
    let off := if hi then Off.PWR.PD_REQ_HI else Off.PWR.PD_REQ_LO
    let base := if hi then 32 else 0
    let old := s.rd Pg.PWR off
    let busy (n : Nat) : Prop := if n < 32 then (s.core n).st = .idle ∨ (s.core n).st = .run
      else if n < 36 then ∃ p < 24, 32 + p / 6 = n ∧ ((s.port p).st = .training ∨ (s.port p).st = .ready ∨ (s.port p).st = .stream ∨ (s.port p).st = .stopping)
      else if n = 38 then ∃ d < 8, bit (s.rd (Pg.DL d) Off.DL.DL_CFG) 31 = true
      else s.rdB Pg.HP Off.HP.HP_CFG 31 = true
    let barred (i : Nat) : Prop := bit v i ≠ bit old i ∧
      (s.power.ready = false ∨ base + i = 36 ∨ base + i = 37 ∨ (bit v i = false ∧ busy (base + i)))
    let n := if hi then 8 else 32
    let k := s.core c
    let alone : Prop := k.items = [] ∧ (∀ w ∈ k.wins, w.landing = []) ∧ s.jobs = []
    let blank (t : State) : Prop := (t.core c).st = .off ∧ (t.core c).imem = [] ∧ (t.core c).active = false ∧ (t.core c).vreg = [] ∧
      (t.core c).acc = [] ∧ ∀ a, t.byte a = if (0x4000000000 + c.val * 0x400000 ≤ a ∧ a < 0x4000000000 + (c.val + 1) * 0x400000) ∨
        (0x4800000000 + c.val * 0x80000 ≤ a ∧ a < 0x4800000000 + (c.val + 1) * 0x80000) then 0 else s.byte a
    let kept (t : State) : Prop := t.mram = s.mram ∧ t.flash = s.flash ∧ t.trayFp = s.trayFp ∧ t.log.ring = s.log.ring ∧ t.log.head = s.log.head ∧
      t.pending = s.pending
    let restarted (t : State) (cause : Nat) : Prop := kept t ∧ (∀ c, (t.core c).st = .off) ∧ t.mem = [] ∧ t.ringMem = [] ∧ t.tval = [] ∧ t.jobs = [] ∧
      t.power.pd = 0 ∧ t.power.ready = false ∧ t.mgmt.run = .off ∧ t.rig = {} ∧ (t.rd Pg.PWR Off.PWR.RST_CAUSE).toNat = cause ∧
      ∀ p o b, p < 2048 → o < 4096 → b < 4096 → (p, o) ≠ (Pg.PWR, Off.PWR.RST_CAUSE) → t.rd p o b = State.reset.rd p o b
    (∃ t, exec (.pdReqWrite src hi v) s = .next t ∧
      (∀ i < n, (barred i → bit (t.rd Pg.PWR off) i = bit old i) ∧ (¬barred i → bit (t.rd Pg.PWR off) i = bit v i)) ∧
      ((∃ i < n, barred i) → t.rdF Pg.PWR Off.PWR.PWR_CMD 23 16 = ST.STATE ∧ OnlyLogged s t [(Pg.PWR, off), (Pg.PWR, Off.PWR.PWR_CMD)]) ∧
      ((∀ i < n, ¬barred i) → OnlyRegs s t [(Pg.PWR, off)])) ∧
    (pd.val = c → s.nextSwitch pd = true → s.requested pd = true → ∃ t, exec (.domainSwitchOn pd true) s = .next t ∧ t.domainOn pd = true ∧ blank t ∧
      (∀ m, m ≠ pd.val → t.domainOn m = s.domainOn m) ∧ Counted s t Pg.PWR Off.PWR.SWITCH_CNT) ∧
    (s.nextSwitch pd = true → s.requested pd = true → ∃ t, exec (.domainSwitchOn pd false) s = .next t ∧ t.pdFailed pd = true ∧
      t.rdB Pg.PWR Off.HDR.FAULT_SUM 0 = true ∧ t.power = s.power ∧ t.cores = s.cores ∧ SameBytes s t) ∧
    (s.nextSwitch pd = false → (∀ ok, exec (.domainSwitchOn pd ok) s = .next s) ∧ exec (.domainSwitchOff pd) s = .next s) ∧
    (pd.val = c → s.nextSwitch pd = true → s.requested pd = false → ∃ t, exec (.domainSwitchOff pd) s = .next t ∧ t.domainOn pd = false ∧ blank t ∧
      (∀ m, m ≠ pd.val → t.domainOn m = s.domainOn m) ∧ Counted s t Pg.PWR Off.PWR.SWITCH_CNT) ∧
    (s.coreWaits c = true → s.mgmt.run = .running → ∃ t, exec (.coreLoadDone c) s = .next t ∧ (t.core c).st = .idle ∧ SameBytes s t ∧
      (s.mgmt.active = none → (∀ b, ∀ e < 16, (t.core c).dirHi b e = 0 ∧ (t.core c).dirLo b e = 0) ∧ OnlyCore s t c)) ∧
    ((s.coreWaits c = false ∨ s.mgmt.run ≠ .running) → exec (.coreLoadDone c) s = .next s) ∧
    (s.domainOn pd = false → exec (.domainPowerLoss pd) s = .next s) ∧
    (pd.val = c → s.domainOn pd = true → (k.st = .idle ∨ k.st = .run) → alone → ∃ t, exec (.domainPowerLoss pd) s = .next t ∧ blank t ∧
      (t.core c).cause = 4 ∧ t.domainOn pd = false ∧ t.pdFailed pd = true ∧ t.rdB Pg.PWR Off.HDR.FAULT_SUM 0 = true ∧
      t.rdB (Pg.CORE c) Off.HDR.FAULT_SUM 5 = true) ∧
    (∃ t, exec (.railFault .vddIo) s = .next t ∧ OnlyFault s t Pg.PWR 1 []) ∧
    (∀ r, (r = .vddSram → ∀ c' : Fin 32, (s.core c').st ≠ .idle ∧ (s.core c').st ≠ .run) →
      ∃ t, exec (.railFault r) s = .next t ∧ ∀ m ∈ railDomains r, t.domainOn m = false) ∧
    (∃ t, exec .porstNAssert s = .next t ∧ restarted t 1 ∧ t.power.porst = true) ∧
    (∃ t, exec .porstNRelease s = .next t ∧ t = { s with power := { s.power with porst := false } }) ∧
    (s.power.porst = false → (s.power.cold = false ∨ s.power.ready = true) → ∃ t, exec .warmNAssert s = .next t ∧ restarted t 2) ∧
    (s.power.cold = true → s.power.ready = false → exec .warmNAssert s = .next s) ∧
    (s.power.porst = false → ∃ t, exec .warm s = .next t ∧ restarted t 3) ∧
    (s.power.porst = true → exec .warmNAssert s = .next s ∧ exec .warm s = .next s) ∧
    (s.power.running = false → exec (.firingComplete failed mem ms) s = .next s) ∧
    (s.power.running = true → s.mram.autoWarm = false → ∃ t, exec (.firingComplete failed mem ms) s = .next t ∧ t.power.fired = true ∧
      t.power.running = false ∧ t.power.failed = failed ∧ (s.memOutcome mem failed = none → t.rd Pg.MEM Off.MEM.MEM_TOP = 0) ∧
      (∀ f r fell, s.memOutcome mem failed = some (f, r, fell) → t.rdF Pg.MEM Off.MEM.MEM_CFG 31 30 = f ∧
        t.rdF Pg.MEM Off.MEM.MEM_CFG 15 0 = [3200, 4266, 5500, 6400, 7500, 8533].getD r 0) ∧
      t.mram.fireCnt.toNat = min (s.mram.fireCnt.toNat + 1) 0xFFFFFFFF) ∧
    (s.mayBeReady = true → ∃ t, exec .readySet s = .next t ∧ t.power = { s.power with ready := true } ∧ t.mgmt.cfg = .loading ∧
      OnlyRegs { s with power := t.power, mgmt := t.mgmt, free := t.free } t [(Pg.PWR, Off.PWR.BOOT_TIME)]) ∧
    (s.mayBeReady = false → exec .readySet s = .next s)

/-! ## Monitors, pace control, limits, the event log (R317 to R319, R321, R323) -/

/-- A sample shows every temperature, voltage and the power, and a monitor outside its window sets its bit of MON's FAULT_SUM (the places of
the two bounds in the window are the model's, log entry 6). A control step lowers, raises or holds the set point within VLIMIT. A hot
core goes OUT with cause 0b0101, a hot domain of another kind sets bit 1 of MGT's FAULT_SUM, an excursion of VDD_CORE takes every core
OUT and sets bit 2. The oldest buffered event takes the next SEQ and its slot in MRAM. -/
def Obligations.MonitorsAndLimits : Prop :=
  ∀ (temps volts : List (BitVec 16)) (power : BitVec 16) (capped : Bool) (pd : Fin 40) (s : State), s.units = true →
    let now := s.rig.t
    let running : Prop := s.mgmt.run = .running
    let win (m : Nat) := s.rd Pg.MON (Off.MON.WINDOW0 + 4 * m)
    let v := s.rdF Pg.MGT Off.MGT.VNOW 15 0
    let step := s.rdF Pg.MGT Off.MGT.PACE_CTRL 23 16
    let lo := s.rdF Pg.MGT Off.MGT.VLIMIT 15 0
    let hi := s.rdF Pg.MGT Off.MGT.VLIMIT 31 16
    let hot (limit : Nat) : Prop := ∃ n < 32, (16 * limit : Int) ≤ sfld (s.rd Pg.MON (Off.MON.TEMP0 + 4 * n)) 15 0
    let tooHot : Prop := capped = true ∨ hot (s.rdF Pg.MGT Off.MGT.THERM 7 0)
    let lag := min s.lagNow.1 0xFFFF
    let lagHi := s.rdF Pg.MGT Off.MGT.PACE_LAG 31 16
    let raises : Prop := ¬tooHot ∧ lagHi < lag ∧ ¬hot (s.rdF Pg.MGT Off.MGT.THERM 15 8)
    let lowers : Prop := tooHot ∨ (¬raises ∧ lag < s.rdF Pg.MGT Off.MGT.PACE_LAG 15 0)
    let due : Prop := s.rdB Pg.MGT Off.MGT.PACE_CTRL 31 = true ∧ running ∧ s.mgmt.paceAt.toNat + s.rdF Pg.MGT Off.MGT.PACE_CTRL 15 0 ≤ now.toNat
    let set (t : State) : Nat := t.rdF Pg.MGT Off.MGT.VNOW 15 0
    let serves (c : Nat) : Prop := (s.core c).st = .idle ∨ (s.core c).st = .run
    let idle : Prop := s.jobs = [] ∧ ∀ c : Fin 32, (s.core c).items = [] ∧ ∀ w ∈ (s.core c).wins, w.landing = []
    (running → ∃ t, exec (.monitorSample temps volts power) s = .next t ∧
      (∀ n < 40, n < temps.length → t.rd Pg.MON (Off.MON.TEMP0 + 4 * n) = (temps.getD n 0).setWidth 32) ∧
      (∀ m < 16, m < volts.length → t.rd Pg.MON (Off.MON.VOLT0 + 4 * m) = (volts.getD m 0).setWidth 32 ∧
        ((volts.getD m 0).toNat < fld (win m) 15 0 ∨ fld (win m) 31 16 < (volts.getD m 0).toNat → t.rdB Pg.MON Off.HDR.FAULT_SUM m = true)) ∧
      t.rdF Pg.MGT Off.MGT.POWER 15 0 = power.toNat ∧ t.cores = s.cores ∧ t.tval = s.tval ∧ SameBytes s t) ∧
    (s.mgmt.run = .off ∨ s.mgmt.run = .recovery → exec (.monitorSample temps volts power) s = .next s) ∧
    (due → lo ≤ hi → ∃ t, exec (.paceStep capped now) s = .next t ∧ t.mgmt.paceAt = now ∧ t.cores = s.cores ∧ SameBytes s t ∧
      (lowers → set t = min (max (v - step) lo) hi) ∧ (raises → set t = min (max (v + step) lo) hi) ∧
      (¬lowers → ¬raises → set t = min (max v lo) hi) ∧ (lagHi < lag → set t ≤ v → t.rdB Pg.MGT Off.HDR.FAULT_SUM 0 = true)) ∧
    (¬due → exec (.paceStep capped now) s = .next s) ∧
    (running → 32 ≤ pd.val → ∃ t, exec (.thermalLimit pd) s = .next t ∧ OnlyFault s t Pg.MGT 1 []) ∧
    (running → pd.val < 32 → serves pd → idle → ∃ t, exec (.thermalLimit pd) s = .next t ∧ (t.core pd).st = .out ∧ (t.core pd).cause = 5 ∧
      t.rdB (Pg.CORE pd) Off.HDR.FAULT_SUM 5 = true ∧ t.tval = s.tval ∧ SameBytes s t ∧ ∀ c, c ≠ pd.val → (t.core c).st = (s.core c).st) ∧
    (¬running → exec (.thermalLimit pd) s = .next s ∧ exec .vcoreExcursion s = .next s ∧ exec .logEntryWrite s = .next s) ∧
    (running → idle → ∃ t, exec .vcoreExcursion s = .next t ∧ t.rdB Pg.MGT Off.HDR.FAULT_SUM 2 = true ∧ t.tval = s.tval ∧ SameBytes s t ∧
      ∀ c : Fin 32, serves c → (t.core c).st = .out ∧ (t.core c).cause = 5) ∧
    (running → s.log.reserve = [] → ∀ e r, s.log.buf = e :: r → ∃ t, exec .logEntryWrite s = .next t ∧ t = { s with log := t.log } ∧
      SMap.find t.log.ring (s.log.head.toNat % 32768) = some [s.log.head,
        BitVec.ofNat 32 (e.page % 2 ^ 12 * 2 ^ 20 + e.bit % 2 ^ 6 * 2 ^ 14 + e.code % 2 ^ 8), e.time.setWidth 32, (e.time >>> 32).setWidth 32,
        BitVec.ofNat 32 (e.unit % 2 ^ 24), e.detail, e.arg.setWidth 32, (e.arg >>> 32).setWidth 32] ∧
      (∀ i, i ≠ s.log.head.toNat % 32768 → SMap.find t.log.ring i = SMap.find s.log.ring i) ∧ t.log.buf = r ∧
      t.log.head = if s.log.head = 0xFFFFFFFF then 1 else s.log.head + 1) ∧
    (s.log.buf = [] → s.log.reserve = [] → exec .logEntryWrite s = .next s)

/-! ## The management controller (R325, R327 to R329, R340) -/

/-- Images: LOAD, ACTIVATE and CONFIRM with their refusals, the end of a LOAD, the choice of the boot ROM, recovery mode. Keys: the owner key is
set once and then changed only by a container it signs. Attestation: the report lies at ATT_DST when DONE is set. BOARD_CONTROLLER_TRANSFER
completes while the controller runs, answering as many words as it reads; with the controller away it has no effect. That a LOAD is also
refused while another runs, where a refusal of the SEC page is recorded and where SET_OWNER finds the key is the model's choice (log
entries 6 and 40). -/
def Obligations.ManagementController : Prop :=
  ∀ (image : List Byte) (s : State),
    let m := s.mgmt
    let away : Prop := m.run = .restarting
    let refused (i : Instr) (p off code : Nat) : Prop := ∃ t, exec i s = .next t ∧ t.rdF p off 23 16 = code ∧ OnlyRefused s t code [(p, off)]
    let noMgt (i : Instr) : Prop := refused i Pg.MGT Off.MGT.MGT_CMD ST.STATE
    let fw := (s.containerAt (s.rdF Pg.MGT Off.MGT.FW_SRC_HI 6 0 * 2 ^ 32 + (s.rd Pg.MGT Off.MGT.FW_SRC_LO).toNat)).getD []
    let boot := s.flash.boot
    let trying := decide (boot.tryFlag = true ∧ boot.tryCount = 1)
    let first := boot.primary != trying
    let good (b : Bool) : Prop := s.checkImage (s.flash.image b) = ST.OK
    let chosen (t : State) : Prop :=
      (good first → t.mgmt.run = .running ∧ t.mgmt.slotB = first ∧ t.mgmt.tryRun = trying ∧ t.mgmt.image = s.flash.image first) ∧
      (¬good first → good !first → t.mgmt.run = .running ∧ t.mgmt.slotB = (!first) ∧ t.mgmt.tryRun = false ∧ t.mgmt.image = s.flash.image !first) ∧
      (¬good first → (¬good !first) → t.mgmt.run = .recovery ∧ t.power = s.power) ∧
      t.flash = { s.flash with boot := { boot with tryCount := if trying then 0 else boot.tryCount } } ∧
      (∀ fp, s.trayFp = some fp → t.trayFp = some fp)
    let key := s.rdF Pg.SEC Off.SEC.OWNER_SRC_HI 6 0 * 2 ^ 32 + (s.rd Pg.SEC Off.SEC.OWNER_SRC_LO).toNat
    let unset : Prop := ∀ x ∈ s.mram.ownerFp, x = 0
    let own := (s.containerAt key).getD []
    let ownCode := checkContainer own 4 s.mram.ownerFp (ownerKey own).isSome true
    (¬away → m.tryRun = false → m.imgLoad = false → exec .mgtLoad s = .next { s with mgmt := { m with imgLoad := true } }) ∧
    (away ∨ m.tryRun = true ∨ m.imgLoad = true → noMgt .mgtLoad) ∧
    (m.imgLoad = true → m.run = .running → s.checkImage fw = ST.OK → exec .mgtImageLoadDone s =
      .next { s with mgmt := { m with imgLoad := false, otherOk := true },
                     flash := if m.slotB then { s.flash with imgA := fw } else { s.flash with imgB := fw } }) ∧
    (m.imgLoad = true → m.run = .running → s.checkImage fw ≠ ST.OK → ∃ t, exec .mgtImageLoadDone s = .next t ∧
      t.rdF Pg.MGT Off.MGT.MGT_CMD 23 16 = s.checkImage fw % 256 ∧
      OnlyFault { s with mgmt := { m with imgLoad := false } } t Pg.MGT 3 [(Pg.MGT, Off.MGT.MGT_CMD)]) ∧
    (m.imgLoad = false ∨ m.run ≠ .running → exec .mgtImageLoadDone s = .next s) ∧
    (¬away → m.tryRun = false → m.otherOk = true → ∃ t, exec .mgtActivate s = .next t ∧ t.mgmt.run = .restarting ∧
      t = { s with mgmt := t.mgmt, flash := { s.flash with boot := { boot with tryFlag := true, tryCount := 1 } } }) ∧
    (away ∨ m.tryRun = true ∨ m.otherOk = false → noMgt .mgtActivate) ∧
    (¬away → m.tryRun = true → ∃ t, exec .mgtConfirm s = .next t ∧ t.mgmt = { m with tryRun := false } ∧
      t.flash.boot.primary = m.slotB ∧ t.flash.boot.tryFlag = false ∧ t.flash.imgA = s.flash.imgA ∧ t.flash.imgB = s.flash.imgB ∧
      t.mram.fwFloor.toNat = max s.mram.fwFloor.toNat (contFloor m.image).toNat ∧
      t = { s with mgmt := t.mgmt, flash := t.flash, mram := { s.mram with fwFloor := t.mram.fwFloor } }) ∧
    (away ∨ m.tryRun = false → noMgt .mgtConfirm) ∧
    (m.run = .running → ∃ t, exec .mcWatchdog s = .next t ∧ t.mgmt.run = .restarting ∧ t = { s with mgmt := t.mgmt } ∧ t.mgmt.cfg = m.cfg ∧
      t.mgmt.active = m.active) ∧
    (m.run ≠ .running → exec .mcWatchdog s = .next s) ∧
    (m.run = .off → s.power.porst = false → ∃ t, exec .mcBoot s = .next t ∧ chosen t ∧ (good first ∨ good (!first) → t.power.running = true)) ∧
    (m.run = .restarting → ∃ t, exec .mcBoot s = .next t ∧ chosen t ∧ t.power = s.power) ∧
    (m.run = .running ∨ m.run = .recovery ∨ (m.run = .off ∧ s.power.porst = true) → exec .mcBoot s = .next s) ∧
    (m.run = .recovery → s.checkImage image = ST.OK → ∃ t, exec (.recoveryImage image) s = .next t ∧
      t = { s with flash := { s.flash with imgA := image }, trayFp := t.trayFp } ∧ (∀ fp, s.trayFp = some fp → t.trayFp = some fp) ∧
      (s.trayFp = none → t.trayFp = some (Config.shake256 (contKey image) 32))) ∧
    (m.run ≠ .recovery ∨ s.checkImage image ≠ ST.OK → exec (.recoveryImage image) s = .next s) ∧
    (¬away → unset → (∃ n, s.regionOf key 1952 = some (.staging n)) → s.ue = [] → exec .setOwner s =
      .next { s with mram := { s.mram with ownerFp := Config.shake256 (s.bytes key 1952) 32 } }) ∧
    (away ∨ ¬unset → refused .setOwner Pg.SEC Off.SEC.OWNER_CMD ST.STATE) ∧
    (¬away → ownCode = ST.OK → ∀ k, ownerKey own = some k → exec .change s =
      .next { s with mram := { s.mram with ownerFp := Config.shake256 k 32 } }) ∧
    (¬away → ownCode ≠ ST.OK → ∃ t, exec .change s = .next t ∧ t.rdF Pg.SEC Off.SEC.OWNER_CMD 23 16 = ownCode % 256 ∧
      t = { s with regs := t.regs, log := t.log }) ∧
    (away → refused .change Pg.SEC Off.SEC.OWNER_CMD ST.STATE) ∧
    (¬away → m.report = false → s.reportFits = true → ∃ t, exec .attest s = .next t ∧ t.mgmt = { m with report := true } ∧
      t.rdB Pg.SEC Off.SEC.ATT_CMD 31 = false ∧ OnlyRegs { s with mgmt := t.mgmt } t [(Pg.SEC, Off.SEC.ATT_CMD)]) ∧
    (away ∨ m.report = true → refused .attest Pg.SEC Off.SEC.ATT_CMD ST.STATE) ∧
    (¬away → m.report = false → s.reportFits = false → refused .attest Pg.SEC Off.SEC.ATT_CMD ST.BAD_DESC) ∧
    (m.report = true → m.run = .running → s.sound = true → s.ue = [] → s.reportFits = true → ∃ t, exec .attestDone s = .next t ∧
      t.mgmt = { m with report := false } ∧ t.rdB Pg.SEC Off.SEC.ATT_CMD 31 = true ∧
      (∀ i < s.reportBytes.length, t.byte (s.attDst + i) = s.reportBytes.getD i 0) ∧
      (∀ a, ¬(s.attDst ≤ a ∧ a < s.attDst + s.reportBytes.length) → t.byte a = s.byte a)) ∧
    (m.report = false ∨ m.run ≠ .running → exec .attestDone s = .next s) ∧
    (m.run = .running → ∀ (page off : BitVec 16) (ws : List W32) (n : Nat), ∃ t, exec (.boardControllerTransfer page off ws n) s = .next t ∧
      t.out.length = n ∧ (ws = [] → n = 1 → t.out = [s.readReg .mc page.toNat off.toNat])) ∧
    (m.run ≠ .running → ∀ (page off : BitVec 16) (ws : List W32) (n : Nat), exec (.boardControllerTransfer page off ws n) s = .next s)

/-! ## Configuration sets (R332 to R336, R349) -/

/-- LOAD, DISCARD and CONFIRM with their refusals; a LOAD that ends with a refusal returns to IDLE with CODE and bit 0 of FAULT_SUM; one that
is accepted ends STAGED, with its DATA copied, its container in the free slot and the standby banks written; COMMIT and REVERT with their
refusals; the end of APPLYING; the previous set after READY. The staging is said for a set with one DATA section and no BANK section: every
core in service gets an empty standby directory. -/
def Obligations.ConfigurationSets : Prop :=
  ∀ (v : W32) (data : Nat × List Byte) (s : State), s.units = true →
    let m := s.mgmt
    let away : Prop := m.run = .restarting
    let refused (i : Instr) : Prop := ∃ t, exec i s = .next t ∧ t.rdF Pg.CFG Off.CFG.CFG_STATE 23 16 = ST.STATE ∧
      OnlyLogged s t [(Pg.CFG, Off.CFG.CFG_STATE)]
    let version (c : Option CfgSet) : W32 := match c with
      | some c => c.version
      | none => 0
    let b := m.stagedSrc
    let cs := setOf b
    let loads : Prop := ¬away ∧ m.cfg = .loading ∧ m.load = some .set
    let failed (t : State) (code : Nat) : Prop := t.mgmt.cfg = .idle ∧ t.rdF Pg.CFG Off.CFG.CFG_STATE 23 16 = code ∧ t.mgmt.active = m.active ∧
      t.mgmt.prev = m.prev ∧ OnlyFault { s with mgmt := t.mgmt } t Pg.CFG 0 [(Pg.CFG, Off.CFG.CFG_STATE)]
    let on (c : Nat) : Prop := (s.core c).st ≠ .off
    let emptied (t : State) : Prop := ∀ c < 32, (on c → (∀ e < 16, dirUsed ((t.core c).dirHi (!(s.core c).active) e) = false) ∧
      ∀ i < 8192, (t.core c).iword (s.core c).active i = (s.core c).iword (s.core c).active i) ∧
      (t.core c).active = (s.core c).active ∧ (t.core c).st = (s.core c).st
    let swaps (t : State) : Prop := ∀ c < 32, (on c → (t.core c).swap = true) ∧ (¬on c → t.core c = s.core c)
    let entry (t : State) (code : Nat) : Prop := t.rdF Pg.CFG Off.CFG.CFG_STATE 23 16 = code ∧
      OnlyFault s t Pg.CFG 1 [(Pg.CFG, Off.CFG.CFG_STATE)]
    let reverts : Prop := ¬away ∧ m.cfg = .idle ∧ m.prevValid = true
    let committed := { m with cfg := .applying, prev := m.active, active := m.staged, staged := none, prevValid := true }
    let inForce : Prop := (∀ c < 32, (s.core c).swap = false) ∧ ∀ p < 24, (s.port p).swapPend = false
    (¬away → m.cfg = .idle → ∃ t, exec .cfgLoad s = .next t ∧ t = { s with mgmt := t.mgmt } ∧ t.mgmt.cfg = .loading ∧
      t.mgmt.load = some .set ∧ t.mgmt.prevValid = false ∧ t.mgmt.active = m.active ∧ t.mgmt.prev = m.prev) ∧
    (away ∨ m.cfg ≠ .idle → refused .cfgLoad ∧ refused .cfgConfirm) ∧
    (loads → s.checkSet b ≠ ST.OK → ∃ t, exec .cfgLoadDone s = .next t ∧ failed t (s.checkSet b % 256)) ∧
    (loads → s.checkSet b = ST.OK → s.dataInside cs = false → ∃ t, exec .cfgLoadDone s = .next t ∧ failed t ST.BAD_DESC) ∧
    (loads → s.checkSet b = ST.OK → s.dataInside cs = true → dataMeets cs m.active = true → ∃ t, exec .cfgLoadDone s = .next t ∧ failed t ST.STATE) ∧
    (loads → s.checkSet b = ST.OK → s.dataInside cs = true → dataMeets cs m.active = false → cs.banks = [] → cs.data = [data] → s.sound = true →
      s.ue = [] → s.ueWords data.1 data.2.length = [] → ∃ t i, exec .cfgLoadDone s = .next t ∧ t.mgmt.cfg = .staged ∧ t.mgmt.staged = some cs ∧
        t.mgmt.active = m.active ∧ t.mgmt.prev = m.prev ∧ emptied t ∧
        (∀ k < data.2.length, t.byte (data.1 + k) = data.2.getD k 0) ∧
        (∀ a, ¬(data.1 ≤ a ∧ a < data.1 + data.2.length) → t.byte a = s.byte a) ∧
        t.flash.boot = { s.flash.boot with setStaged := some i } ∧ s.flash.boot.setActive ≠ some i ∧ s.flash.boot.setPrev ≠ some i ∧
        t.flash.sets = s.flash.sets.set i b ∧ t.tval = s.tval) ∧
    (¬loads → exec .cfgLoadDone s = .next s) ∧
    (¬away → m.cfg = .staged → ∃ t, exec .cfgDiscard s = .next t ∧ t.mgmt = { m with cfg := .idle, staged := none, covered := [] } ∧
      t.flash = { s.flash with boot := { s.flash.boot with setStaged := none } } ∧ emptied t ∧ t.regs = s.regs ∧ SameBytes s t) ∧
    (away ∨ m.cfg ≠ .staged → refused .cfgDiscard) ∧
    (¬away → m.cfg = .idle → ∃ t, exec .cfgConfirm s = .next t ∧ t = { s with mram := { s.mram with setFloor := t.mram.setFloor } } ∧
      t.mram.setFloor.toNat = max s.mram.setFloor.toNat (version m.active).toNat) ∧
    (away ∨ m.cfg ≠ .staged → entry (s.cfgCommit v) ST.STATE) ∧
    (¬away → m.cfg = .staged → v ≠ version m.staged → entry (s.cfgCommit v) ST.VERSION) ∧
    (¬away → m.cfg = .staged → v = version m.staged → (s.cfgCommit v).mgmt = committed ∧ swaps (s.cfgCommit v) ∧ Counted s (s.cfgCommit v) Pg.CFG Off.CFG.APPLY_CNT ∧ SameBytes s (s.cfgCommit v)) ∧
    (¬reverts → entry (s.cfgRevert v) ST.STATE) ∧
    (reverts → (v ≠ version m.prev ∨ (version m.prev).toNat < s.mram.setFloor.toNat) → entry (s.cfgRevert v) ST.VERSION) ∧
    (reverts → v = version m.prev → s.mram.setFloor.toNat ≤ (version m.prev).toNat → (s.cfgRevert v).mgmt = { m with cfg := .applying, prev := m.active, active := m.prev } ∧ swaps (s.cfgRevert v) ∧ Counted s (s.cfgRevert v) Pg.CFG Off.CFG.APPLY_CNT ∧ SameBytes s (s.cfgRevert v)) ∧
    (m.cfg = .applying → inForce → ∃ t, exec .cfgApplyComplete s = .next t ∧ t = { s with mgmt := { m with cfg := .idle }, flash := t.flash } ∧
      t.flash.sets = s.flash.sets ∧ (∀ i, s.flash.boot.setStaged = some i →
        t.flash.boot = { s.flash.boot with setActive := some i, setPrev := s.flash.boot.setActive, setStaged := none }) ∧
      (s.flash.boot.setStaged = none → t.flash.boot = { s.flash.boot with setActive := s.flash.boot.setPrev, setPrev := s.flash.boot.setActive })) ∧
    (m.cfg ≠ .applying ∨ (∃ c < 32, (s.core c).swap = true) → exec .cfgApplyComplete s = .next s) ∧
    (¬away → m.cfg = .loading → m.load = some .prev → s.storedSet s.flash.boot.setPrev = none →
      exec .prevSetLoaded s = .next { s with mgmt := { m with cfg := .idle, load := none } }) ∧
    (¬away → m.cfg = .loading → m.load = some .prev → ∀ p, s.storedSet s.flash.boot.setPrev = some p → dataMeets p m.active = false →
      ∃ t, exec .prevSetLoaded s = .next t ∧ t.mgmt = { m with cfg := .idle, load := none, prev := some p, prevValid := true } ∧
        (∀ c < 32, (t.core c).active = (s.core c).active ∧ (t.core c).st = (s.core c).st)) ∧
    ((away ∨ m.cfg ≠ .loading ∨ m.load ≠ some .prev) → exec .prevSetLoaded s = .next s)

/-! ## Lane arithmetic (R82, R135, R137) -/

/-- What an integer lane command writes, lane by lane (VectorEntryCompletes says that it is written): sums, differences and products modulo
2^32, the saturating forms with SAT, minima, maxima and magnitudes, bitwise operations, shifts by N with 0 or the sign from 32 on, VSHRR
rounding half to even, compares, selection, requantised lanes (SAT where a lane leaves the format), reductions to every lane. Under SB the second operand is S[VB] at issue. -/
def Obligations.LaneArithmetic : Prop :=
  ∀ (k : Core) (e : QEntry) (c : Fin 32) (f : VecF),
    let a (l : Nat) := k.vlane f.va.toNat l
    let b (l : Nat) := if f.sb then e.s f.vb.toNat else k.vlane f.vb.toNat l
    let m (l : Nat) := k.vlane f.vc.toNat l
    let n := f.n.toNat
    let lo : Int := -(2 ^ 31)
    let hi : Int := 2 ^ 31 - 1
    let quiet (i : Instr) (P : Nat → W32 → Prop) : Prop := e.op = i → ∃ ls, vecResult k e = some (f.vd.toNat, ls, 0) ∧ ls.length = 64 ∧
      ∀ l < 64, P l (ls.getD l 0)
    let sat (i : Instr) (x : Nat → Int) : Prop := e.op = i → ∃ ls fl, vecResult k e = some (f.vd.toNat, ls, fl) ∧ ls.length = 64 ∧
      (∀ l < 64, (ls.getD l 0).toInt = min (max (x l) lo) hi) ∧ (fl = AF.SAT ↔ ∃ l < 64, x l < lo ∨ hi < x l) ∧ (fl = AF.SAT ∨ fl = 0)
    quiet (.vadd c f) (fun l r => r.toNat = ((a l).toNat + (b l).toNat) % 2 ^ 32) ∧
    quiet (.vsub c f) (fun l r => (r.toNat + (b l).toNat) % 2 ^ 32 = (a l).toNat) ∧
    quiet (.vmul c f) (fun l r => r.toNat = (a l).toNat * (b l).toNat % 2 ^ 32) ∧
    sat (.vadds c f) (fun l => (a l).toInt + (b l).toInt) ∧
    sat (.vsubs c f) (fun l => (a l).toInt - (b l).toInt) ∧
    sat (.vabs c f) (fun l => max (a l).toInt (-(a l).toInt)) ∧
    quiet (.vmin c f) (fun l r => r.toInt = min (a l).toInt (b l).toInt) ∧
    quiet (.vmax c f) (fun l r => r.toInt = max (a l).toInt (b l).toInt) ∧
    quiet (.vand c f) (fun l r => ∀ i, r.getLsbD i = ((a l).getLsbD i && (b l).getLsbD i)) ∧
    quiet (.vor c f) (fun l r => ∀ i, r.getLsbD i = ((a l).getLsbD i || (b l).getLsbD i)) ∧
    quiet (.vxor c f) (fun l r => ∀ i, r.getLsbD i = ((a l).getLsbD i ^^ (b l).getLsbD i)) ∧
    quiet (.vshl c f) (fun l r => r.toNat = (a l).toNat * 2 ^ n % 2 ^ 32) ∧
    quiet (.vshra c f) (fun l r => r.toInt = (a l).toInt.fdiv (2 ^ n)) ∧
    quiet (.vshrr c f) (fun l r => 2 * ((a l).toInt - r.toInt * 2 ^ n).natAbs ≤ 2 ^ n ∧
      (2 * ((a l).toInt - r.toInt * 2 ^ n).natAbs = 2 ^ n → r.toInt % 2 = 0)) ∧
    quiet (.vcmp c f) (fun l r =>
      let holds : Prop := if f.rel = 0 then a l = b l else if f.rel = 1 then a l ≠ b l else if f.rel = 2 then (a l).toInt < (b l).toInt
        else (a l).toInt ≤ (b l).toInt
      (holds → r.toNat = 2 ^ 32 - 1) ∧ (¬holds → r.toNat = 0)) ∧
    quiet (.vsel c f) (fun l r => r = if m l = 0 then b l else a l) ∧
    (e.op = .vrq c f → ∃ ls fl, ∃ q : Nat → Int, vecResult k e = some (f.vd.toNat, ls, fl) ∧ ls.length = 64 ∧
      (∀ l < 64,
        let p : Int := (a l).toInt * (((b l).toNat % 2 ^ 16 : Nat) : Int)
        let sh := min ((b l).toNat / 2 ^ 16 % 64) 47
        2 * (p - q l * 2 ^ sh).natAbs ≤ 2 ^ sh ∧ (2 * (p - q l * 2 ^ sh).natAbs = 2 ^ sh → q l % 2 = 0) ∧
        (ls.getD l 0).toInt = min (max (q l) ((m l).setWidth 16).toInt) ((m l >>> 16).setWidth 16).toInt) ∧
      (∀ x : Int, (f.fmt = 0 ∧ x = 128) ∨ (f.fmt = 1 ∧ x = 32768) →
        (fl = AF.SAT ↔ ∃ l < 64, q l < -x ∨ x - 1 < q l) ∧ (fl = AF.SAT ∨ fl = 0))) ∧
    quiet (.vsumr c f) (fun _ r => r.toNat = ((List.range 64).map fun l => (a l).toNat).sum % 2 ^ 32) ∧
    quiet (.vmaxr c f) (fun _ r => (∃ l < 64, r = a l) ∧ ∀ l < 64, (a l).toInt ≤ r.toInt) ∧
    quiet (.vminr c f) (fun _ r => (∃ l < 64, r = a l) ∧ ∀ l < 64, r.toInt ≤ (a l).toInt) ∧
    quiet (.vmov c f) (fun l r => r = a l) ∧
    quiet (.vbc c f) (fun _ r => r = e.s f.va.toNat)

/-! ## Reset, and what every step keeps (R326, Table 18.6) -/

/-- What the spec gives for reset: every core OFF with nothing in its queues and its windows CLOSED, every tally 0 without STRICT, every
port OFF, every lane FREE, the clock FREE at 0, no configuration set, no powered domain, READY 0, scratchpads and weight stores 0, and
registers with the reset values of their pages. The reset state is sound: its memories are in their canonical form and it has the units of
the spec. -/
def Obligations.ResetState : Prop :=
  (let s := State.reset
  (∀ c : Fin 32, (s.core c).st = .off ∧ (s.core c).items = [] ∧ (s.core c).fq = [] ∧ (s.core c).xq = [] ∧ (s.core c).wq = [] ∧
    (s.core c).active = false ∧ ∀ w : Fin 8, ((s.core c).wins.getD w {}).st = .closed) ∧
  (∀ a, s.tally a = 0 ∧ s.strict a = false) ∧ (∀ p : Fin 24, (s.port p).st = .off) ∧ (∀ r c, (s.lane r c).st = .free) ∧
  s.rig.st = .free ∧ s.rig.t = 0 ∧ s.rig.counting = false ∧ s.mgmt.cfg = .idle ∧ s.mgmt.active = none ∧ s.mgmt.prevValid = false ∧
  (∀ n : Fin 40, s.domainOn n = false) ∧ s.power.ready = false ∧ s.jobs = [] ∧ s.pending = [] ∧
  (∀ a, 0x4000000000 ≤ a → s.byte a = 0) ∧ s.rd Pg.DEV Off.DEV.DEV_INFO = 0x2432B000 ∧ (∀ c : Fin 32, s.rd (Pg.CORE c) Off.CORE.SCRUB_CTRL = 0x80000064) ∧
  (∀ p : Fin 16, s.rd (0x070 + p) Off.TALLY.WAIT_LIMIT = 10000000) ∧ s.rd Pg.LCH Off.LCH.TIME_CTRL = 10 ∧ s.rd Pg.MGT Off.MGT.VNOW = 750 ∧
  (∀ d : Fin 8, s.rd (Pg.DL d) Off.DL.DL_CFG = 0x57800000) ∧ s.rd Pg.LNK Off.LNK.E2E_CTRL = 0x138803E8 ∧ s.rd Pg.WEIR Off.WEIR.MC_HOLD = 100000) ∧
  (State.reset.sound = true)

/-- Every step keeps a state sound: both memories stay in their canonical form, and the device keeps its cores, ports, windows, channels and
register files. -/
def Obligations.StepKeepsSound : Prop := ∀ s t : State, s.sound = true → step s = .next t → t.sound = true

/-- No step lowers an anti-rollback floor, and no step changes the tray key once the fuses hold one: whatever command runs, resets among them. -/
def Obligations.FloorsNeverDecrease : Prop :=
  ∀ s t : State, step s = .next t → s.mram.fwFloor.toNat ≤ t.mram.fwFloor.toNat ∧ s.mram.setFloor.toNat ≤ t.mram.setFloor.toNat ∧
    ∀ fp, s.trayFp = some fp → t.trayFp = some fp
end

