-- ==== Sys2Proof/Laws/Bits.lean ====
section
/-! SUPPORT. What bit fields do: a field or bit read after it was written, and the others left as they are. -/
namespace Sys2Proof.Machine

variable {n : Nat}

theorem and_not_eq (x m : BitVec n) : x &&& ~~~m = x - (x &&& m) := by
  have h : (x &&& ~~~m) &&& (x &&& m) = 0#n := by
    ext i hi; simp; cases m[i] <;> simp
  have := BitVec.add_eq_or_of_and_eq_zero _ _ h
  have e : (x &&& ~~~m) ||| (x &&& m) = x := by ext i hi; simp; cases x[i] <;> cases m[i] <;> rfl
  rw [e] at this
  exact BitVec.eq_sub_iff_add_eq.mpr this

theorem setFld_bv (w : BitVec n) (hi lo v : Nat) : setFld w hi lo v =
   (w &&& ~~~(BitVec.ofNat n ((2 ^ (hi - lo + 1) - 1) <<< lo))) ||| (BitVec.ofNat n (v <<< lo) &&& BitVec.ofNat n ((2 ^ (hi - lo + 1) - 1) <<< lo)) := by
  have hd : (w &&& ~~~(BitVec.ofNat n ((2 ^ (hi - lo + 1) - 1) <<< lo))) &&& (BitVec.ofNat n (v <<< lo) &&& BitVec.ofNat n ((2 ^ (hi - lo + 1) - 1) <<< lo)) = 0#n := by
    ext i h; simp; intros; simp_all
  rw [← BitVec.add_eq_or_of_and_eq_zero _ _ hd, and_not_eq]
  apply BitVec.eq_of_toNat_eq
  simp only [setFld, BitVec.toNat_ofNat, BitVec.toNat_add]
  have e : (w.toNat - (w.toNat &&& (2 ^ (hi - lo + 1) - 1) <<< lo)) = (w - (w &&& BitVec.ofNat n ((2 ^ (hi - lo + 1) - 1) <<< lo))).toNat := by
    have hm : w.toNat &&& (2 ^ (hi - lo + 1) - 1) <<< lo = (w &&& BitVec.ofNat n ((2 ^ (hi - lo + 1) - 1) <<< lo)).toNat := by
      apply Nat.eq_of_testBit_eq; intro i
      by_cases h : i < n
      · simp [Nat.testBit_mod_two_pow, h]
      · have : w.toNat.testBit i = false := Nat.testBit_lt_two_pow (Nat.lt_of_lt_of_le w.isLt (Nat.pow_le_pow_right (by decide) (by omega)))
        simp [Nat.testBit_mod_two_pow, h, this]
    rw [BitVec.toNat_sub_of_le, hm]
    rw [BitVec.le_def, ← hm]; exact Nat.and_le_left
  rw [e, ← BitVec.ofNat_and, BitVec.toNat_ofNat, Nat.add_mod_mod]

theorem getLsbD_setFld (w : BitVec n) (hi lo v i : Nat) (h : lo ≤ hi) (h2 : hi < n) :
    (setFld w hi lo v).getLsbD i = if lo ≤ i ∧ i ≤ hi then v.testBit (i - lo) else w.getLsbD i := by
  rw [setFld_bv]
  by_cases hn : i < n
  · simp only [BitVec.getLsbD_or, BitVec.getLsbD_and, BitVec.getLsbD_not, BitVec.getLsbD_ofNat, hn, decide_true, Bool.true_and,
      Nat.testBit_shiftLeft, Nat.testBit_two_pow_sub_one]
    by_cases a : lo ≤ i
    · by_cases b : i ≤ hi
      · have : i - lo < hi - lo + 1 := by omega
        simp [a, b, this]
      · have : ¬ (i - lo < hi - lo + 1) := by omega
        rw [if_neg (by omega)]
        simp only [a, decide_true, this, decide_false]; simp
    · simp [a]
  · have : ¬(lo ≤ i ∧ i ≤ hi) := by omega
    rw [if_neg this, BitVec.getLsbD_of_ge _ _ (by omega), BitVec.getLsbD_of_ge _ _ (by omega)]

theorem fld_eq (w : BitVec n) (hi lo : Nat) : fld w hi lo = w.toNat / 2 ^ lo % 2 ^ (hi - lo + 1) := by
  simp [fld, Nat.shiftRight_eq_div_pow]

theorem fld_testBit (w : BitVec n) (hi lo i : Nat) : (fld w hi lo).testBit i = (decide (i < hi - lo + 1) && w.getLsbD (lo + i)) := by
  simp [fld, Nat.testBit_mod_two_pow, BitVec.getLsbD]

theorem fld_setFld_self (w : BitVec n) (hi lo v : Nat) (h : lo ≤ hi) (h2 : hi < n) (hv : v < 2 ^ (hi - lo + 1)) : fld (setFld w hi lo v) hi lo = v := by
  apply Nat.eq_of_testBit_eq; intro i
  rw [fld_testBit, getLsbD_setFld _ _ _ _ _ h h2]
  by_cases a : i < hi - lo + 1
  · rw [if_pos (by omega)]; simp [a]
  · have : v.testBit i = false := Nat.testBit_lt_two_pow (Nat.lt_of_lt_of_le hv (Nat.pow_le_pow_right (by decide) (by omega)))
    simp [a, this]

theorem fld_setFld_ne (w : BitVec n) (hi lo v hi' lo' : Nat) (h : lo ≤ hi) (h2 : hi < n) (h' : lo' ≤ hi') (d : hi' < lo ∨ hi < lo') :
    fld (setFld w hi lo v) hi' lo' = fld w hi' lo' := by
  apply Nat.eq_of_testBit_eq; intro i
  rw [fld_testBit, fld_testBit, getLsbD_setFld _ _ _ _ _ h h2]
  by_cases a : i < hi' - lo' + 1
  · rw [if_neg (by omega)]
  · simp [a]

theorem bit_setFld (w : BitVec n) (hi lo v i : Nat) (h : lo ≤ hi) (h2 : hi < n) :
    bit (setFld w hi lo v) i = if lo ≤ i ∧ i ≤ hi then v.testBit (i - lo) else bit w i := getLsbD_setFld w hi lo v i h h2

theorem bit_setBit (w : BitVec n) (i j : Nat) (b : Bool) (h : i < n) : bit (setBit w i b) j = if j = i then b else bit w j := by
  rw [setBit, bit_setFld _ _ _ _ _ (Nat.le_refl _) h]
  by_cases e : j = i
  · subst e; cases b <;> simp
  · rw [if_neg (by omega), if_neg e]

end Sys2Proof.Machine
end

