-- ==== Sys2Proof/Laws/SMap.lean ====
section
/-! SUPPORT. Laws of sparse maps: a read after a write, and the canonical form that every write keeps. -/
namespace Sys2Proof.Machine

variable {α : Type}

theorem SMap.find_drop_self (m : SMap α) (k : Nat) : SMap.find (SMap.drop m k) k = none := by
  induction m with
  | nil => rfl
  | cons p r ih =>
    obtain ⟨j, w⟩ := p
    by_cases h : j = k
    · simpa [SMap.drop, h] using ih
    · simpa [SMap.drop, h, SMap.find] using ih

theorem SMap.find_drop_ne (m : SMap α) {k j : Nat} (h : j ≠ k) : SMap.find (SMap.drop m k) j = SMap.find m j := by
  induction m with
  | nil => rfl
  | cons p r ih =>
    obtain ⟨i, w⟩ := p
    simp only [SMap.drop] at ih
    by_cases hk : i = k
    · simp [SMap.drop, hk, SMap.find, Ne.symm h, ih]
    · by_cases hj : i = j
      · simp [SMap.drop, SMap.find, hj, h]
      · simp [SMap.drop, hk, SMap.find, hj, ih]

/-- A read after a write to the same key gives the value written. -/
theorem SMap.get_set_self [DecidableEq α] (d : Nat → α) (m : SMap α) (k : Nat) (v : α) : SMap.get d (SMap.set d m k v) k = v := by
  induction m with
  | nil => by_cases h : v = d k <;> simp [SMap.set, SMap.get, SMap.find, h]
  | cons p r ih =>
    obtain ⟨j, w⟩ := p
    simp only [SMap.set]
    split
    · split
      · next h => simp [SMap.get, SMap.find_drop_self, h]
      · simp [SMap.get, SMap.find]
    · split
      · split
        · next h => simp [SMap.get, SMap.find_drop_self, h]
        · simp [SMap.get, SMap.find]
      · next h => simpa [SMap.get, SMap.find, Ne.symm h] using ih

/-- A write leaves what is listed for every other key. -/
theorem SMap.find_set_ne [DecidableEq α] (d : Nat → α) (m : SMap α) {k j : Nat} (v : α) (h : j ≠ k) :
    SMap.find (SMap.set d m k v) j = SMap.find m j := by
  induction m with
  | nil => by_cases hv : v = d k <;> simp [SMap.set, SMap.find, hv, Ne.symm h]
  | cons p r ih =>
    obtain ⟨i, w⟩ := p
    simp only [SMap.set]
    split
    · split
      · simp only [SMap.find_drop_ne _ h]
      · simp [SMap.find, Ne.symm h]
    · split
      · next hk =>
        split
        · simp only [SMap.find_drop_ne _ h]; simp [SMap.find, ← hk, Ne.symm h]
        · simp [SMap.find, ← hk, Ne.symm h]
      · simp only [SMap.find]
        split
        · rfl
        · exact ih

/-- A write leaves every other key as it is. -/
theorem SMap.get_set_ne [DecidableEq α] (d : Nat → α) (m : SMap α) {k j : Nat} (v : α) (h : j ≠ k) :
    SMap.get d (SMap.set d m k v) j = SMap.get d m j := by
  simp only [SMap.get, SMap.find_set_ne d m v h]

/-- A listed key reads as the value listed, every other key as before. -/
theorem SMap.find_put (m : SMap α) (k j : Nat) (v : α) : SMap.find (SMap.put m k v) j = if j = k then some v else SMap.find m j := by
  induction m with
  | nil => by_cases h : j = k <;> simp [SMap.put, SMap.find, h]; exact fun h' => absurd h'.symm h
  | cons p r ih =>
    obtain ⟨i, w⟩ := p
    simp only [SMap.put]
    by_cases hj : j = k
    · subst hj
      split
      · simp [SMap.find]
      · split
        · simp [SMap.find]
        · next h => simp [SMap.find, Ne.symm h, ih]
    · split
      · simp [SMap.find, Ne.symm hj]
      · split
        · next h => simp [SMap.find, ← h, Ne.symm hj]
        · simp only [SMap.find, ih, hj, if_false]

theorem SMap.get_put (d : Nat → α) (m : SMap α) (k j : Nat) (v : α) :
    SMap.get d (SMap.put m k v) j = if j = k then v else SMap.get d m j := by
  by_cases h : j = k <;> simp [SMap.get, SMap.find_put, h]

/-! ## Canonical form -/

theorem SMap.rising_mono {lo lo' : Nat} (h : lo' ≤ lo) (m : SMap α) (w : SMap.rising lo m = true) : SMap.rising lo' m = true := by
  cases m with
  | nil => rfl
  | cons p r => simp only [SMap.rising, Bool.and_eq_true, decide_eq_true_eq] at *; exact ⟨Nat.le_trans h w.1, w.2⟩

theorem SMap.rising_filter (f : Nat × α → Bool) (m : SMap α) (lo : Nat) (w : SMap.rising lo m = true) :
    SMap.rising lo (m.filter f) = true := by
  induction m generalizing lo with
  | nil => rfl
  | cons p r ih =>
    obtain ⟨j, v⟩ := p
    simp only [SMap.rising, Bool.and_eq_true, decide_eq_true_eq] at w
    by_cases h : f (j, v) = true
    · simp [h, SMap.rising, w.1, ih _ w.2]
    · simp only [List.filter_cons, h]
      exact SMap.rising_mono (by omega) _ (ih _ w.2)

theorem SMap.rising_put (m : SMap α) (lo k : Nat) (v : α) (w : SMap.rising lo m = true) (h : lo ≤ k) :
    SMap.rising lo (SMap.put m k v) = true := by
  induction m generalizing lo with
  | nil => simp [SMap.put, SMap.rising, h]
  | cons p r ih =>
    obtain ⟨j, u⟩ := p
    simp only [SMap.rising, Bool.and_eq_true, decide_eq_true_eq] at w
    simp only [SMap.put]
    split
    · simp [SMap.rising, h, w.2]; omega
    · split
      · next e => subst e; simp [SMap.rising, h, w.2]
      · simp [SMap.rising, w.1, ih _ w.2 (by omega)]

theorem SMap.rising_set [DecidableEq α] (d : Nat → α) (m : SMap α) (lo k : Nat) (v : α) (w : SMap.rising lo m = true) (h : lo ≤ k) :
    SMap.rising lo (SMap.set d m k v) = true := by
  induction m generalizing lo with
  | nil => simp only [SMap.set]; split <;> simp [SMap.rising, h]
  | cons p r ih =>
    obtain ⟨j, u⟩ := p
    have w' := w
    simp only [SMap.rising, Bool.and_eq_true, decide_eq_true_eq] at w
    simp only [SMap.set]
    split
    · split
      · exact SMap.rising_filter _ _ _ w'
      · simp [SMap.rising, h, w.2]; omega
    · split
      · next e =>
        split
        · exact SMap.rising_mono (by omega) _ (SMap.rising_filter _ _ _ w.2)
        · subst e; simp [SMap.rising, h, w.2]
      · simp [SMap.rising, w.1, ih _ w.2 (by omega)]

theorem SMap.all_set [DecidableEq α] (d : Nat → α) (f : Nat × α → Bool) (m : SMap α) (k : Nat) (v : α) (w : m.all f = true)
    (h : v ≠ d k → f (k, v) = true) : (SMap.set d m k v).all f = true := by
  induction m with
  | nil => simp only [SMap.set]; split <;> simp_all
  | cons p r ih =>
    obtain ⟨j, u⟩ := p
    simp only [List.all_cons, Bool.and_eq_true] at w
    have hd : ∀ l : SMap α, l.all f = true → (SMap.drop l k).all f = true := by
      intro l hl
      simp only [SMap.drop, List.all_eq_true, List.mem_filter] at hl ⊢
      exact fun x hx => hl x hx.1
    simp only [SMap.set]
    split
    · split
      · exact hd _ (by simp [w.1, w.2])
      · next e => simp [h e, w.1, w.2]
    · split
      · split
        · exact hd _ w.2
        · next e => simp [h e, w.2]
      · simp [w.1, ih w.2]

theorem SMap.all_put (f : Nat × α → Bool) (m : SMap α) (k : Nat) (v : α) (w : m.all f = true) (h : f (k, v) = true) :
    (SMap.put m k v).all f = true := by
  induction m with
  | nil => simp [SMap.put, h]
  | cons p r ih =>
    obtain ⟨j, u⟩ := p
    simp only [List.all_cons, Bool.and_eq_true] at w
    simp only [SMap.put]
    split
    · simp [h, w.1, w.2]
    · split <;> simp [h, w.1, w.2, ih w.2]

/-- A write keeps the canonical form. -/
theorem SMap.wf_set [DecidableEq α] (d : Nat → α) (m : SMap α) (k : Nat) (v : α) (w : SMap.wf d m = true) :
    SMap.wf d (SMap.set d m k v) = true := by
  simp only [SMap.wf, Bool.and_eq_true] at *
  exact ⟨SMap.rising_set d m 0 k v w.1 (Nat.zero_le _), SMap.all_set d _ m k v w.2 (by simp)⟩

/-- Keys taken off the list leave the canonical form. -/
theorem SMap.wf_filter [DecidableEq α] (d : Nat → α) (m : SMap α) (f : Nat × α → Bool) (w : SMap.wf d m = true) :
    SMap.wf d (m.filter f) = true := by
  simp only [SMap.wf, Bool.and_eq_true] at *
  refine ⟨SMap.rising_filter f m 0 w.1, ?_⟩
  simp only [List.all_eq_true, List.mem_filter] at *
  exact fun x hx => w.2 x hx.1

end Sys2Proof.Machine
end

