-- ==== Sys2Proof/Laws/Ops.lean ====
section
/-! SUPPORT. What the named operations over registers, units and memory do: a read after a write, and everything else left as it is. -/
namespace Sys2Proof.Machine

/-! ## Page registers -/

theorem RegMap.key_inj {p off bank p' off' bank' : Nat} (hp : p < 4096) (ho : off < 4096) (hp' : p' < 4096) (ho' : off' < 4096)
    (h : RegMap.key p off bank = RegMap.key p' off' bank') : p = p' ∧ off = off' ∧ bank = bank' := by
  simp only [RegMap.key] at h; omega

@[simp] theorem State.rd_wr_self (s : State) (p off : Nat) (v : W32) (bank : Nat) : (s.wr p off v bank).rd p off bank = v :=
  SMap.get_set_self _ _ _ _

theorem State.rd_wr_key (s : State) (p off : Nat) (v : W32) (bank p' off' bank' : Nat)
    (h : RegMap.key p' off' bank' ≠ RegMap.key p off bank) : (s.wr p off v bank).rd p' off' bank' = s.rd p' off' bank' :=
  SMap.get_set_ne _ _ _ h

theorem State.rd_wr_ne (s : State) {p off : Nat} (v : W32) {bank p' off' bank' : Nat} (hp : p < 4096) (ho : off < 4096) (hp' : p' < 4096)
    (ho' : off' < 4096) (h : (p', off') ≠ (p, off)) : (s.wr p off v bank).rd p' off' bank' = s.rd p' off' bank' :=
  State.rd_wr_key s p off v bank p' off' bank' fun e => h (by
    obtain ⟨a, b, _⟩ := RegMap.key_inj hp' ho' hp ho e
    rw [a, b])

/-! ## List updates -/

variable {α : Type}

@[simp] theorem modNth_length (f : α → α) (l : List α) (n : Nat) : (modNth f l n).length = l.length := by
  induction l generalizing n with
  | nil => rfl
  | cons x r ih => cases n <;> simp [modNth, ih]

theorem modNth_getD (f : α → α) (l : List α) (n m : Nat) (d : α) :
    (modNth f l n).getD m d = if m = n ∧ n < l.length then f (l.getD m d) else l.getD m d := by
  induction l generalizing n m with
  | nil => simp [modNth]
  | cons x r ih =>
    simp only [List.getD_eq_getElem?_getD] at ih ⊢
    cases n <;> cases m <;> simp [modNth, ih]

theorem modNth_getD_self (f : α → α) (l : List α) (n : Nat) (d : α) (h : n < l.length) : (modNth f l n).getD n d = f (l.getD n d) := by
  rw [modNth_getD, if_pos ⟨rfl, h⟩]

theorem modNth_getD_ne (f : α → α) (l : List α) {n m : Nat} (d : α) (h : m ≠ n) : (modNth f l n).getD m d = l.getD m d := by
  rw [modNth_getD, if_neg fun e => h e.1]

/-! ## Units -/

theorem State.core_modCore (s : State) (c : Nat) (f : Core → Core) (h : c < s.cores.length) : (s.modCore c f).core c = f (s.core c) :=
  modNth_getD_self f s.cores c _ h

theorem State.core_modCore_ne (s : State) {c c' : Nat} (f : Core → Core) (h : c' ≠ c) : (s.modCore c f).core c' = s.core c' :=
  modNth_getD_ne f s.cores _ h

theorem State.port_modPort (s : State) (n : Nat) (f : Port → Port) (h : n < s.ports.length) : (s.modPort n f).port n = f (s.port n) :=
  modNth_getD_self f s.ports n _ h

theorem State.port_modPort_ne (s : State) {n m : Nat} (f : Port → Port) (h : m ≠ n) : (s.modPort n f).port m = s.port m :=
  modNth_getD_ne f s.ports _ h

theorem State.link_modLink (s : State) (d : Nat) (f : LinkPort → LinkPort) (h : d < s.links.ports.length) :
    (s.modLink d f).link d = f (s.link d) := modNth_getD_self f s.links.ports d _ h

theorem State.glaze_modGlaze (s : State) (g : Nat) (f : Glz → Glz) (h : g < s.glz.length) : (s.modGlaze g f).glaze g = f (s.glaze g) :=
  modNth_getD_self f s.glz g _ h

theorem State.chan_modChan (s : State) (c : Nat) (f : Chan → Chan) (h : c < s.chans.length) : (s.modChan c f).chan c = f (s.chan c) :=
  modNth_getD_self f s.chans c _ h

@[simp] theorem State.tally_setTally (s : State) (t : Nat) (v : W32) : (s.setTally t v).tally t = v := SMap.get_set_self _ _ _ _

theorem State.tally_setTally_ne (s : State) {t u : Nat} (v : W32) (h : u ≠ t) : (s.setTally t v).tally u = s.tally u :=
  SMap.get_set_ne _ _ _ h

/-! ## Memory -/

/-- A listed value, or what the address reads as where nothing is listed. -/
theorem memGet_eq (m : List Host.Cell) (e b : Nat) : memGet m e b = (SMap.find m b).getD (memDefault e b) := rfl

/-- One byte written: it reads as written, every other byte as before. -/
theorem memGet_memPut (m : List Host.Cell) (e a b : Nat) (v : Byte) :
    memGet (memPut m a v) e b = if b = a then v else memGet m e b := by
  simp only [memPut]
  by_cases hb : b = a
  · subst hb
    split
    · exact (SMap.get_put _ _ _ _ _).trans rfl
    · next h =>
      have hd : memDefault e b = 0 := by simp [memDefault, h]
      rw [memGet_eq, hd, if_pos rfl]
      exact SMap.get_set_self (fun _ => 0) m b v
  · rw [if_neg hb]
    split
    · rw [memGet_eq, memGet_eq, SMap.find_put, if_neg hb]
    · rw [memGet_eq, memGet_eq, SMap.find_set_ne _ _ _ hb]

theorem memWf_memPut (m : List Host.Cell) (a : Nat) (v : Byte) (h : memWf m = true) : memWf (memPut m a v) = true := by
  simp only [memWf, Bool.and_eq_true] at h ⊢
  simp only [memPut]
  split
  · next hl => exact ⟨SMap.rising_put m 0 a v h.1 (Nat.zero_le _), SMap.all_put _ m a v h.2 (by simp [hl])⟩
  · exact ⟨SMap.rising_set _ m 0 a v h.1 (Nat.zero_le _), SMap.all_set _ _ m a v h.2 fun hv => by
      rw [Bool.or_eq_true, decide_eq_true_eq, decide_eq_true_eq]; exact .inr hv⟩

theorem memWf_memPutAll (bs : List Byte) (m : List Host.Cell) (a : Nat) (h : memWf m = true) : memWf (memPutAll m a bs) = true := by
  induction bs generalizing m a with
  | nil => exact h
  | cons b r ih => exact ih _ _ (memWf_memPut m a b h)

theorem memWf_memPutMask (bs : List (Option Byte)) (m : List Host.Cell) (a : Nat) (h : memWf m = true) :
    memWf (memPutMask m a bs) = true := by
  induction bs generalizing m a with
  | nil => exact h
  | cons b r ih =>
    cases b with
    | none => exact ih _ _ h
    | some v => exact ih _ _ (memWf_memPut m a v h)

theorem ringWf_ringPutMask (bs : List (Option Byte)) (m : List Host.Cell) (a : Nat) (h : SMap.wf (fun _ => (0 : Byte)) m = true) :
    SMap.wf (fun _ => (0 : Byte)) (ringPutMask m a bs) = true := by
  induction bs generalizing m a with
  | nil => exact h
  | cons b r ih =>
    cases b with
    | none => exact ih _ _ h
    | some v => exact ih _ _ (SMap.wf_set _ m a v h)

theorem memWf_clear (m : List Host.Cell) (lo hi : Nat) (h : memWf m = true) : memWf (SMap.clear m lo hi) = true := by
  simp only [memWf, SMap.clear, Bool.and_eq_true] at h ⊢
  refine ⟨SMap.rising_filter _ m 0 h.1, ?_⟩
  simp only [List.all_eq_true, List.mem_filter] at h ⊢
  exact fun x hx => h.2 x hx.1

/-- What one byte reads as after bytes are written from address a on. -/
theorem memGet_memPutAll (bs : List Byte) (m : List Host.Cell) (e a b : Nat) :
    memGet (memPutAll m a bs) e b = if a ≤ b ∧ b < a + bs.length then bs.getD (b - a) 0 else memGet m e b := by
  induction bs generalizing m a with
  | nil => rw [if_neg (by simp only [List.length_nil]; omega)]; rfl
  | cons v r ih =>
    simp only [memPutAll, ih, memGet_memPut, List.length_cons]
    by_cases h1 : a + 1 ≤ b ∧ b < a + 1 + r.length
    · rw [if_pos h1, if_pos (by omega)]
      obtain ⟨n, hn⟩ : ∃ n, b - a = n + 1 := ⟨b - a - 1, by omega⟩
      rw [hn, show b - (a + 1) = n by omega]; rfl
    · rw [if_neg h1]
      by_cases h2 : b = a
      · subst h2; simp
      · rw [if_neg h2, if_neg (by omega)]

/-- A read of m of the bytes just written from address a on, the first k left out, gives them. -/
theorem State.bytes_putBytes_drop (s : State) (a : Nat) (bs : List Byte) (k m : Nat) (h : k + m ≤ bs.length) :
    (s.putBytes a bs).bytes (a + k) m = (bs.drop k).take m := by
  induction m generalizing k with
  | zero => simp [State.bytes]
  | succ m ih =>
    have hk : k < bs.length := by omega
    have hb : (s.putBytes a bs).byte (a + k) = bs[k] := by
      simp only [State.byte, State.putBytes, memGet_memPutAll]
      rw [if_pos (by omega), Nat.add_sub_cancel_left, List.getD_eq_getElem?_getD, List.getElem?_eq_getElem hk, Option.getD_some]
    rw [State.bytes, hb, Nat.add_assoc, ih (k + 1) (by omega), List.drop_eq_getElem_cons hk, List.take_succ_cons]

/-- A read of the first m bytes just written from address a on gives them. -/
theorem State.bytes_putBytes (s : State) (a : Nat) (bs : List Byte) (m : Nat) (h : m ≤ bs.length) :
    (s.putBytes a bs).bytes a m = bs.take m := by
  simpa using State.bytes_putBytes_drop s a bs 0 m (by omega)

/-- Bytes read depend on the memory alone. -/
theorem State.bytes_congr (s t : State) (hm : s.mem = t.mem) (he : s.memEpoch = t.memEpoch) (a n : Nat) : s.bytes a n = t.bytes a n := by
  induction n generalizing a with
  | zero => rfl
  | succ n ih => simp only [State.bytes, State.byte, hm, he, ih]

end Sys2Proof.Machine
end

