-- ==== Sys2Proof/Laws/State.lean ====
section
/-! SUPPORT. What each update of State leaves as it is: one lemma per field per update. -/
namespace Sys2Proof.Machine

/-! ## State.wr -/

@[simp] theorem State.wr_pending (s : State) (p off : Nat) (v : W32) (bank : Nat) : (s.wr p off v bank).pending = s.pending := rfl
@[simp] theorem State.wr_mem (s : State) (p off : Nat) (v : W32) (bank : Nat) : (s.wr p off v bank).mem = s.mem := rfl
@[simp] theorem State.wr_ringMem (s : State) (p off : Nat) (v : W32) (bank : Nat) : (s.wr p off v bank).ringMem = s.ringMem := rfl
@[simp] theorem State.wr_ue (s : State) (p off : Nat) (v : W32) (bank : Nat) : (s.wr p off v bank).ue = s.ue := rfl
@[simp] theorem State.wr_ce (s : State) (p off : Nat) (v : W32) (bank : Nat) : (s.wr p off v bank).ce = s.ce := rfl
@[simp] theorem State.wr_free (s : State) (p off : Nat) (v : W32) (bank : Nat) : (s.wr p off v bank).free = s.free := rfl
@[simp] theorem State.wr_out (s : State) (p off : Nat) (v : W32) (bank : Nat) : (s.wr p off v bank).out = s.out := rfl
@[simp] theorem State.wr_nextKey (s : State) (p off : Nat) (v : W32) (bank : Nat) : (s.wr p off v bank).nextKey = s.nextKey := rfl
@[simp] theorem State.wr_memEpoch (s : State) (p off : Nat) (v : W32) (bank : Nat) : (s.wr p off v bank).memEpoch = s.memEpoch := rfl
@[simp] theorem State.wr_readySeq (s : State) (p off : Nat) (v : W32) (bank : Nat) : (s.wr p off v bank).readySeq = s.readySeq := rfl
@[simp] theorem State.wr_rig (s : State) (p off : Nat) (v : W32) (bank : Nat) : (s.wr p off v bank).rig = s.rig := rfl
@[simp] theorem State.wr_launch (s : State) (p off : Nat) (v : W32) (bank : Nat) : (s.wr p off v bank).launch = s.launch := rfl
@[simp] theorem State.wr_ports (s : State) (p off : Nat) (v : W32) (bank : Nat) : (s.wr p off v bank).ports = s.ports := rfl
@[simp] theorem State.wr_buses (s : State) (p off : Nat) (v : W32) (bank : Nat) : (s.wr p off v bank).buses = s.buses := rfl
@[simp] theorem State.wr_cores (s : State) (p off : Nat) (v : W32) (bank : Nat) : (s.wr p off v bank).cores = s.cores := rfl
@[simp] theorem State.wr_tval (s : State) (p off : Nat) (v : W32) (bank : Nat) : (s.wr p off v bank).tval = s.tval := rfl
@[simp] theorem State.wr_tstrict (s : State) (p off : Nat) (v : W32) (bank : Nat) : (s.wr p off v bank).tstrict = s.tstrict := rfl
@[simp] theorem State.wr_lanes (s : State) (p off : Nat) (v : W32) (bank : Nat) : (s.wr p off v bank).lanes = s.lanes := rfl
@[simp] theorem State.wr_mcSent (s : State) (p off : Nat) (v : W32) (bank : Nat) : (s.wr p off v bank).mcSent = s.mcSent := rfl
@[simp] theorem State.wr_mcPruned (s : State) (p off : Nat) (v : W32) (bank : Nat) : (s.wr p off v bank).mcPruned = s.mcPruned := rfl
@[simp] theorem State.wr_stripes (s : State) (p off : Nat) (v : W32) (bank : Nat) : (s.wr p off v bank).stripes = s.stripes := rfl
@[simp] theorem State.wr_miss (s : State) (p off : Nat) (v : W32) (bank : Nat) : (s.wr p off v bank).miss = s.miss := rfl
@[simp] theorem State.wr_blocked (s : State) (p off : Nat) (v : W32) (bank : Nat) : (s.wr p off v bank).blocked = s.blocked := rfl
@[simp] theorem State.wr_jobs (s : State) (p off : Nat) (v : W32) (bank : Nat) : (s.wr p off v bank).jobs = s.jobs := rfl
@[simp] theorem State.wr_cplPend (s : State) (p off : Nat) (v : W32) (bank : Nat) : (s.wr p off v bank).cplPend = s.cplPend := rfl
@[simp] theorem State.wr_glz (s : State) (p off : Nat) (v : W32) (bank : Nat) : (s.wr p off v bank).glz = s.glz := rfl
@[simp] theorem State.wr_memChans (s : State) (p off : Nat) (v : W32) (bank : Nat) : (s.wr p off v bank).memChans = s.memChans := rfl
@[simp] theorem State.wr_memPass (s : State) (p off : Nat) (v : W32) (bank : Nat) : (s.wr p off v bank).memPass = s.memPass := rfl
@[simp] theorem State.wr_chans (s : State) (p off : Nat) (v : W32) (bank : Nat) : (s.wr p off v bank).chans = s.chans := rfl
@[simp] theorem State.wr_links (s : State) (p off : Nat) (v : W32) (bank : Nat) : (s.wr p off v bank).links = s.links := rfl
@[simp] theorem State.wr_mgmt (s : State) (p off : Nat) (v : W32) (bank : Nat) : (s.wr p off v bank).mgmt = s.mgmt := rfl
@[simp] theorem State.wr_log (s : State) (p off : Nat) (v : W32) (bank : Nat) : (s.wr p off v bank).log = s.log := rfl
@[simp] theorem State.wr_mram (s : State) (p off : Nat) (v : W32) (bank : Nat) : (s.wr p off v bank).mram = s.mram := rfl
@[simp] theorem State.wr_flash (s : State) (p off : Nat) (v : W32) (bank : Nat) : (s.wr p off v bank).flash = s.flash := rfl
@[simp] theorem State.wr_trayFp (s : State) (p off : Nat) (v : W32) (bank : Nat) : (s.wr p off v bank).trayFp = s.trayFp := rfl
@[simp] theorem State.wr_power (s : State) (p off : Nat) (v : W32) (bank : Nat) : (s.wr p off v bank).power = s.power := rfl

/-! ## State.modCore -/

@[simp] theorem State.modCore_pending (s : State) (c : Nat) (f : Core → Core) : (s.modCore c f).pending = s.pending := rfl
@[simp] theorem State.modCore_regs (s : State) (c : Nat) (f : Core → Core) : (s.modCore c f).regs = s.regs := rfl
@[simp] theorem State.modCore_mem (s : State) (c : Nat) (f : Core → Core) : (s.modCore c f).mem = s.mem := rfl
@[simp] theorem State.modCore_ringMem (s : State) (c : Nat) (f : Core → Core) : (s.modCore c f).ringMem = s.ringMem := rfl
@[simp] theorem State.modCore_ue (s : State) (c : Nat) (f : Core → Core) : (s.modCore c f).ue = s.ue := rfl
@[simp] theorem State.modCore_ce (s : State) (c : Nat) (f : Core → Core) : (s.modCore c f).ce = s.ce := rfl
@[simp] theorem State.modCore_free (s : State) (c : Nat) (f : Core → Core) : (s.modCore c f).free = s.free := rfl
@[simp] theorem State.modCore_out (s : State) (c : Nat) (f : Core → Core) : (s.modCore c f).out = s.out := rfl
@[simp] theorem State.modCore_nextKey (s : State) (c : Nat) (f : Core → Core) : (s.modCore c f).nextKey = s.nextKey := rfl
@[simp] theorem State.modCore_memEpoch (s : State) (c : Nat) (f : Core → Core) : (s.modCore c f).memEpoch = s.memEpoch := rfl
@[simp] theorem State.modCore_readySeq (s : State) (c : Nat) (f : Core → Core) : (s.modCore c f).readySeq = s.readySeq := rfl
@[simp] theorem State.modCore_rig (s : State) (c : Nat) (f : Core → Core) : (s.modCore c f).rig = s.rig := rfl
@[simp] theorem State.modCore_launch (s : State) (c : Nat) (f : Core → Core) : (s.modCore c f).launch = s.launch := rfl
@[simp] theorem State.modCore_ports (s : State) (c : Nat) (f : Core → Core) : (s.modCore c f).ports = s.ports := rfl
@[simp] theorem State.modCore_buses (s : State) (c : Nat) (f : Core → Core) : (s.modCore c f).buses = s.buses := rfl
@[simp] theorem State.modCore_tval (s : State) (c : Nat) (f : Core → Core) : (s.modCore c f).tval = s.tval := rfl
@[simp] theorem State.modCore_tstrict (s : State) (c : Nat) (f : Core → Core) : (s.modCore c f).tstrict = s.tstrict := rfl
@[simp] theorem State.modCore_lanes (s : State) (c : Nat) (f : Core → Core) : (s.modCore c f).lanes = s.lanes := rfl
@[simp] theorem State.modCore_mcSent (s : State) (c : Nat) (f : Core → Core) : (s.modCore c f).mcSent = s.mcSent := rfl
@[simp] theorem State.modCore_mcPruned (s : State) (c : Nat) (f : Core → Core) : (s.modCore c f).mcPruned = s.mcPruned := rfl
@[simp] theorem State.modCore_stripes (s : State) (c : Nat) (f : Core → Core) : (s.modCore c f).stripes = s.stripes := rfl
@[simp] theorem State.modCore_miss (s : State) (c : Nat) (f : Core → Core) : (s.modCore c f).miss = s.miss := rfl
@[simp] theorem State.modCore_blocked (s : State) (c : Nat) (f : Core → Core) : (s.modCore c f).blocked = s.blocked := rfl
@[simp] theorem State.modCore_jobs (s : State) (c : Nat) (f : Core → Core) : (s.modCore c f).jobs = s.jobs := rfl
@[simp] theorem State.modCore_cplPend (s : State) (c : Nat) (f : Core → Core) : (s.modCore c f).cplPend = s.cplPend := rfl
@[simp] theorem State.modCore_glz (s : State) (c : Nat) (f : Core → Core) : (s.modCore c f).glz = s.glz := rfl
@[simp] theorem State.modCore_memChans (s : State) (c : Nat) (f : Core → Core) : (s.modCore c f).memChans = s.memChans := rfl
@[simp] theorem State.modCore_memPass (s : State) (c : Nat) (f : Core → Core) : (s.modCore c f).memPass = s.memPass := rfl
@[simp] theorem State.modCore_chans (s : State) (c : Nat) (f : Core → Core) : (s.modCore c f).chans = s.chans := rfl
@[simp] theorem State.modCore_links (s : State) (c : Nat) (f : Core → Core) : (s.modCore c f).links = s.links := rfl
@[simp] theorem State.modCore_mgmt (s : State) (c : Nat) (f : Core → Core) : (s.modCore c f).mgmt = s.mgmt := rfl
@[simp] theorem State.modCore_log (s : State) (c : Nat) (f : Core → Core) : (s.modCore c f).log = s.log := rfl
@[simp] theorem State.modCore_mram (s : State) (c : Nat) (f : Core → Core) : (s.modCore c f).mram = s.mram := rfl
@[simp] theorem State.modCore_flash (s : State) (c : Nat) (f : Core → Core) : (s.modCore c f).flash = s.flash := rfl
@[simp] theorem State.modCore_trayFp (s : State) (c : Nat) (f : Core → Core) : (s.modCore c f).trayFp = s.trayFp := rfl
@[simp] theorem State.modCore_power (s : State) (c : Nat) (f : Core → Core) : (s.modCore c f).power = s.power := rfl

/-! ## State.modPort -/

@[simp] theorem State.modPort_pending (s : State) (n : Nat) (f : Port → Port) : (s.modPort n f).pending = s.pending := rfl
@[simp] theorem State.modPort_regs (s : State) (n : Nat) (f : Port → Port) : (s.modPort n f).regs = s.regs := rfl
@[simp] theorem State.modPort_mem (s : State) (n : Nat) (f : Port → Port) : (s.modPort n f).mem = s.mem := rfl
@[simp] theorem State.modPort_ringMem (s : State) (n : Nat) (f : Port → Port) : (s.modPort n f).ringMem = s.ringMem := rfl
@[simp] theorem State.modPort_ue (s : State) (n : Nat) (f : Port → Port) : (s.modPort n f).ue = s.ue := rfl
@[simp] theorem State.modPort_ce (s : State) (n : Nat) (f : Port → Port) : (s.modPort n f).ce = s.ce := rfl
@[simp] theorem State.modPort_free (s : State) (n : Nat) (f : Port → Port) : (s.modPort n f).free = s.free := rfl
@[simp] theorem State.modPort_out (s : State) (n : Nat) (f : Port → Port) : (s.modPort n f).out = s.out := rfl
@[simp] theorem State.modPort_nextKey (s : State) (n : Nat) (f : Port → Port) : (s.modPort n f).nextKey = s.nextKey := rfl
@[simp] theorem State.modPort_memEpoch (s : State) (n : Nat) (f : Port → Port) : (s.modPort n f).memEpoch = s.memEpoch := rfl
@[simp] theorem State.modPort_readySeq (s : State) (n : Nat) (f : Port → Port) : (s.modPort n f).readySeq = s.readySeq := rfl
@[simp] theorem State.modPort_rig (s : State) (n : Nat) (f : Port → Port) : (s.modPort n f).rig = s.rig := rfl
@[simp] theorem State.modPort_launch (s : State) (n : Nat) (f : Port → Port) : (s.modPort n f).launch = s.launch := rfl
@[simp] theorem State.modPort_buses (s : State) (n : Nat) (f : Port → Port) : (s.modPort n f).buses = s.buses := rfl
@[simp] theorem State.modPort_cores (s : State) (n : Nat) (f : Port → Port) : (s.modPort n f).cores = s.cores := rfl
@[simp] theorem State.modPort_tval (s : State) (n : Nat) (f : Port → Port) : (s.modPort n f).tval = s.tval := rfl
@[simp] theorem State.modPort_tstrict (s : State) (n : Nat) (f : Port → Port) : (s.modPort n f).tstrict = s.tstrict := rfl
@[simp] theorem State.modPort_lanes (s : State) (n : Nat) (f : Port → Port) : (s.modPort n f).lanes = s.lanes := rfl
@[simp] theorem State.modPort_mcSent (s : State) (n : Nat) (f : Port → Port) : (s.modPort n f).mcSent = s.mcSent := rfl
@[simp] theorem State.modPort_mcPruned (s : State) (n : Nat) (f : Port → Port) : (s.modPort n f).mcPruned = s.mcPruned := rfl
@[simp] theorem State.modPort_stripes (s : State) (n : Nat) (f : Port → Port) : (s.modPort n f).stripes = s.stripes := rfl
@[simp] theorem State.modPort_miss (s : State) (n : Nat) (f : Port → Port) : (s.modPort n f).miss = s.miss := rfl
@[simp] theorem State.modPort_blocked (s : State) (n : Nat) (f : Port → Port) : (s.modPort n f).blocked = s.blocked := rfl
@[simp] theorem State.modPort_jobs (s : State) (n : Nat) (f : Port → Port) : (s.modPort n f).jobs = s.jobs := rfl
@[simp] theorem State.modPort_cplPend (s : State) (n : Nat) (f : Port → Port) : (s.modPort n f).cplPend = s.cplPend := rfl
@[simp] theorem State.modPort_glz (s : State) (n : Nat) (f : Port → Port) : (s.modPort n f).glz = s.glz := rfl
@[simp] theorem State.modPort_memChans (s : State) (n : Nat) (f : Port → Port) : (s.modPort n f).memChans = s.memChans := rfl
@[simp] theorem State.modPort_memPass (s : State) (n : Nat) (f : Port → Port) : (s.modPort n f).memPass = s.memPass := rfl
@[simp] theorem State.modPort_chans (s : State) (n : Nat) (f : Port → Port) : (s.modPort n f).chans = s.chans := rfl
@[simp] theorem State.modPort_links (s : State) (n : Nat) (f : Port → Port) : (s.modPort n f).links = s.links := rfl
@[simp] theorem State.modPort_mgmt (s : State) (n : Nat) (f : Port → Port) : (s.modPort n f).mgmt = s.mgmt := rfl
@[simp] theorem State.modPort_log (s : State) (n : Nat) (f : Port → Port) : (s.modPort n f).log = s.log := rfl
@[simp] theorem State.modPort_mram (s : State) (n : Nat) (f : Port → Port) : (s.modPort n f).mram = s.mram := rfl
@[simp] theorem State.modPort_flash (s : State) (n : Nat) (f : Port → Port) : (s.modPort n f).flash = s.flash := rfl
@[simp] theorem State.modPort_trayFp (s : State) (n : Nat) (f : Port → Port) : (s.modPort n f).trayFp = s.trayFp := rfl
@[simp] theorem State.modPort_power (s : State) (n : Nat) (f : Port → Port) : (s.modPort n f).power = s.power := rfl

/-! ## State.modBus -/

@[simp] theorem State.modBus_pending (s : State) (k : Nat) (f : Bus → Bus) : (s.modBus k f).pending = s.pending := rfl
@[simp] theorem State.modBus_regs (s : State) (k : Nat) (f : Bus → Bus) : (s.modBus k f).regs = s.regs := rfl
@[simp] theorem State.modBus_mem (s : State) (k : Nat) (f : Bus → Bus) : (s.modBus k f).mem = s.mem := rfl
@[simp] theorem State.modBus_ringMem (s : State) (k : Nat) (f : Bus → Bus) : (s.modBus k f).ringMem = s.ringMem := rfl
@[simp] theorem State.modBus_ue (s : State) (k : Nat) (f : Bus → Bus) : (s.modBus k f).ue = s.ue := rfl
@[simp] theorem State.modBus_ce (s : State) (k : Nat) (f : Bus → Bus) : (s.modBus k f).ce = s.ce := rfl
@[simp] theorem State.modBus_free (s : State) (k : Nat) (f : Bus → Bus) : (s.modBus k f).free = s.free := rfl
@[simp] theorem State.modBus_out (s : State) (k : Nat) (f : Bus → Bus) : (s.modBus k f).out = s.out := rfl
@[simp] theorem State.modBus_nextKey (s : State) (k : Nat) (f : Bus → Bus) : (s.modBus k f).nextKey = s.nextKey := rfl
@[simp] theorem State.modBus_memEpoch (s : State) (k : Nat) (f : Bus → Bus) : (s.modBus k f).memEpoch = s.memEpoch := rfl
@[simp] theorem State.modBus_readySeq (s : State) (k : Nat) (f : Bus → Bus) : (s.modBus k f).readySeq = s.readySeq := rfl
@[simp] theorem State.modBus_rig (s : State) (k : Nat) (f : Bus → Bus) : (s.modBus k f).rig = s.rig := rfl
@[simp] theorem State.modBus_launch (s : State) (k : Nat) (f : Bus → Bus) : (s.modBus k f).launch = s.launch := rfl
@[simp] theorem State.modBus_ports (s : State) (k : Nat) (f : Bus → Bus) : (s.modBus k f).ports = s.ports := rfl
@[simp] theorem State.modBus_cores (s : State) (k : Nat) (f : Bus → Bus) : (s.modBus k f).cores = s.cores := rfl
@[simp] theorem State.modBus_tval (s : State) (k : Nat) (f : Bus → Bus) : (s.modBus k f).tval = s.tval := rfl
@[simp] theorem State.modBus_tstrict (s : State) (k : Nat) (f : Bus → Bus) : (s.modBus k f).tstrict = s.tstrict := rfl
@[simp] theorem State.modBus_lanes (s : State) (k : Nat) (f : Bus → Bus) : (s.modBus k f).lanes = s.lanes := rfl
@[simp] theorem State.modBus_mcSent (s : State) (k : Nat) (f : Bus → Bus) : (s.modBus k f).mcSent = s.mcSent := rfl
@[simp] theorem State.modBus_mcPruned (s : State) (k : Nat) (f : Bus → Bus) : (s.modBus k f).mcPruned = s.mcPruned := rfl
@[simp] theorem State.modBus_stripes (s : State) (k : Nat) (f : Bus → Bus) : (s.modBus k f).stripes = s.stripes := rfl
@[simp] theorem State.modBus_miss (s : State) (k : Nat) (f : Bus → Bus) : (s.modBus k f).miss = s.miss := rfl
@[simp] theorem State.modBus_blocked (s : State) (k : Nat) (f : Bus → Bus) : (s.modBus k f).blocked = s.blocked := rfl
@[simp] theorem State.modBus_jobs (s : State) (k : Nat) (f : Bus → Bus) : (s.modBus k f).jobs = s.jobs := rfl
@[simp] theorem State.modBus_cplPend (s : State) (k : Nat) (f : Bus → Bus) : (s.modBus k f).cplPend = s.cplPend := rfl
@[simp] theorem State.modBus_glz (s : State) (k : Nat) (f : Bus → Bus) : (s.modBus k f).glz = s.glz := rfl
@[simp] theorem State.modBus_memChans (s : State) (k : Nat) (f : Bus → Bus) : (s.modBus k f).memChans = s.memChans := rfl
@[simp] theorem State.modBus_memPass (s : State) (k : Nat) (f : Bus → Bus) : (s.modBus k f).memPass = s.memPass := rfl
@[simp] theorem State.modBus_chans (s : State) (k : Nat) (f : Bus → Bus) : (s.modBus k f).chans = s.chans := rfl
@[simp] theorem State.modBus_links (s : State) (k : Nat) (f : Bus → Bus) : (s.modBus k f).links = s.links := rfl
@[simp] theorem State.modBus_mgmt (s : State) (k : Nat) (f : Bus → Bus) : (s.modBus k f).mgmt = s.mgmt := rfl
@[simp] theorem State.modBus_log (s : State) (k : Nat) (f : Bus → Bus) : (s.modBus k f).log = s.log := rfl
@[simp] theorem State.modBus_mram (s : State) (k : Nat) (f : Bus → Bus) : (s.modBus k f).mram = s.mram := rfl
@[simp] theorem State.modBus_flash (s : State) (k : Nat) (f : Bus → Bus) : (s.modBus k f).flash = s.flash := rfl
@[simp] theorem State.modBus_trayFp (s : State) (k : Nat) (f : Bus → Bus) : (s.modBus k f).trayFp = s.trayFp := rfl
@[simp] theorem State.modBus_power (s : State) (k : Nat) (f : Bus → Bus) : (s.modBus k f).power = s.power := rfl

/-! ## State.modChan -/

@[simp] theorem State.modChan_pending (s : State) (h : Nat) (f : Chan → Chan) : (s.modChan h f).pending = s.pending := rfl
@[simp] theorem State.modChan_regs (s : State) (h : Nat) (f : Chan → Chan) : (s.modChan h f).regs = s.regs := rfl
@[simp] theorem State.modChan_mem (s : State) (h : Nat) (f : Chan → Chan) : (s.modChan h f).mem = s.mem := rfl
@[simp] theorem State.modChan_ringMem (s : State) (h : Nat) (f : Chan → Chan) : (s.modChan h f).ringMem = s.ringMem := rfl
@[simp] theorem State.modChan_ue (s : State) (h : Nat) (f : Chan → Chan) : (s.modChan h f).ue = s.ue := rfl
@[simp] theorem State.modChan_ce (s : State) (h : Nat) (f : Chan → Chan) : (s.modChan h f).ce = s.ce := rfl
@[simp] theorem State.modChan_free (s : State) (h : Nat) (f : Chan → Chan) : (s.modChan h f).free = s.free := rfl
@[simp] theorem State.modChan_out (s : State) (h : Nat) (f : Chan → Chan) : (s.modChan h f).out = s.out := rfl
@[simp] theorem State.modChan_nextKey (s : State) (h : Nat) (f : Chan → Chan) : (s.modChan h f).nextKey = s.nextKey := rfl
@[simp] theorem State.modChan_memEpoch (s : State) (h : Nat) (f : Chan → Chan) : (s.modChan h f).memEpoch = s.memEpoch := rfl
@[simp] theorem State.modChan_readySeq (s : State) (h : Nat) (f : Chan → Chan) : (s.modChan h f).readySeq = s.readySeq := rfl
@[simp] theorem State.modChan_rig (s : State) (h : Nat) (f : Chan → Chan) : (s.modChan h f).rig = s.rig := rfl
@[simp] theorem State.modChan_launch (s : State) (h : Nat) (f : Chan → Chan) : (s.modChan h f).launch = s.launch := rfl
@[simp] theorem State.modChan_ports (s : State) (h : Nat) (f : Chan → Chan) : (s.modChan h f).ports = s.ports := rfl
@[simp] theorem State.modChan_buses (s : State) (h : Nat) (f : Chan → Chan) : (s.modChan h f).buses = s.buses := rfl
@[simp] theorem State.modChan_cores (s : State) (h : Nat) (f : Chan → Chan) : (s.modChan h f).cores = s.cores := rfl
@[simp] theorem State.modChan_tval (s : State) (h : Nat) (f : Chan → Chan) : (s.modChan h f).tval = s.tval := rfl
@[simp] theorem State.modChan_tstrict (s : State) (h : Nat) (f : Chan → Chan) : (s.modChan h f).tstrict = s.tstrict := rfl
@[simp] theorem State.modChan_lanes (s : State) (h : Nat) (f : Chan → Chan) : (s.modChan h f).lanes = s.lanes := rfl
@[simp] theorem State.modChan_mcSent (s : State) (h : Nat) (f : Chan → Chan) : (s.modChan h f).mcSent = s.mcSent := rfl
@[simp] theorem State.modChan_mcPruned (s : State) (h : Nat) (f : Chan → Chan) : (s.modChan h f).mcPruned = s.mcPruned := rfl
@[simp] theorem State.modChan_stripes (s : State) (h : Nat) (f : Chan → Chan) : (s.modChan h f).stripes = s.stripes := rfl
@[simp] theorem State.modChan_miss (s : State) (h : Nat) (f : Chan → Chan) : (s.modChan h f).miss = s.miss := rfl
@[simp] theorem State.modChan_blocked (s : State) (h : Nat) (f : Chan → Chan) : (s.modChan h f).blocked = s.blocked := rfl
@[simp] theorem State.modChan_jobs (s : State) (h : Nat) (f : Chan → Chan) : (s.modChan h f).jobs = s.jobs := rfl
@[simp] theorem State.modChan_cplPend (s : State) (h : Nat) (f : Chan → Chan) : (s.modChan h f).cplPend = s.cplPend := rfl
@[simp] theorem State.modChan_glz (s : State) (h : Nat) (f : Chan → Chan) : (s.modChan h f).glz = s.glz := rfl
@[simp] theorem State.modChan_memChans (s : State) (h : Nat) (f : Chan → Chan) : (s.modChan h f).memChans = s.memChans := rfl
@[simp] theorem State.modChan_memPass (s : State) (h : Nat) (f : Chan → Chan) : (s.modChan h f).memPass = s.memPass := rfl
@[simp] theorem State.modChan_links (s : State) (h : Nat) (f : Chan → Chan) : (s.modChan h f).links = s.links := rfl
@[simp] theorem State.modChan_mgmt (s : State) (h : Nat) (f : Chan → Chan) : (s.modChan h f).mgmt = s.mgmt := rfl
@[simp] theorem State.modChan_log (s : State) (h : Nat) (f : Chan → Chan) : (s.modChan h f).log = s.log := rfl
@[simp] theorem State.modChan_mram (s : State) (h : Nat) (f : Chan → Chan) : (s.modChan h f).mram = s.mram := rfl
@[simp] theorem State.modChan_flash (s : State) (h : Nat) (f : Chan → Chan) : (s.modChan h f).flash = s.flash := rfl
@[simp] theorem State.modChan_trayFp (s : State) (h : Nat) (f : Chan → Chan) : (s.modChan h f).trayFp = s.trayFp := rfl
@[simp] theorem State.modChan_power (s : State) (h : Nat) (f : Chan → Chan) : (s.modChan h f).power = s.power := rfl

/-! ## State.modLink -/

@[simp] theorem State.modLink_pending (s : State) (d : Nat) (f : LinkPort → LinkPort) : (s.modLink d f).pending = s.pending := rfl
@[simp] theorem State.modLink_regs (s : State) (d : Nat) (f : LinkPort → LinkPort) : (s.modLink d f).regs = s.regs := rfl
@[simp] theorem State.modLink_mem (s : State) (d : Nat) (f : LinkPort → LinkPort) : (s.modLink d f).mem = s.mem := rfl
@[simp] theorem State.modLink_ringMem (s : State) (d : Nat) (f : LinkPort → LinkPort) : (s.modLink d f).ringMem = s.ringMem := rfl
@[simp] theorem State.modLink_ue (s : State) (d : Nat) (f : LinkPort → LinkPort) : (s.modLink d f).ue = s.ue := rfl
@[simp] theorem State.modLink_ce (s : State) (d : Nat) (f : LinkPort → LinkPort) : (s.modLink d f).ce = s.ce := rfl
@[simp] theorem State.modLink_free (s : State) (d : Nat) (f : LinkPort → LinkPort) : (s.modLink d f).free = s.free := rfl
@[simp] theorem State.modLink_out (s : State) (d : Nat) (f : LinkPort → LinkPort) : (s.modLink d f).out = s.out := rfl
@[simp] theorem State.modLink_nextKey (s : State) (d : Nat) (f : LinkPort → LinkPort) : (s.modLink d f).nextKey = s.nextKey := rfl
@[simp] theorem State.modLink_memEpoch (s : State) (d : Nat) (f : LinkPort → LinkPort) : (s.modLink d f).memEpoch = s.memEpoch := rfl
@[simp] theorem State.modLink_readySeq (s : State) (d : Nat) (f : LinkPort → LinkPort) : (s.modLink d f).readySeq = s.readySeq := rfl
@[simp] theorem State.modLink_rig (s : State) (d : Nat) (f : LinkPort → LinkPort) : (s.modLink d f).rig = s.rig := rfl
@[simp] theorem State.modLink_launch (s : State) (d : Nat) (f : LinkPort → LinkPort) : (s.modLink d f).launch = s.launch := rfl
@[simp] theorem State.modLink_ports (s : State) (d : Nat) (f : LinkPort → LinkPort) : (s.modLink d f).ports = s.ports := rfl
@[simp] theorem State.modLink_buses (s : State) (d : Nat) (f : LinkPort → LinkPort) : (s.modLink d f).buses = s.buses := rfl
@[simp] theorem State.modLink_cores (s : State) (d : Nat) (f : LinkPort → LinkPort) : (s.modLink d f).cores = s.cores := rfl
@[simp] theorem State.modLink_tval (s : State) (d : Nat) (f : LinkPort → LinkPort) : (s.modLink d f).tval = s.tval := rfl
@[simp] theorem State.modLink_tstrict (s : State) (d : Nat) (f : LinkPort → LinkPort) : (s.modLink d f).tstrict = s.tstrict := rfl
@[simp] theorem State.modLink_lanes (s : State) (d : Nat) (f : LinkPort → LinkPort) : (s.modLink d f).lanes = s.lanes := rfl
@[simp] theorem State.modLink_mcSent (s : State) (d : Nat) (f : LinkPort → LinkPort) : (s.modLink d f).mcSent = s.mcSent := rfl
@[simp] theorem State.modLink_mcPruned (s : State) (d : Nat) (f : LinkPort → LinkPort) : (s.modLink d f).mcPruned = s.mcPruned := rfl
@[simp] theorem State.modLink_stripes (s : State) (d : Nat) (f : LinkPort → LinkPort) : (s.modLink d f).stripes = s.stripes := rfl
@[simp] theorem State.modLink_miss (s : State) (d : Nat) (f : LinkPort → LinkPort) : (s.modLink d f).miss = s.miss := rfl
@[simp] theorem State.modLink_blocked (s : State) (d : Nat) (f : LinkPort → LinkPort) : (s.modLink d f).blocked = s.blocked := rfl
@[simp] theorem State.modLink_jobs (s : State) (d : Nat) (f : LinkPort → LinkPort) : (s.modLink d f).jobs = s.jobs := rfl
@[simp] theorem State.modLink_cplPend (s : State) (d : Nat) (f : LinkPort → LinkPort) : (s.modLink d f).cplPend = s.cplPend := rfl
@[simp] theorem State.modLink_glz (s : State) (d : Nat) (f : LinkPort → LinkPort) : (s.modLink d f).glz = s.glz := rfl
@[simp] theorem State.modLink_memChans (s : State) (d : Nat) (f : LinkPort → LinkPort) : (s.modLink d f).memChans = s.memChans := rfl
@[simp] theorem State.modLink_memPass (s : State) (d : Nat) (f : LinkPort → LinkPort) : (s.modLink d f).memPass = s.memPass := rfl
@[simp] theorem State.modLink_chans (s : State) (d : Nat) (f : LinkPort → LinkPort) : (s.modLink d f).chans = s.chans := rfl
@[simp] theorem State.modLink_mgmt (s : State) (d : Nat) (f : LinkPort → LinkPort) : (s.modLink d f).mgmt = s.mgmt := rfl
@[simp] theorem State.modLink_log (s : State) (d : Nat) (f : LinkPort → LinkPort) : (s.modLink d f).log = s.log := rfl
@[simp] theorem State.modLink_mram (s : State) (d : Nat) (f : LinkPort → LinkPort) : (s.modLink d f).mram = s.mram := rfl
@[simp] theorem State.modLink_flash (s : State) (d : Nat) (f : LinkPort → LinkPort) : (s.modLink d f).flash = s.flash := rfl
@[simp] theorem State.modLink_trayFp (s : State) (d : Nat) (f : LinkPort → LinkPort) : (s.modLink d f).trayFp = s.trayFp := rfl
@[simp] theorem State.modLink_power (s : State) (d : Nat) (f : LinkPort → LinkPort) : (s.modLink d f).power = s.power := rfl

/-! ## State.modGlaze -/

@[simp] theorem State.modGlaze_pending (s : State) (g : Nat) (f : Glz → Glz) : (s.modGlaze g f).pending = s.pending := rfl
@[simp] theorem State.modGlaze_regs (s : State) (g : Nat) (f : Glz → Glz) : (s.modGlaze g f).regs = s.regs := rfl
@[simp] theorem State.modGlaze_mem (s : State) (g : Nat) (f : Glz → Glz) : (s.modGlaze g f).mem = s.mem := rfl
@[simp] theorem State.modGlaze_ringMem (s : State) (g : Nat) (f : Glz → Glz) : (s.modGlaze g f).ringMem = s.ringMem := rfl
@[simp] theorem State.modGlaze_ue (s : State) (g : Nat) (f : Glz → Glz) : (s.modGlaze g f).ue = s.ue := rfl
@[simp] theorem State.modGlaze_ce (s : State) (g : Nat) (f : Glz → Glz) : (s.modGlaze g f).ce = s.ce := rfl
@[simp] theorem State.modGlaze_free (s : State) (g : Nat) (f : Glz → Glz) : (s.modGlaze g f).free = s.free := rfl
@[simp] theorem State.modGlaze_out (s : State) (g : Nat) (f : Glz → Glz) : (s.modGlaze g f).out = s.out := rfl
@[simp] theorem State.modGlaze_nextKey (s : State) (g : Nat) (f : Glz → Glz) : (s.modGlaze g f).nextKey = s.nextKey := rfl
@[simp] theorem State.modGlaze_memEpoch (s : State) (g : Nat) (f : Glz → Glz) : (s.modGlaze g f).memEpoch = s.memEpoch := rfl
@[simp] theorem State.modGlaze_readySeq (s : State) (g : Nat) (f : Glz → Glz) : (s.modGlaze g f).readySeq = s.readySeq := rfl
@[simp] theorem State.modGlaze_rig (s : State) (g : Nat) (f : Glz → Glz) : (s.modGlaze g f).rig = s.rig := rfl
@[simp] theorem State.modGlaze_launch (s : State) (g : Nat) (f : Glz → Glz) : (s.modGlaze g f).launch = s.launch := rfl
@[simp] theorem State.modGlaze_ports (s : State) (g : Nat) (f : Glz → Glz) : (s.modGlaze g f).ports = s.ports := rfl
@[simp] theorem State.modGlaze_buses (s : State) (g : Nat) (f : Glz → Glz) : (s.modGlaze g f).buses = s.buses := rfl
@[simp] theorem State.modGlaze_cores (s : State) (g : Nat) (f : Glz → Glz) : (s.modGlaze g f).cores = s.cores := rfl
@[simp] theorem State.modGlaze_tval (s : State) (g : Nat) (f : Glz → Glz) : (s.modGlaze g f).tval = s.tval := rfl
@[simp] theorem State.modGlaze_tstrict (s : State) (g : Nat) (f : Glz → Glz) : (s.modGlaze g f).tstrict = s.tstrict := rfl
@[simp] theorem State.modGlaze_lanes (s : State) (g : Nat) (f : Glz → Glz) : (s.modGlaze g f).lanes = s.lanes := rfl
@[simp] theorem State.modGlaze_mcSent (s : State) (g : Nat) (f : Glz → Glz) : (s.modGlaze g f).mcSent = s.mcSent := rfl
@[simp] theorem State.modGlaze_mcPruned (s : State) (g : Nat) (f : Glz → Glz) : (s.modGlaze g f).mcPruned = s.mcPruned := rfl
@[simp] theorem State.modGlaze_stripes (s : State) (g : Nat) (f : Glz → Glz) : (s.modGlaze g f).stripes = s.stripes := rfl
@[simp] theorem State.modGlaze_miss (s : State) (g : Nat) (f : Glz → Glz) : (s.modGlaze g f).miss = s.miss := rfl
@[simp] theorem State.modGlaze_blocked (s : State) (g : Nat) (f : Glz → Glz) : (s.modGlaze g f).blocked = s.blocked := rfl
@[simp] theorem State.modGlaze_jobs (s : State) (g : Nat) (f : Glz → Glz) : (s.modGlaze g f).jobs = s.jobs := rfl
@[simp] theorem State.modGlaze_cplPend (s : State) (g : Nat) (f : Glz → Glz) : (s.modGlaze g f).cplPend = s.cplPend := rfl
@[simp] theorem State.modGlaze_memChans (s : State) (g : Nat) (f : Glz → Glz) : (s.modGlaze g f).memChans = s.memChans := rfl
@[simp] theorem State.modGlaze_memPass (s : State) (g : Nat) (f : Glz → Glz) : (s.modGlaze g f).memPass = s.memPass := rfl
@[simp] theorem State.modGlaze_chans (s : State) (g : Nat) (f : Glz → Glz) : (s.modGlaze g f).chans = s.chans := rfl
@[simp] theorem State.modGlaze_links (s : State) (g : Nat) (f : Glz → Glz) : (s.modGlaze g f).links = s.links := rfl
@[simp] theorem State.modGlaze_mgmt (s : State) (g : Nat) (f : Glz → Glz) : (s.modGlaze g f).mgmt = s.mgmt := rfl
@[simp] theorem State.modGlaze_log (s : State) (g : Nat) (f : Glz → Glz) : (s.modGlaze g f).log = s.log := rfl
@[simp] theorem State.modGlaze_mram (s : State) (g : Nat) (f : Glz → Glz) : (s.modGlaze g f).mram = s.mram := rfl
@[simp] theorem State.modGlaze_flash (s : State) (g : Nat) (f : Glz → Glz) : (s.modGlaze g f).flash = s.flash := rfl
@[simp] theorem State.modGlaze_trayFp (s : State) (g : Nat) (f : Glz → Glz) : (s.modGlaze g f).trayFp = s.trayFp := rfl
@[simp] theorem State.modGlaze_power (s : State) (g : Nat) (f : Glz → Glz) : (s.modGlaze g f).power = s.power := rfl

/-! ## State.modMem -/

@[simp] theorem State.modMem_pending (s : State) (k : Nat) (f : MemChan → MemChan) : (s.modMem k f).pending = s.pending := rfl
@[simp] theorem State.modMem_regs (s : State) (k : Nat) (f : MemChan → MemChan) : (s.modMem k f).regs = s.regs := rfl
@[simp] theorem State.modMem_mem (s : State) (k : Nat) (f : MemChan → MemChan) : (s.modMem k f).mem = s.mem := rfl
@[simp] theorem State.modMem_ringMem (s : State) (k : Nat) (f : MemChan → MemChan) : (s.modMem k f).ringMem = s.ringMem := rfl
@[simp] theorem State.modMem_ue (s : State) (k : Nat) (f : MemChan → MemChan) : (s.modMem k f).ue = s.ue := rfl
@[simp] theorem State.modMem_ce (s : State) (k : Nat) (f : MemChan → MemChan) : (s.modMem k f).ce = s.ce := rfl
@[simp] theorem State.modMem_free (s : State) (k : Nat) (f : MemChan → MemChan) : (s.modMem k f).free = s.free := rfl
@[simp] theorem State.modMem_out (s : State) (k : Nat) (f : MemChan → MemChan) : (s.modMem k f).out = s.out := rfl
@[simp] theorem State.modMem_nextKey (s : State) (k : Nat) (f : MemChan → MemChan) : (s.modMem k f).nextKey = s.nextKey := rfl
@[simp] theorem State.modMem_memEpoch (s : State) (k : Nat) (f : MemChan → MemChan) : (s.modMem k f).memEpoch = s.memEpoch := rfl
@[simp] theorem State.modMem_readySeq (s : State) (k : Nat) (f : MemChan → MemChan) : (s.modMem k f).readySeq = s.readySeq := rfl
@[simp] theorem State.modMem_rig (s : State) (k : Nat) (f : MemChan → MemChan) : (s.modMem k f).rig = s.rig := rfl
@[simp] theorem State.modMem_launch (s : State) (k : Nat) (f : MemChan → MemChan) : (s.modMem k f).launch = s.launch := rfl
@[simp] theorem State.modMem_ports (s : State) (k : Nat) (f : MemChan → MemChan) : (s.modMem k f).ports = s.ports := rfl
@[simp] theorem State.modMem_buses (s : State) (k : Nat) (f : MemChan → MemChan) : (s.modMem k f).buses = s.buses := rfl
@[simp] theorem State.modMem_cores (s : State) (k : Nat) (f : MemChan → MemChan) : (s.modMem k f).cores = s.cores := rfl
@[simp] theorem State.modMem_tval (s : State) (k : Nat) (f : MemChan → MemChan) : (s.modMem k f).tval = s.tval := rfl
@[simp] theorem State.modMem_tstrict (s : State) (k : Nat) (f : MemChan → MemChan) : (s.modMem k f).tstrict = s.tstrict := rfl
@[simp] theorem State.modMem_lanes (s : State) (k : Nat) (f : MemChan → MemChan) : (s.modMem k f).lanes = s.lanes := rfl
@[simp] theorem State.modMem_mcSent (s : State) (k : Nat) (f : MemChan → MemChan) : (s.modMem k f).mcSent = s.mcSent := rfl
@[simp] theorem State.modMem_mcPruned (s : State) (k : Nat) (f : MemChan → MemChan) : (s.modMem k f).mcPruned = s.mcPruned := rfl
@[simp] theorem State.modMem_stripes (s : State) (k : Nat) (f : MemChan → MemChan) : (s.modMem k f).stripes = s.stripes := rfl
@[simp] theorem State.modMem_miss (s : State) (k : Nat) (f : MemChan → MemChan) : (s.modMem k f).miss = s.miss := rfl
@[simp] theorem State.modMem_blocked (s : State) (k : Nat) (f : MemChan → MemChan) : (s.modMem k f).blocked = s.blocked := rfl
@[simp] theorem State.modMem_jobs (s : State) (k : Nat) (f : MemChan → MemChan) : (s.modMem k f).jobs = s.jobs := rfl
@[simp] theorem State.modMem_cplPend (s : State) (k : Nat) (f : MemChan → MemChan) : (s.modMem k f).cplPend = s.cplPend := rfl
@[simp] theorem State.modMem_glz (s : State) (k : Nat) (f : MemChan → MemChan) : (s.modMem k f).glz = s.glz := rfl
@[simp] theorem State.modMem_memPass (s : State) (k : Nat) (f : MemChan → MemChan) : (s.modMem k f).memPass = s.memPass := rfl
@[simp] theorem State.modMem_chans (s : State) (k : Nat) (f : MemChan → MemChan) : (s.modMem k f).chans = s.chans := rfl
@[simp] theorem State.modMem_links (s : State) (k : Nat) (f : MemChan → MemChan) : (s.modMem k f).links = s.links := rfl
@[simp] theorem State.modMem_mgmt (s : State) (k : Nat) (f : MemChan → MemChan) : (s.modMem k f).mgmt = s.mgmt := rfl
@[simp] theorem State.modMem_log (s : State) (k : Nat) (f : MemChan → MemChan) : (s.modMem k f).log = s.log := rfl
@[simp] theorem State.modMem_mram (s : State) (k : Nat) (f : MemChan → MemChan) : (s.modMem k f).mram = s.mram := rfl
@[simp] theorem State.modMem_flash (s : State) (k : Nat) (f : MemChan → MemChan) : (s.modMem k f).flash = s.flash := rfl
@[simp] theorem State.modMem_trayFp (s : State) (k : Nat) (f : MemChan → MemChan) : (s.modMem k f).trayFp = s.trayFp := rfl
@[simp] theorem State.modMem_power (s : State) (k : Nat) (f : MemChan → MemChan) : (s.modMem k f).power = s.power := rfl

/-! ## State.setLane -/

@[simp] theorem State.setLane_pending (s : State) (r c : Nat) (l : Lane) : (s.setLane r c l).pending = s.pending := rfl
@[simp] theorem State.setLane_regs (s : State) (r c : Nat) (l : Lane) : (s.setLane r c l).regs = s.regs := rfl
@[simp] theorem State.setLane_mem (s : State) (r c : Nat) (l : Lane) : (s.setLane r c l).mem = s.mem := rfl
@[simp] theorem State.setLane_ringMem (s : State) (r c : Nat) (l : Lane) : (s.setLane r c l).ringMem = s.ringMem := rfl
@[simp] theorem State.setLane_ue (s : State) (r c : Nat) (l : Lane) : (s.setLane r c l).ue = s.ue := rfl
@[simp] theorem State.setLane_ce (s : State) (r c : Nat) (l : Lane) : (s.setLane r c l).ce = s.ce := rfl
@[simp] theorem State.setLane_free (s : State) (r c : Nat) (l : Lane) : (s.setLane r c l).free = s.free := rfl
@[simp] theorem State.setLane_out (s : State) (r c : Nat) (l : Lane) : (s.setLane r c l).out = s.out := rfl
@[simp] theorem State.setLane_nextKey (s : State) (r c : Nat) (l : Lane) : (s.setLane r c l).nextKey = s.nextKey := rfl
@[simp] theorem State.setLane_memEpoch (s : State) (r c : Nat) (l : Lane) : (s.setLane r c l).memEpoch = s.memEpoch := rfl
@[simp] theorem State.setLane_readySeq (s : State) (r c : Nat) (l : Lane) : (s.setLane r c l).readySeq = s.readySeq := rfl
@[simp] theorem State.setLane_rig (s : State) (r c : Nat) (l : Lane) : (s.setLane r c l).rig = s.rig := rfl
@[simp] theorem State.setLane_launch (s : State) (r c : Nat) (l : Lane) : (s.setLane r c l).launch = s.launch := rfl
@[simp] theorem State.setLane_ports (s : State) (r c : Nat) (l : Lane) : (s.setLane r c l).ports = s.ports := rfl
@[simp] theorem State.setLane_buses (s : State) (r c : Nat) (l : Lane) : (s.setLane r c l).buses = s.buses := rfl
@[simp] theorem State.setLane_cores (s : State) (r c : Nat) (l : Lane) : (s.setLane r c l).cores = s.cores := rfl
@[simp] theorem State.setLane_tval (s : State) (r c : Nat) (l : Lane) : (s.setLane r c l).tval = s.tval := rfl
@[simp] theorem State.setLane_tstrict (s : State) (r c : Nat) (l : Lane) : (s.setLane r c l).tstrict = s.tstrict := rfl
@[simp] theorem State.setLane_mcSent (s : State) (r c : Nat) (l : Lane) : (s.setLane r c l).mcSent = s.mcSent := rfl
@[simp] theorem State.setLane_mcPruned (s : State) (r c : Nat) (l : Lane) : (s.setLane r c l).mcPruned = s.mcPruned := rfl
@[simp] theorem State.setLane_stripes (s : State) (r c : Nat) (l : Lane) : (s.setLane r c l).stripes = s.stripes := rfl
@[simp] theorem State.setLane_miss (s : State) (r c : Nat) (l : Lane) : (s.setLane r c l).miss = s.miss := rfl
@[simp] theorem State.setLane_blocked (s : State) (r c : Nat) (l : Lane) : (s.setLane r c l).blocked = s.blocked := rfl
@[simp] theorem State.setLane_jobs (s : State) (r c : Nat) (l : Lane) : (s.setLane r c l).jobs = s.jobs := rfl
@[simp] theorem State.setLane_cplPend (s : State) (r c : Nat) (l : Lane) : (s.setLane r c l).cplPend = s.cplPend := rfl
@[simp] theorem State.setLane_glz (s : State) (r c : Nat) (l : Lane) : (s.setLane r c l).glz = s.glz := rfl
@[simp] theorem State.setLane_memChans (s : State) (r c : Nat) (l : Lane) : (s.setLane r c l).memChans = s.memChans := rfl
@[simp] theorem State.setLane_memPass (s : State) (r c : Nat) (l : Lane) : (s.setLane r c l).memPass = s.memPass := rfl
@[simp] theorem State.setLane_chans (s : State) (r c : Nat) (l : Lane) : (s.setLane r c l).chans = s.chans := rfl
@[simp] theorem State.setLane_links (s : State) (r c : Nat) (l : Lane) : (s.setLane r c l).links = s.links := rfl
@[simp] theorem State.setLane_mgmt (s : State) (r c : Nat) (l : Lane) : (s.setLane r c l).mgmt = s.mgmt := rfl
@[simp] theorem State.setLane_log (s : State) (r c : Nat) (l : Lane) : (s.setLane r c l).log = s.log := rfl
@[simp] theorem State.setLane_mram (s : State) (r c : Nat) (l : Lane) : (s.setLane r c l).mram = s.mram := rfl
@[simp] theorem State.setLane_flash (s : State) (r c : Nat) (l : Lane) : (s.setLane r c l).flash = s.flash := rfl
@[simp] theorem State.setLane_trayFp (s : State) (r c : Nat) (l : Lane) : (s.setLane r c l).trayFp = s.trayFp := rfl
@[simp] theorem State.setLane_power (s : State) (r c : Nat) (l : Lane) : (s.setLane r c l).power = s.power := rfl

/-! ## State.setTally -/

@[simp] theorem State.setTally_pending (s : State) (t : Nat) (v : W32) : (s.setTally t v).pending = s.pending := rfl
@[simp] theorem State.setTally_regs (s : State) (t : Nat) (v : W32) : (s.setTally t v).regs = s.regs := rfl
@[simp] theorem State.setTally_mem (s : State) (t : Nat) (v : W32) : (s.setTally t v).mem = s.mem := rfl
@[simp] theorem State.setTally_ringMem (s : State) (t : Nat) (v : W32) : (s.setTally t v).ringMem = s.ringMem := rfl
@[simp] theorem State.setTally_ue (s : State) (t : Nat) (v : W32) : (s.setTally t v).ue = s.ue := rfl
@[simp] theorem State.setTally_ce (s : State) (t : Nat) (v : W32) : (s.setTally t v).ce = s.ce := rfl
@[simp] theorem State.setTally_free (s : State) (t : Nat) (v : W32) : (s.setTally t v).free = s.free := rfl
@[simp] theorem State.setTally_out (s : State) (t : Nat) (v : W32) : (s.setTally t v).out = s.out := rfl
@[simp] theorem State.setTally_nextKey (s : State) (t : Nat) (v : W32) : (s.setTally t v).nextKey = s.nextKey := rfl
@[simp] theorem State.setTally_memEpoch (s : State) (t : Nat) (v : W32) : (s.setTally t v).memEpoch = s.memEpoch := rfl
@[simp] theorem State.setTally_readySeq (s : State) (t : Nat) (v : W32) : (s.setTally t v).readySeq = s.readySeq := rfl
@[simp] theorem State.setTally_rig (s : State) (t : Nat) (v : W32) : (s.setTally t v).rig = s.rig := rfl
@[simp] theorem State.setTally_launch (s : State) (t : Nat) (v : W32) : (s.setTally t v).launch = s.launch := rfl
@[simp] theorem State.setTally_ports (s : State) (t : Nat) (v : W32) : (s.setTally t v).ports = s.ports := rfl
@[simp] theorem State.setTally_buses (s : State) (t : Nat) (v : W32) : (s.setTally t v).buses = s.buses := rfl
@[simp] theorem State.setTally_cores (s : State) (t : Nat) (v : W32) : (s.setTally t v).cores = s.cores := rfl
@[simp] theorem State.setTally_tstrict (s : State) (t : Nat) (v : W32) : (s.setTally t v).tstrict = s.tstrict := rfl
@[simp] theorem State.setTally_lanes (s : State) (t : Nat) (v : W32) : (s.setTally t v).lanes = s.lanes := rfl
@[simp] theorem State.setTally_mcSent (s : State) (t : Nat) (v : W32) : (s.setTally t v).mcSent = s.mcSent := rfl
@[simp] theorem State.setTally_mcPruned (s : State) (t : Nat) (v : W32) : (s.setTally t v).mcPruned = s.mcPruned := rfl
@[simp] theorem State.setTally_stripes (s : State) (t : Nat) (v : W32) : (s.setTally t v).stripes = s.stripes := rfl
@[simp] theorem State.setTally_miss (s : State) (t : Nat) (v : W32) : (s.setTally t v).miss = s.miss := rfl
@[simp] theorem State.setTally_blocked (s : State) (t : Nat) (v : W32) : (s.setTally t v).blocked = s.blocked := rfl
@[simp] theorem State.setTally_jobs (s : State) (t : Nat) (v : W32) : (s.setTally t v).jobs = s.jobs := rfl
@[simp] theorem State.setTally_cplPend (s : State) (t : Nat) (v : W32) : (s.setTally t v).cplPend = s.cplPend := rfl
@[simp] theorem State.setTally_glz (s : State) (t : Nat) (v : W32) : (s.setTally t v).glz = s.glz := rfl
@[simp] theorem State.setTally_memChans (s : State) (t : Nat) (v : W32) : (s.setTally t v).memChans = s.memChans := rfl
@[simp] theorem State.setTally_memPass (s : State) (t : Nat) (v : W32) : (s.setTally t v).memPass = s.memPass := rfl
@[simp] theorem State.setTally_chans (s : State) (t : Nat) (v : W32) : (s.setTally t v).chans = s.chans := rfl
@[simp] theorem State.setTally_links (s : State) (t : Nat) (v : W32) : (s.setTally t v).links = s.links := rfl
@[simp] theorem State.setTally_mgmt (s : State) (t : Nat) (v : W32) : (s.setTally t v).mgmt = s.mgmt := rfl
@[simp] theorem State.setTally_log (s : State) (t : Nat) (v : W32) : (s.setTally t v).log = s.log := rfl
@[simp] theorem State.setTally_mram (s : State) (t : Nat) (v : W32) : (s.setTally t v).mram = s.mram := rfl
@[simp] theorem State.setTally_flash (s : State) (t : Nat) (v : W32) : (s.setTally t v).flash = s.flash := rfl
@[simp] theorem State.setTally_trayFp (s : State) (t : Nat) (v : W32) : (s.setTally t v).trayFp = s.trayFp := rfl
@[simp] theorem State.setTally_power (s : State) (t : Nat) (v : W32) : (s.setTally t v).power = s.power := rfl

/-! ## State.setStrict -/

@[simp] theorem State.setStrict_pending (s : State) (t : Nat) (b : Bool) : (s.setStrict t b).pending = s.pending := rfl
@[simp] theorem State.setStrict_regs (s : State) (t : Nat) (b : Bool) : (s.setStrict t b).regs = s.regs := rfl
@[simp] theorem State.setStrict_mem (s : State) (t : Nat) (b : Bool) : (s.setStrict t b).mem = s.mem := rfl
@[simp] theorem State.setStrict_ringMem (s : State) (t : Nat) (b : Bool) : (s.setStrict t b).ringMem = s.ringMem := rfl
@[simp] theorem State.setStrict_ue (s : State) (t : Nat) (b : Bool) : (s.setStrict t b).ue = s.ue := rfl
@[simp] theorem State.setStrict_ce (s : State) (t : Nat) (b : Bool) : (s.setStrict t b).ce = s.ce := rfl
@[simp] theorem State.setStrict_free (s : State) (t : Nat) (b : Bool) : (s.setStrict t b).free = s.free := rfl
@[simp] theorem State.setStrict_out (s : State) (t : Nat) (b : Bool) : (s.setStrict t b).out = s.out := rfl
@[simp] theorem State.setStrict_nextKey (s : State) (t : Nat) (b : Bool) : (s.setStrict t b).nextKey = s.nextKey := rfl
@[simp] theorem State.setStrict_memEpoch (s : State) (t : Nat) (b : Bool) : (s.setStrict t b).memEpoch = s.memEpoch := rfl
@[simp] theorem State.setStrict_readySeq (s : State) (t : Nat) (b : Bool) : (s.setStrict t b).readySeq = s.readySeq := rfl
@[simp] theorem State.setStrict_rig (s : State) (t : Nat) (b : Bool) : (s.setStrict t b).rig = s.rig := rfl
@[simp] theorem State.setStrict_launch (s : State) (t : Nat) (b : Bool) : (s.setStrict t b).launch = s.launch := rfl
@[simp] theorem State.setStrict_ports (s : State) (t : Nat) (b : Bool) : (s.setStrict t b).ports = s.ports := rfl
@[simp] theorem State.setStrict_buses (s : State) (t : Nat) (b : Bool) : (s.setStrict t b).buses = s.buses := rfl
@[simp] theorem State.setStrict_cores (s : State) (t : Nat) (b : Bool) : (s.setStrict t b).cores = s.cores := rfl
@[simp] theorem State.setStrict_tval (s : State) (t : Nat) (b : Bool) : (s.setStrict t b).tval = s.tval := rfl
@[simp] theorem State.setStrict_lanes (s : State) (t : Nat) (b : Bool) : (s.setStrict t b).lanes = s.lanes := rfl
@[simp] theorem State.setStrict_mcSent (s : State) (t : Nat) (b : Bool) : (s.setStrict t b).mcSent = s.mcSent := rfl
@[simp] theorem State.setStrict_mcPruned (s : State) (t : Nat) (b : Bool) : (s.setStrict t b).mcPruned = s.mcPruned := rfl
@[simp] theorem State.setStrict_stripes (s : State) (t : Nat) (b : Bool) : (s.setStrict t b).stripes = s.stripes := rfl
@[simp] theorem State.setStrict_miss (s : State) (t : Nat) (b : Bool) : (s.setStrict t b).miss = s.miss := rfl
@[simp] theorem State.setStrict_blocked (s : State) (t : Nat) (b : Bool) : (s.setStrict t b).blocked = s.blocked := rfl
@[simp] theorem State.setStrict_jobs (s : State) (t : Nat) (b : Bool) : (s.setStrict t b).jobs = s.jobs := rfl
@[simp] theorem State.setStrict_cplPend (s : State) (t : Nat) (b : Bool) : (s.setStrict t b).cplPend = s.cplPend := rfl
@[simp] theorem State.setStrict_glz (s : State) (t : Nat) (b : Bool) : (s.setStrict t b).glz = s.glz := rfl
@[simp] theorem State.setStrict_memChans (s : State) (t : Nat) (b : Bool) : (s.setStrict t b).memChans = s.memChans := rfl
@[simp] theorem State.setStrict_memPass (s : State) (t : Nat) (b : Bool) : (s.setStrict t b).memPass = s.memPass := rfl
@[simp] theorem State.setStrict_chans (s : State) (t : Nat) (b : Bool) : (s.setStrict t b).chans = s.chans := rfl
@[simp] theorem State.setStrict_links (s : State) (t : Nat) (b : Bool) : (s.setStrict t b).links = s.links := rfl
@[simp] theorem State.setStrict_mgmt (s : State) (t : Nat) (b : Bool) : (s.setStrict t b).mgmt = s.mgmt := rfl
@[simp] theorem State.setStrict_log (s : State) (t : Nat) (b : Bool) : (s.setStrict t b).log = s.log := rfl
@[simp] theorem State.setStrict_mram (s : State) (t : Nat) (b : Bool) : (s.setStrict t b).mram = s.mram := rfl
@[simp] theorem State.setStrict_flash (s : State) (t : Nat) (b : Bool) : (s.setStrict t b).flash = s.flash := rfl
@[simp] theorem State.setStrict_trayFp (s : State) (t : Nat) (b : Bool) : (s.setStrict t b).trayFp = s.trayFp := rfl
@[simp] theorem State.setStrict_power (s : State) (t : Nat) (b : Bool) : (s.setStrict t b).power = s.power := rfl

/-! ## State.setRig -/

@[simp] theorem State.setRig_pending (s : State) (f : Rig → Rig) : (s.setRig f).pending = s.pending := rfl
@[simp] theorem State.setRig_regs (s : State) (f : Rig → Rig) : (s.setRig f).regs = s.regs := rfl
@[simp] theorem State.setRig_mem (s : State) (f : Rig → Rig) : (s.setRig f).mem = s.mem := rfl
@[simp] theorem State.setRig_ringMem (s : State) (f : Rig → Rig) : (s.setRig f).ringMem = s.ringMem := rfl
@[simp] theorem State.setRig_ue (s : State) (f : Rig → Rig) : (s.setRig f).ue = s.ue := rfl
@[simp] theorem State.setRig_ce (s : State) (f : Rig → Rig) : (s.setRig f).ce = s.ce := rfl
@[simp] theorem State.setRig_free (s : State) (f : Rig → Rig) : (s.setRig f).free = s.free := rfl
@[simp] theorem State.setRig_out (s : State) (f : Rig → Rig) : (s.setRig f).out = s.out := rfl
@[simp] theorem State.setRig_nextKey (s : State) (f : Rig → Rig) : (s.setRig f).nextKey = s.nextKey := rfl
@[simp] theorem State.setRig_memEpoch (s : State) (f : Rig → Rig) : (s.setRig f).memEpoch = s.memEpoch := rfl
@[simp] theorem State.setRig_readySeq (s : State) (f : Rig → Rig) : (s.setRig f).readySeq = s.readySeq := rfl
@[simp] theorem State.setRig_launch (s : State) (f : Rig → Rig) : (s.setRig f).launch = s.launch := rfl
@[simp] theorem State.setRig_ports (s : State) (f : Rig → Rig) : (s.setRig f).ports = s.ports := rfl
@[simp] theorem State.setRig_buses (s : State) (f : Rig → Rig) : (s.setRig f).buses = s.buses := rfl
@[simp] theorem State.setRig_cores (s : State) (f : Rig → Rig) : (s.setRig f).cores = s.cores := rfl
@[simp] theorem State.setRig_tval (s : State) (f : Rig → Rig) : (s.setRig f).tval = s.tval := rfl
@[simp] theorem State.setRig_tstrict (s : State) (f : Rig → Rig) : (s.setRig f).tstrict = s.tstrict := rfl
@[simp] theorem State.setRig_lanes (s : State) (f : Rig → Rig) : (s.setRig f).lanes = s.lanes := rfl
@[simp] theorem State.setRig_mcSent (s : State) (f : Rig → Rig) : (s.setRig f).mcSent = s.mcSent := rfl
@[simp] theorem State.setRig_mcPruned (s : State) (f : Rig → Rig) : (s.setRig f).mcPruned = s.mcPruned := rfl
@[simp] theorem State.setRig_stripes (s : State) (f : Rig → Rig) : (s.setRig f).stripes = s.stripes := rfl
@[simp] theorem State.setRig_miss (s : State) (f : Rig → Rig) : (s.setRig f).miss = s.miss := rfl
@[simp] theorem State.setRig_blocked (s : State) (f : Rig → Rig) : (s.setRig f).blocked = s.blocked := rfl
@[simp] theorem State.setRig_jobs (s : State) (f : Rig → Rig) : (s.setRig f).jobs = s.jobs := rfl
@[simp] theorem State.setRig_cplPend (s : State) (f : Rig → Rig) : (s.setRig f).cplPend = s.cplPend := rfl
@[simp] theorem State.setRig_glz (s : State) (f : Rig → Rig) : (s.setRig f).glz = s.glz := rfl
@[simp] theorem State.setRig_memChans (s : State) (f : Rig → Rig) : (s.setRig f).memChans = s.memChans := rfl
@[simp] theorem State.setRig_memPass (s : State) (f : Rig → Rig) : (s.setRig f).memPass = s.memPass := rfl
@[simp] theorem State.setRig_chans (s : State) (f : Rig → Rig) : (s.setRig f).chans = s.chans := rfl
@[simp] theorem State.setRig_links (s : State) (f : Rig → Rig) : (s.setRig f).links = s.links := rfl
@[simp] theorem State.setRig_mgmt (s : State) (f : Rig → Rig) : (s.setRig f).mgmt = s.mgmt := rfl
@[simp] theorem State.setRig_log (s : State) (f : Rig → Rig) : (s.setRig f).log = s.log := rfl
@[simp] theorem State.setRig_mram (s : State) (f : Rig → Rig) : (s.setRig f).mram = s.mram := rfl
@[simp] theorem State.setRig_flash (s : State) (f : Rig → Rig) : (s.setRig f).flash = s.flash := rfl
@[simp] theorem State.setRig_trayFp (s : State) (f : Rig → Rig) : (s.setRig f).trayFp = s.trayFp := rfl
@[simp] theorem State.setRig_power (s : State) (f : Rig → Rig) : (s.setRig f).power = s.power := rfl

/-! ## State.setEntry -/

@[simp] theorem State.setEntry_pending (s : State) (e : Nat) (x : LEntry) : (s.setEntry e x).pending = s.pending := rfl
@[simp] theorem State.setEntry_regs (s : State) (e : Nat) (x : LEntry) : (s.setEntry e x).regs = s.regs := rfl
@[simp] theorem State.setEntry_mem (s : State) (e : Nat) (x : LEntry) : (s.setEntry e x).mem = s.mem := rfl
@[simp] theorem State.setEntry_ringMem (s : State) (e : Nat) (x : LEntry) : (s.setEntry e x).ringMem = s.ringMem := rfl
@[simp] theorem State.setEntry_ue (s : State) (e : Nat) (x : LEntry) : (s.setEntry e x).ue = s.ue := rfl
@[simp] theorem State.setEntry_ce (s : State) (e : Nat) (x : LEntry) : (s.setEntry e x).ce = s.ce := rfl
@[simp] theorem State.setEntry_free (s : State) (e : Nat) (x : LEntry) : (s.setEntry e x).free = s.free := rfl
@[simp] theorem State.setEntry_out (s : State) (e : Nat) (x : LEntry) : (s.setEntry e x).out = s.out := rfl
@[simp] theorem State.setEntry_nextKey (s : State) (e : Nat) (x : LEntry) : (s.setEntry e x).nextKey = s.nextKey := rfl
@[simp] theorem State.setEntry_memEpoch (s : State) (e : Nat) (x : LEntry) : (s.setEntry e x).memEpoch = s.memEpoch := rfl
@[simp] theorem State.setEntry_readySeq (s : State) (e : Nat) (x : LEntry) : (s.setEntry e x).readySeq = s.readySeq := rfl
@[simp] theorem State.setEntry_rig (s : State) (e : Nat) (x : LEntry) : (s.setEntry e x).rig = s.rig := rfl
@[simp] theorem State.setEntry_ports (s : State) (e : Nat) (x : LEntry) : (s.setEntry e x).ports = s.ports := rfl
@[simp] theorem State.setEntry_buses (s : State) (e : Nat) (x : LEntry) : (s.setEntry e x).buses = s.buses := rfl
@[simp] theorem State.setEntry_cores (s : State) (e : Nat) (x : LEntry) : (s.setEntry e x).cores = s.cores := rfl
@[simp] theorem State.setEntry_tval (s : State) (e : Nat) (x : LEntry) : (s.setEntry e x).tval = s.tval := rfl
@[simp] theorem State.setEntry_tstrict (s : State) (e : Nat) (x : LEntry) : (s.setEntry e x).tstrict = s.tstrict := rfl
@[simp] theorem State.setEntry_lanes (s : State) (e : Nat) (x : LEntry) : (s.setEntry e x).lanes = s.lanes := rfl
@[simp] theorem State.setEntry_mcSent (s : State) (e : Nat) (x : LEntry) : (s.setEntry e x).mcSent = s.mcSent := rfl
@[simp] theorem State.setEntry_mcPruned (s : State) (e : Nat) (x : LEntry) : (s.setEntry e x).mcPruned = s.mcPruned := rfl
@[simp] theorem State.setEntry_stripes (s : State) (e : Nat) (x : LEntry) : (s.setEntry e x).stripes = s.stripes := rfl
@[simp] theorem State.setEntry_miss (s : State) (e : Nat) (x : LEntry) : (s.setEntry e x).miss = s.miss := rfl
@[simp] theorem State.setEntry_blocked (s : State) (e : Nat) (x : LEntry) : (s.setEntry e x).blocked = s.blocked := rfl
@[simp] theorem State.setEntry_jobs (s : State) (e : Nat) (x : LEntry) : (s.setEntry e x).jobs = s.jobs := rfl
@[simp] theorem State.setEntry_cplPend (s : State) (e : Nat) (x : LEntry) : (s.setEntry e x).cplPend = s.cplPend := rfl
@[simp] theorem State.setEntry_glz (s : State) (e : Nat) (x : LEntry) : (s.setEntry e x).glz = s.glz := rfl
@[simp] theorem State.setEntry_memChans (s : State) (e : Nat) (x : LEntry) : (s.setEntry e x).memChans = s.memChans := rfl
@[simp] theorem State.setEntry_memPass (s : State) (e : Nat) (x : LEntry) : (s.setEntry e x).memPass = s.memPass := rfl
@[simp] theorem State.setEntry_chans (s : State) (e : Nat) (x : LEntry) : (s.setEntry e x).chans = s.chans := rfl
@[simp] theorem State.setEntry_links (s : State) (e : Nat) (x : LEntry) : (s.setEntry e x).links = s.links := rfl
@[simp] theorem State.setEntry_mgmt (s : State) (e : Nat) (x : LEntry) : (s.setEntry e x).mgmt = s.mgmt := rfl
@[simp] theorem State.setEntry_log (s : State) (e : Nat) (x : LEntry) : (s.setEntry e x).log = s.log := rfl
@[simp] theorem State.setEntry_mram (s : State) (e : Nat) (x : LEntry) : (s.setEntry e x).mram = s.mram := rfl
@[simp] theorem State.setEntry_flash (s : State) (e : Nat) (x : LEntry) : (s.setEntry e x).flash = s.flash := rfl
@[simp] theorem State.setEntry_trayFp (s : State) (e : Nat) (x : LEntry) : (s.setEntry e x).trayFp = s.trayFp := rfl
@[simp] theorem State.setEntry_power (s : State) (e : Nat) (x : LEntry) : (s.setEntry e x).power = s.power := rfl

/-! ## State.putBytes -/

@[simp] theorem State.putBytes_pending (s : State) (a : Nat) (bs : List Byte) : (s.putBytes a bs).pending = s.pending := rfl
@[simp] theorem State.putBytes_regs (s : State) (a : Nat) (bs : List Byte) : (s.putBytes a bs).regs = s.regs := rfl
@[simp] theorem State.putBytes_ringMem (s : State) (a : Nat) (bs : List Byte) : (s.putBytes a bs).ringMem = s.ringMem := rfl
@[simp] theorem State.putBytes_ue (s : State) (a : Nat) (bs : List Byte) : (s.putBytes a bs).ue = s.ue := rfl
@[simp] theorem State.putBytes_ce (s : State) (a : Nat) (bs : List Byte) : (s.putBytes a bs).ce = s.ce := rfl
@[simp] theorem State.putBytes_free (s : State) (a : Nat) (bs : List Byte) : (s.putBytes a bs).free = s.free := rfl
@[simp] theorem State.putBytes_out (s : State) (a : Nat) (bs : List Byte) : (s.putBytes a bs).out = s.out := rfl
@[simp] theorem State.putBytes_nextKey (s : State) (a : Nat) (bs : List Byte) : (s.putBytes a bs).nextKey = s.nextKey := rfl
@[simp] theorem State.putBytes_memEpoch (s : State) (a : Nat) (bs : List Byte) : (s.putBytes a bs).memEpoch = s.memEpoch := rfl
@[simp] theorem State.putBytes_readySeq (s : State) (a : Nat) (bs : List Byte) : (s.putBytes a bs).readySeq = s.readySeq := rfl
@[simp] theorem State.putBytes_rig (s : State) (a : Nat) (bs : List Byte) : (s.putBytes a bs).rig = s.rig := rfl
@[simp] theorem State.putBytes_launch (s : State) (a : Nat) (bs : List Byte) : (s.putBytes a bs).launch = s.launch := rfl
@[simp] theorem State.putBytes_ports (s : State) (a : Nat) (bs : List Byte) : (s.putBytes a bs).ports = s.ports := rfl
@[simp] theorem State.putBytes_buses (s : State) (a : Nat) (bs : List Byte) : (s.putBytes a bs).buses = s.buses := rfl
@[simp] theorem State.putBytes_cores (s : State) (a : Nat) (bs : List Byte) : (s.putBytes a bs).cores = s.cores := rfl
@[simp] theorem State.putBytes_tval (s : State) (a : Nat) (bs : List Byte) : (s.putBytes a bs).tval = s.tval := rfl
@[simp] theorem State.putBytes_tstrict (s : State) (a : Nat) (bs : List Byte) : (s.putBytes a bs).tstrict = s.tstrict := rfl
@[simp] theorem State.putBytes_lanes (s : State) (a : Nat) (bs : List Byte) : (s.putBytes a bs).lanes = s.lanes := rfl
@[simp] theorem State.putBytes_mcSent (s : State) (a : Nat) (bs : List Byte) : (s.putBytes a bs).mcSent = s.mcSent := rfl
@[simp] theorem State.putBytes_mcPruned (s : State) (a : Nat) (bs : List Byte) : (s.putBytes a bs).mcPruned = s.mcPruned := rfl
@[simp] theorem State.putBytes_stripes (s : State) (a : Nat) (bs : List Byte) : (s.putBytes a bs).stripes = s.stripes := rfl
@[simp] theorem State.putBytes_miss (s : State) (a : Nat) (bs : List Byte) : (s.putBytes a bs).miss = s.miss := rfl
@[simp] theorem State.putBytes_blocked (s : State) (a : Nat) (bs : List Byte) : (s.putBytes a bs).blocked = s.blocked := rfl
@[simp] theorem State.putBytes_jobs (s : State) (a : Nat) (bs : List Byte) : (s.putBytes a bs).jobs = s.jobs := rfl
@[simp] theorem State.putBytes_cplPend (s : State) (a : Nat) (bs : List Byte) : (s.putBytes a bs).cplPend = s.cplPend := rfl
@[simp] theorem State.putBytes_glz (s : State) (a : Nat) (bs : List Byte) : (s.putBytes a bs).glz = s.glz := rfl
@[simp] theorem State.putBytes_memChans (s : State) (a : Nat) (bs : List Byte) : (s.putBytes a bs).memChans = s.memChans := rfl
@[simp] theorem State.putBytes_memPass (s : State) (a : Nat) (bs : List Byte) : (s.putBytes a bs).memPass = s.memPass := rfl
@[simp] theorem State.putBytes_chans (s : State) (a : Nat) (bs : List Byte) : (s.putBytes a bs).chans = s.chans := rfl
@[simp] theorem State.putBytes_links (s : State) (a : Nat) (bs : List Byte) : (s.putBytes a bs).links = s.links := rfl
@[simp] theorem State.putBytes_mgmt (s : State) (a : Nat) (bs : List Byte) : (s.putBytes a bs).mgmt = s.mgmt := rfl
@[simp] theorem State.putBytes_log (s : State) (a : Nat) (bs : List Byte) : (s.putBytes a bs).log = s.log := rfl
@[simp] theorem State.putBytes_mram (s : State) (a : Nat) (bs : List Byte) : (s.putBytes a bs).mram = s.mram := rfl
@[simp] theorem State.putBytes_flash (s : State) (a : Nat) (bs : List Byte) : (s.putBytes a bs).flash = s.flash := rfl
@[simp] theorem State.putBytes_trayFp (s : State) (a : Nat) (bs : List Byte) : (s.putBytes a bs).trayFp = s.trayFp := rfl
@[simp] theorem State.putBytes_power (s : State) (a : Nat) (bs : List Byte) : (s.putBytes a bs).power = s.power := rfl

/-! ## State.putRing -/

@[simp] theorem State.putRing_pending (s : State) (h o : Nat) (bs : List (Option Byte)) : (s.putRing h o bs).pending = s.pending := rfl
@[simp] theorem State.putRing_regs (s : State) (h o : Nat) (bs : List (Option Byte)) : (s.putRing h o bs).regs = s.regs := rfl
@[simp] theorem State.putRing_mem (s : State) (h o : Nat) (bs : List (Option Byte)) : (s.putRing h o bs).mem = s.mem := rfl
@[simp] theorem State.putRing_ue (s : State) (h o : Nat) (bs : List (Option Byte)) : (s.putRing h o bs).ue = s.ue := rfl
@[simp] theorem State.putRing_ce (s : State) (h o : Nat) (bs : List (Option Byte)) : (s.putRing h o bs).ce = s.ce := rfl
@[simp] theorem State.putRing_free (s : State) (h o : Nat) (bs : List (Option Byte)) : (s.putRing h o bs).free = s.free := rfl
@[simp] theorem State.putRing_out (s : State) (h o : Nat) (bs : List (Option Byte)) : (s.putRing h o bs).out = s.out := rfl
@[simp] theorem State.putRing_nextKey (s : State) (h o : Nat) (bs : List (Option Byte)) : (s.putRing h o bs).nextKey = s.nextKey := rfl
@[simp] theorem State.putRing_memEpoch (s : State) (h o : Nat) (bs : List (Option Byte)) : (s.putRing h o bs).memEpoch = s.memEpoch := rfl
@[simp] theorem State.putRing_readySeq (s : State) (h o : Nat) (bs : List (Option Byte)) : (s.putRing h o bs).readySeq = s.readySeq := rfl
@[simp] theorem State.putRing_rig (s : State) (h o : Nat) (bs : List (Option Byte)) : (s.putRing h o bs).rig = s.rig := rfl
@[simp] theorem State.putRing_launch (s : State) (h o : Nat) (bs : List (Option Byte)) : (s.putRing h o bs).launch = s.launch := rfl
@[simp] theorem State.putRing_ports (s : State) (h o : Nat) (bs : List (Option Byte)) : (s.putRing h o bs).ports = s.ports := rfl
@[simp] theorem State.putRing_buses (s : State) (h o : Nat) (bs : List (Option Byte)) : (s.putRing h o bs).buses = s.buses := rfl
@[simp] theorem State.putRing_cores (s : State) (h o : Nat) (bs : List (Option Byte)) : (s.putRing h o bs).cores = s.cores := rfl
@[simp] theorem State.putRing_tval (s : State) (h o : Nat) (bs : List (Option Byte)) : (s.putRing h o bs).tval = s.tval := rfl
@[simp] theorem State.putRing_tstrict (s : State) (h o : Nat) (bs : List (Option Byte)) : (s.putRing h o bs).tstrict = s.tstrict := rfl
@[simp] theorem State.putRing_lanes (s : State) (h o : Nat) (bs : List (Option Byte)) : (s.putRing h o bs).lanes = s.lanes := rfl
@[simp] theorem State.putRing_mcSent (s : State) (h o : Nat) (bs : List (Option Byte)) : (s.putRing h o bs).mcSent = s.mcSent := rfl
@[simp] theorem State.putRing_mcPruned (s : State) (h o : Nat) (bs : List (Option Byte)) : (s.putRing h o bs).mcPruned = s.mcPruned := rfl
@[simp] theorem State.putRing_stripes (s : State) (h o : Nat) (bs : List (Option Byte)) : (s.putRing h o bs).stripes = s.stripes := rfl
@[simp] theorem State.putRing_miss (s : State) (h o : Nat) (bs : List (Option Byte)) : (s.putRing h o bs).miss = s.miss := rfl
@[simp] theorem State.putRing_blocked (s : State) (h o : Nat) (bs : List (Option Byte)) : (s.putRing h o bs).blocked = s.blocked := rfl
@[simp] theorem State.putRing_jobs (s : State) (h o : Nat) (bs : List (Option Byte)) : (s.putRing h o bs).jobs = s.jobs := rfl
@[simp] theorem State.putRing_cplPend (s : State) (h o : Nat) (bs : List (Option Byte)) : (s.putRing h o bs).cplPend = s.cplPend := rfl
@[simp] theorem State.putRing_glz (s : State) (h o : Nat) (bs : List (Option Byte)) : (s.putRing h o bs).glz = s.glz := rfl
@[simp] theorem State.putRing_memChans (s : State) (h o : Nat) (bs : List (Option Byte)) : (s.putRing h o bs).memChans = s.memChans := rfl
@[simp] theorem State.putRing_memPass (s : State) (h o : Nat) (bs : List (Option Byte)) : (s.putRing h o bs).memPass = s.memPass := rfl
@[simp] theorem State.putRing_chans (s : State) (h o : Nat) (bs : List (Option Byte)) : (s.putRing h o bs).chans = s.chans := rfl
@[simp] theorem State.putRing_links (s : State) (h o : Nat) (bs : List (Option Byte)) : (s.putRing h o bs).links = s.links := rfl
@[simp] theorem State.putRing_mgmt (s : State) (h o : Nat) (bs : List (Option Byte)) : (s.putRing h o bs).mgmt = s.mgmt := rfl
@[simp] theorem State.putRing_log (s : State) (h o : Nat) (bs : List (Option Byte)) : (s.putRing h o bs).log = s.log := rfl
@[simp] theorem State.putRing_mram (s : State) (h o : Nat) (bs : List (Option Byte)) : (s.putRing h o bs).mram = s.mram := rfl
@[simp] theorem State.putRing_flash (s : State) (h o : Nat) (bs : List (Option Byte)) : (s.putRing h o bs).flash = s.flash := rfl
@[simp] theorem State.putRing_trayFp (s : State) (h o : Nat) (bs : List (Option Byte)) : (s.putRing h o bs).trayFp = s.trayFp := rfl
@[simp] theorem State.putRing_power (s : State) (h o : Nat) (bs : List (Option Byte)) : (s.putRing h o bs).power = s.power := rfl

end Sys2Proof.Machine
end

