-- ==== Sys2Proof/Laws/Faults.lean ====
section
/-! SUPPORT. What counting, logging and raising a fault do: which registers they may write, and that nothing else changes. -/
namespace Sys2Proof.Machine

/-! ## Frames compose -/

theorem SameRegsBut.refl (s : State) (l : List (Nat × Nat)) : SameRegsBut s s l := fun _ _ _ _ _ _ _ => rfl

theorem SameRegsBut.trans {s t u : State} {l l' : List (Nat × Nat)} (h : SameRegsBut s t l) (h' : SameRegsBut t u l') :
    SameRegsBut s u (l ++ l') := fun p off bank hp ho hb hn => by
  rw [h' p off bank hp ho hb fun m => hn (List.mem_append_right _ m), h p off bank hp ho hb fun m => hn (List.mem_append_left _ m)]

theorem SameRegsBut.weaken {s t : State} {l l' : List (Nat × Nat)} (h : SameRegsBut s t l) (hl : ∀ x ∈ l, x ∈ l') : SameRegsBut s t l' :=
  fun p off bank hp ho hb hn => h p off bank hp ho hb fun m => hn (hl _ m)

/-- A register written. -/
theorem State.wr_sameRegs (s : State) (p off : Nat) (v : W32) (bank : Nat) (hp : p < 4096) (ho : off < 4096) :
    SameRegsBut s (s.wr p off v bank) [(p, off)] := fun p' off' bank' hp' ho' _ hn =>
  State.rd_wr_ne s v hp ho (by omega) (by omega) fun e => hn (by simp [e])

/-- Two states with the same registers. -/
theorem SameRegsBut.of_regs {s t : State} (h : t.regs = s.regs) (l : List (Nat × Nat)) : SameRegsBut s t l :=
  fun _ _ _ _ _ _ _ => by simp only [State.rd, h]

theorem SameRegsBut.of_eq {s t u : State} {l : List (Nat × Nat)} (h : SameRegsBut s t l) (e : u.regs = t.regs) : SameRegsBut s u l :=
  fun p off bank hp ho hb hn => by
    rw [← h p off bank hp ho hb hn]; simp only [State.rd, e]

/-! ## The log -/

/-- An event entering the log changes the log and the counters of lost events only. -/
theorem State.logPut_frame (s : State) (e : LogEnt) :
    s.logPut e = { s with regs := (s.logPut e).regs, log := (s.logPut e).log } ∧
    SameRegsBut s (s.logPut e) [(Pg.LOG, Off.LOG.LOST_CNT), (Pg.LOG, Off.LOG.LOSTREC_CNT)] := by
  have h1 : ∀ t : State, t.regs = s.regs → SameRegsBut s (t.bump Pg.LOG Off.LOG.LOST_CNT) [(Pg.LOG, Off.LOG.LOST_CNT), (Pg.LOG, Off.LOG.LOSTREC_CNT)] :=
    fun t ht => ((SameRegsBut.of_regs (l := []) ht).trans (State.wr_sameRegs t _ _ _ _ (by decide) (by decide))).weaken (by simp)
  have h2 : ∀ t : State, t.regs = s.regs → SameRegsBut s (t.bump Pg.LOG Off.LOG.LOSTREC_CNT) [(Pg.LOG, Off.LOG.LOST_CNT), (Pg.LOG, Off.LOG.LOSTREC_CNT)] :=
    fun t ht => ((SameRegsBut.of_regs (l := []) ht).trans (State.wr_sameRegs t _ _ _ _ (by decide) (by decide))).weaken (by simp)
  simp only [State.logPut]
  split
  · exact ⟨rfl, SameRegsBut.of_regs rfl _⟩
  · split
    · exact ⟨rfl, h1 _ rfl⟩
    · split
      · exact ⟨rfl, h1 _ rfl⟩
      · split
        · exact ⟨rfl, SameRegsBut.of_regs rfl _⟩
        · exact ⟨rfl, h2 _ rfl⟩

/-- While the log has room, an event is appended to it. -/
theorem State.logPut_room (s : State) (e : LogEnt) (h : s.log.buf.length < 512) :
    s.logPut e = { s with log := { s.log with taken := s.log.taken + 1, buf := s.log.buf ++ [{ e with no := s.log.taken }] } } := by
  simp [State.logPut, h]


/-- What a counter of a page that counts only while its domain is on may change. -/
theorem State.count_sameRegs (s : State) (p off : Nat) {n : Nat} (hp : p < 4096) (ho : off < 4096) : SameRegsBut s (s.count p off n) [(p, off)] := by
  simp only [State.count]
  split
  · exact State.wr_sameRegs _ _ _ _ _ hp ho
  · exact fun _ _ _ _ _ _ _ => rfl

theorem State.count_regs (s : State) (p off n : Nat) : s.count p off n = { s with regs := (s.count p off n).regs } := by
  simp only [State.count]; split <;> rfl

/-! ## Faults -/

/-- The frame of a fault on page p. -/
def faultBase (p : Nat) : List (Nat × Nat) :=
  [(p, Off.HDR.FAULT_SUM), (p, Off.HDR.EVENT_CNT), (Pg.LOG, Off.LOG.LOST_CNT), (Pg.LOG, Off.LOG.LOSTREC_CNT)]

theorem State.setFault_frame (s : State) (p b code unit detail arg : Nat) (hp : p < 2048) :
    s.setFault p b code unit detail arg =
      { s with regs := (s.setFault p b code unit detail arg).regs, log := (s.setFault p b code unit detail arg).log } ∧
    SameRegsBut s (s.setFault p b code unit detail arg) (faultBase p) := by
  have h1 : SameRegsBut s (s.wr p Off.HDR.FAULT_SUM (setBit (s.rd p Off.HDR.FAULT_SUM) b true)) [(p, Off.HDR.FAULT_SUM)] :=
    State.wr_sameRegs _ _ _ _ _ (by omega) (by decide)
  have h2 : ∀ t : State, SameRegsBut t (t.count p Off.HDR.EVENT_CNT) [(p, Off.HDR.EVENT_CNT)] :=
    fun t => t.count_sameRegs _ _ (by omega) (by decide)
  have h3 : SameRegsBut s (if 0x040 ≤ p ∧ p ≤ 0x057 then s.wr p Off.HDR.FAULT_SUM (setBit (s.rd p Off.HDR.FAULT_SUM) b true)
      else (s.wr p Off.HDR.FAULT_SUM (setBit (s.rd p Off.HDR.FAULT_SUM) b true)).count p Off.HDR.EVENT_CNT)
      [(p, Off.HDR.FAULT_SUM), (p, Off.HDR.EVENT_CNT)] := by
    split
    · exact h1.weaken (by simp)
    · exact h1.trans (h2 _)
  simp only [State.setFault]
  generalize hu : (if 0x040 ≤ p ∧ p ≤ 0x057 then s.wr p Off.HDR.FAULT_SUM (setBit (s.rd p Off.HDR.FAULT_SUM) b true)
      else (s.wr p Off.HDR.FAULT_SUM (setBit (s.rd p Off.HDR.FAULT_SUM) b true)).count p Off.HDR.EVENT_CNT) = u at h3
  have hs : u = { s with regs := u.regs } := by
    rw [← hu]; split
    · rfl
    · rw [State.count_regs]; rfl
  split
  · obtain ⟨f, r⟩ := u.logPut_frame
      { page := p, bit := b, code := code, time := u.now, unit := unit, detail := BitVec.ofNat 32 detail, arg := BitVec.ofNat 64 arg }
    refine ⟨?_, (h3.trans r).weaken (by simp [faultBase])⟩
    rw [f]; rw [hs]
  · exact ⟨by rw [hs], h3.weaken (by simp [faultBase])⟩

theorem State.setFault_bit (s : State) (p b code unit detail arg : Nat) (hp : p < 2048) (hb : b < 32) :
    (s.setFault p b code unit detail arg).rdB p Off.HDR.FAULT_SUM b = true := by
  have h1 : (s.wr p Off.HDR.FAULT_SUM (setBit (s.rd p Off.HDR.FAULT_SUM) b true)).rdB p Off.HDR.FAULT_SUM b = true := by
    simp [State.rdB, bit_setBit, hb]
  have h2 : ∀ t : State, t.rdB p Off.HDR.FAULT_SUM b = true → (t.count p Off.HDR.EVENT_CNT).rdB p Off.HDR.FAULT_SUM b = true :=
    fun t ht => by
      rw [State.rdB, t.count_sameRegs p Off.HDR.EVENT_CNT (by omega) (by decide) p _ 0 hp (by decide) (by decide) (by simp [Off.HDR.FAULT_SUM, Off.HDR.EVENT_CNT])]; exact ht
  simp only [State.setFault]
  generalize hu : (if 0x040 ≤ p ∧ p ≤ 0x057 then s.wr p Off.HDR.FAULT_SUM (setBit (s.rd p Off.HDR.FAULT_SUM) b true)
      else (s.wr p Off.HDR.FAULT_SUM (setBit (s.rd p Off.HDR.FAULT_SUM) b true)).count p Off.HDR.EVENT_CNT) = u
  have h3 : u.rdB p Off.HDR.FAULT_SUM b = true := by
    rw [← hu]; split
    · exact h1
    · exact h2 _ h1
  split
  · rw [State.rdB, (u.logPut_frame _).2 p _ 0 hp (by decide) (by decide)
      (by simp [Off.HDR.FAULT_SUM, Off.LOG.LOST_CNT, Off.LOG.LOSTREC_CNT])]; exact h3
  · exact h3

/-- A fault event of a page does what OnlyFault says. -/
theorem State.raise_only (s : State) (p b code unit detail arg : Nat) (hp : p < 2048) (hb : b < 32) :
    OnlyFault s (s.raise p b code unit detail arg) p b [] := by
  obtain ⟨f, r⟩ := s.setFault_frame p b code unit detail arg hp
  have h := s.setFault_bit p b code unit detail arg hp hb
  simp only [State.raise, State.groupFault]
  generalize s.setFault p b code unit detail arg = u at f r h
  by_cases hg : 0x010 ≤ p ∧ p ≤ 0x02F ∧ s.pageFault p = false ∧ u.pageFault p = true
  · rw [if_pos hg]
    have hq : Pg.GRP ((p - 0x010) / 4) < 2048 := by simp only [Pg.GRP]; omega
    obtain ⟨f', r'⟩ := u.setFault_frame (Pg.GRP ((p - 0x010) / 4)) ((p - 0x010) % 4) code unit detail 0 hq
    generalize u.setFault (Pg.GRP ((p - 0x010) / 4)) ((p - 0x010) % 4) code unit detail = v at f' r'
    refine ⟨by rw [f', f], ?_, (r.trans r').weaken ?_, ?_, ?_⟩
    · rw [State.rdB, r' p _ 0 hp (by decide) (by decide) 
        (by simp [faultBase, Pg.GRP, Off.HDR.FAULT_SUM, Off.HDR.EVENT_CNT, Off.LOG.LOST_CNT, Off.LOG.LOSTREC_CNT]; omega)]; exact h
    · simp only [faultRegs, faultBase, if_pos (And.intro hg.1 hg.2.1)]; grind
    · intro a; rw [f', f]; rfl
    · intro a o; rw [f', f]; rfl
  · rw [if_neg hg]
    exact ⟨f, h, r.weaken (by simp only [faultRegs, faultBase]; grind), fun a => by rw [f]; rfl, fun a o => by rw [f]; rfl⟩

end Sys2Proof.Machine
end

