-- ==== Sys2Proof/Laws/Seq.lean ====
section
/-! SUPPORT. What the sequencer's shared operations do where the core stands at the command: the effect, the register written, a command
placed in its queue. -/
namespace Sys2Proof.Machine

theorem State.units_cores {s : State} (h : s.units = true) : s.cores.length = 32 := by
  simp only [State.units, Bool.and_eq_true, decide_eq_true_eq] at h; exact h.1.1.1

/-- Where the sequencer stands at a command and meets no uncorrectable word, the command has its effect. -/
theorem State.seqDo_standsAt {s : State} {c : Nat} {i : Instr} (f : State → State) (h : s.standsAt c i = true) :
    s.seqDo c i f = f s := by
  simp only [State.standsAt, Bool.and_eq_true, Bool.not_eq_true'] at h
  simp [State.seqDo, h.1, h.2]

/-- A change of core c alone, error marks apart. -/
theorem onlyCore_modCore (s : State) (c : Nat) (f : Core → Core) (p : EccLoc → Bool) :
    OnlyCore s ({ s with ue := s.ue.filter p }.modCore c f) c :=
  ⟨rfl, fun _ h => State.core_modCore_ne _ _ h, fun _ h => (List.mem_filter.mp h).1, fun _ => rfl, fun _ _ => rfl⟩

theorem onlyCore_modCore' (s : State) (c : Nat) (f : Core → Core) : OnlyCore s (s.modCore c f) c :=
  ⟨rfl, fun _ h => State.core_modCore_ne _ _ h, fun _ h => h, fun _ => rfl, fun _ _ => rfl⟩

/-- A scalar command that writes S[d]. -/
theorem State.scalarS_wrote {s : State} {c : Fin 32} {i : Instr} {d : Nat} {v : Core → W32} (u : s.units = true)
    (h : s.standsAt c i = true) : WroteS s (s.scalarS c i d v) c d (v (s.core c)) := by
  rw [State.scalarS, State.seqDo_standsAt _ h]
  exact ⟨(State.core_modCore _ _ _ (by simp [State.soundReg, State.units_cores u])).trans rfl, onlyCore_modCore _ _ _ _⟩

/-- A scalar command that writes A[d]. -/
theorem State.scalarA_wrote {s : State} {c : Fin 32} {i : Instr} {d : Nat} {v : Core → W48} (u : s.units = true)
    (h : s.standsAt c i = true) : WroteA s (s.scalarA c i d v) c d (v (s.core c)) := by
  rw [State.scalarA, State.seqDo_standsAt _ h]
  exact ⟨(State.core_modCore _ _ _ (by simp [State.soundReg, State.units_cores u])).trans rfl, onlyCore_modCore _ _ _ _⟩

/-- No registration is due: the heads of the queues stay as they are. -/
theorem State.heads_of_registered {s : State} {c : Nat} (h : s.headsRegistered c = true) : s.heads c = s := by
  simp only [State.headsRegistered, List.all_cons, List.all_nil, Bool.and_true, Bool.and_eq_true, Option.isNone_iff_eq_none] at h
  simp [State.heads, State.regHeads, h.1, h.2.1, h.2.2]

/-- A command placed in a queue with room: one entry more, and the sequencer goes on. -/
theorem State.issue_standsAt {s : State} {c : Nat} {q : Queue} {i : Instr} {it : Item} (h : s.standsAt c i = true)
    (hi : (s.core c).curItem = some it) (hr : ((s.core c).q q).length < 32) :
    s.issue c q i = { s with nextKey := s.nextKey + 1 }.modCore c fun k =>
      ({ (k.setQ q (k.q q ++ [k.entryOf it i s.nextKey])) with stalled := false }).advance := by
  rw [State.issue, State.seqDo_standsAt _ h]
  simp [hi, Nat.not_le.mpr hr]

/-- A command whose queue is full: the sequencer stalls. -/
theorem State.issue_full {s : State} {c : Nat} {q : Queue} {i : Instr} {it : Item} (h : s.standsAt c i = true)
    (hi : (s.core c).curItem = some it) (hr : 32 ≤ ((s.core c).q q).length) : s.issue c q i = s.stall c := by
  rw [State.issue, State.seqDo_standsAt _ h]
  simp [hi, hr]

end Sys2Proof.Machine
end

