-- ==== Sys2Proof/Machine/LinkWire.lean ====
section
/-! DEFINITION. What messages and flits look like on a link: header slots, flit headers, flits (R275, R278, Tables 15.3 to 15.5). -/
namespace Sys2Proof.Machine

/-- OP of a message (Table 15.4). -/
def opCode : MsgOp → Nat
  | .rdReq => 0x01
  | .rdRsp => 0x02
  | .wrMem => 0x03
  | .xferOpen => 0x04
  | .wrSp => 0x05
  | .tallySet => 0x06
  | .tallyAdd => 0x07
  | .job => 0x08
  | .jobRsp => 0x09
  | .recMsg => 0x0A
  | .wrTally => 0x0B
  | .prune => 0x0C
  | .rejoin => 0x0D
  | .ack => 0x10
  | .nak => 0x11
  | .hello => 0x20
  | .routeAdv => 0x21
  | .reserved b => b.toNat

/-- The message of an OP; others are reserved. -/
def opOfCode (n : Nat) : MsgOp :=
  match [MsgOp.rdReq, .rdRsp, .wrMem, .xferOpen, .wrSp, .tallySet, .tallyAdd, .job, .jobRsp, .recMsg, .wrTally, .prune, .rejoin, .ack, .nak,
      .hello, .routeAdv].find? fun o => opCode o == n with
  | some o => o
  | none => .reserved (BitVec.ofNat 8 n)

/-- ADDR of the header slot and what follows it: the sequence number, STATUS and DETAIL of ACK and NAK (ADDR[47:24] takes in the place of
BYTES), the STATUS of RD_RSP (with the number of the read it answers in the place ACK has its own: log entry 71), else the message's
address. -/
def wireAddr (m : Msg) : Nat :=
  match m.op with
  | .ack | .nak => m.detail.toNat * 2 ^ 24 + m.status.toNat * 2 ^ 16 + m.seq.toNat
  | .rdRsp => m.status.toNat * 2 ^ 16 + m.seq.toNat
  | _ => m.addr.toNat

/-- [223:192] of the header slot: FRAME, or STATUS and DETAIL of JOB_RSP. -/
def wireFrame (m : Msg) : Nat :=
  match m.op with
  | .jobRsp => m.detail.toNat * 2 ^ 8 + m.status.toNat
  | _ => m.frame.toNat

/-- The header slot of a message (Table 15.5). -/
def headerSlot (m : Msg) : BitVec 256 :=
  let seq := if opStream m.op then m.seq.toNat else 0
  let bytes := if m.op == .ack || m.op == .nak then 0 else m.bytes.toNat
  BitVec.ofNat 256 (opCode m.op + m.len.toNat * 2 ^ 8 + m.hop.toNat * 2 ^ 12 + m.dst.toNat * 2 ^ 16 + m.src.toNat * 2 ^ 25 +
    (opResponse m.op).toNat * 2 ^ 34 + seq * 2 ^ 36 + wireAddr m * 2 ^ 64 + bytes * 2 ^ 103 + m.urg.toNat * 2 ^ 112 +
    m.tie.toNat * 2 ^ 136 + m.race.toNat * 2 ^ 141 + m.core.toNat * 2 ^ 147 + m.xfer.toNat * 2 ^ 152 + m.value.toNat * 2 ^ 160 +
    wireFrame m * 2 ^ 192)

/-- Field [hi:lo] of a slot. -/
def slotF (w : BitVec 256) (hi lo : Nat) : Nat := w.toNat / 2 ^ lo % 2 ^ (hi - lo + 1)

/-- The message that a header slot begins; its data slots follow. -/
def slotMsg (w : BitVec 256) : Msg :=
  let op := opOfCode (slotF w 7 0)
  let short := op == .ack || op == .nak
  let resp := op == .jobRsp
  { op := op, len := BitVec.ofNat 4 (slotF w 11 8), hop := BitVec.ofNat 4 (slotF w 15 12), dst := BitVec.ofNat 9 (slotF w 24 16),
    src := BitVec.ofNat 9 (slotF w 33 25), seq := BitVec.ofNat 16 (if short || op == .rdRsp then slotF w 79 64 else slotF w 51 36),
    addr := if short || op == .rdRsp then 0 else BitVec.ofNat 39 (slotF w 102 64), bytes := if short then 0 else BitVec.ofNat 9 (slotF w 111 103),
    urg := BitVec.ofNat 24 (slotF w 135 112), tie := BitVec.ofNat 5 (slotF w 140 136), race := BitVec.ofNat 6 (slotF w 146 141),
    core := BitVec.ofNat 5 (slotF w 151 147), xfer := BitVec.ofNat 8 (slotF w 159 152), value := BitVec.ofNat 32 (slotF w 191 160),
    frame := if resp then 0 else BitVec.ofNat 32 (slotF w 223 192),
    status := BitVec.ofNat 8 (if short || op == .rdRsp then slotF w 87 80 else if resp then slotF w 199 192 else 0),
    detail := BitVec.ofNat 24 (if short then slotF w 111 88 else if resp then slotF w 223 200 else 0) }

/-- FTYPE of a flit (Table 15.3). -/
inductive Ftype where
  | data | idle | replayRequest | timeMarker
deriving DecidableEq, Repr

def Ftype.code : Ftype → Nat
  | .data => 0
  | .idle => 1
  | .replayRequest => 2
  | .timeMarker => 3

/-- START: the slots in which the messages begin, one after another. -/
def startBits (lens : List Nat) : Nat :=
  (lens.foldl (fun (a : Nat × Nat) n => (a.1 + n, if a.1 < 9 then a.2 + 2 ^ a.1 else a.2)) (0, 0)).2

/-- The header of a flit (Table 15.3). -/
def flitWord (h : Fhdr) (ty : Ftype) (start : Nat) : W64 :=
  BitVec.ofNat 64 (h.fseq.toNat * 2 ^ 52 + h.fack.toNat * 2 ^ 40 + ty.code * 2 ^ 36 + h.crcls.toNat * 2 ^ 31 + h.crcnt.toNat * 2 ^ 24 + start)

/-- One bit of CRC-32C, least significant first (PRESUMED: the reflected form, as the name stands for elsewhere; log entry 71). -/
def crcBit (c : W32) (b : Bool) : W32 :=
  let x := c ^^^ (if b then 1 else 0)
  if x.getLsbD 0 then (x >>> 1) ^^^ 0x82F63B78 else x >>> 1

/-- CRC-32C of some bytes. -/
def crc32c (bs : List Byte) : W32 :=
  ~~~(bs.foldl (fun c (b : Byte) => (List.range 8).foldl (fun c i => crcBit c (b.getLsbD i)) c) 0xFFFFFFFF)

/-- A flit of 320 bytes: header, nine slots, CRC, the parity of the two codewords of even and of odd bytes (R275). -/
def flitBytes (hdr : W64) (slots : List Byte) : List Byte :=
  let d := leBytes 8 hdr.toNat ++ (slots ++ List.replicate 288 0).take 288
  let d := d ++ leBytes 4 (crc32c d).toNat
  let half := fun (o : Nat) => (List.range 150).map fun i => d.getD (2 * i + o) 0
  let pe := Config.fecParity (half 0)
  let po := Config.fecParity (half 1)
  d ++ (List.range 20).map fun i => (if i % 2 = 0 then pe else po).getD (i / 2) 0

/-- The header slot and the data slots of a message; what a slot leaves over is 0. -/
def wireSlots (m : Msg) : List Byte :=
  let body := m.data ++ m.words.flatMap fun w => leBytes 4 w.toNat
  (leBytes 32 (headerSlot m).toNat ++ body ++ List.replicate (32 * msgSlots m) 0).take (32 * msgSlots m)

/-- A kept data flit as it crosses the link, with the FACK of the moment. -/
def LinkPort.txBytes (k : LinkPort) (f : TxFlit) : List Byte :=
  flitBytes (flitWord { fseq := f.seq, fack := k.rxNext, crcls := BitVec.ofNat 5 f.cls, crcnt := BitVec.ofNat 7 f.cnt } .data
    (startBits (f.msgs.map msgSlots))) (f.msgs.flatMap wireSlots)

end Sys2Proof.Machine
end

