-- ==== Sys2Proof/Machine/Package.lean ====
section
/-! DEFINITION. The package (20_package_electrical.md): the ball map of R356 to R362, and the levels of the output pins that the state gives. -/
namespace Sys2Proof.Machine

/-- Supplies of Table 20.8. -/
inductive Supply where
  | vddIo | vddSram | vddCore | vdd2h | vddq | vddMipi | vddLink | vss
deriving DecidableEq, Repr

/-- What a ball carries: a supply, a signal of a memory channel, a host channel, a link port or a sensor port, an MCLK or bus ball, a
control signal (R357 to R362). Names are those of Tables 20.3 to 20.7 without the prefix of their instance. -/
inductive Ball where
  | supply (v : Supply)
  | mc (k : Nat) (pin : String)
  | hc (h : Nat) (pin : String)
  | dl (p : Nat) (pin : String)
  | spPhy (n l : Nat)
  | fsync (n : Nat)
  | mclk (k : Nat)
  | scl (k : Nat)
  | sda (k : Nat)
  | control (pin : String)
deriving DecidableEq, Repr

/-- Number of the ball at column x and row y, both from 1 (R356). -/
def ballNo (x y : Nat) : Nat := 54 * (y - 1) + x
/-- Column and row of ball n (R356). -/
def ballAt (n : Nat) : Nat × Nat := ((n - 1) % 54 + 1, (n - 1) / 54 + 1)
/-- Centre of a ball in tenths of a millimetre from the package's, X to the east and Y to the north (R356). -/
def ballCentre (x y : Nat) : Int × Int := (10 * (x : Int) - 275, 275 - 10 * (y : Int))

/-- Table 20.3, rows d = 1 to 8; an empty name is VSS. -/
def chanPins : List (List String) :=
  [["DQ0", "DQ1", "DQ2", "DQ3", "DMI0", ""],
   ["DQ4", "DQ5", "DQ6", "DQ7", "RDQS0_t", "RDQS0_c"],
   ["WCK0_t", "WCK0_c", "", "", "CK_t", "CK_c"],
   ["CA0", "CA1", "CA2", "CA3", "CA4", ""],
   ["CA5", "CA6", "CS0", "CS1", "RESET_n", "ZQ"],
   ["WCK1_t", "WCK1_c", "", "", "RDQS1_t", "RDQS1_c"],
   ["DQ8", "DQ9", "DQ10", "DQ11", "DMI1", ""],
   ["DQ12", "DQ13", "DQ14", "DQ15", "", ""]]

/-- Table 20.4, rows r = 0 to 3. -/
def linkPins : List (List String) :=
  [["TX0_P", "TX0_N", "", "RX0_P", "RX0_N", "", "TX1_P", "TX1_N"],
   ["", "", "", "", "", "", "", ""],
   ["RX1_P", "RX1_N", "", "TX2_P", "TX2_N", "", "RX2_P", "RX2_N"],
   ["TX3_P", "TX3_N", "", "RX3_P", "RX3_N", "", "VDD_LINK", "VDD_LINK"]]

/-- Table 20.7: rows 47 and 49. -/
def controlPins : List (String × String) :=
  [("REFCLK_IN_P", "XSPI_CLK"), ("REFCLK_IN_N", "XSPI_CS_n"), ("PORST_n", "XSPI_DQS"), ("WARM_n", "XSPI_DQ0"),
   ("HP_READY", "XSPI_DQ1"), ("HP_INT", "XSPI_DQ2"), ("MGT_SCL", "XSPI_DQ3"), ("MGT_SDA", "XSPI_DQ4"),
   ("UART_TX", "XSPI_DQ5"), ("UART_RX", "XSPI_DQ6"), ("AVS_CLK", "XSPI_DQ7"), ("AVS_MDATA", "XSPI_RESET_n"),
   ("AVS_SDATA", "TCK"), ("VCORE_SNS_P", "TMS"), ("VCORE_SNS_N", "TDI"), ("TRST_n", "TDO")]

def Ball.vss : Ball := .supply .vss

/-- A channel block (R358): depth d, column offset c; a host block has VSS in place of CS1. -/
def chanBall (host : Bool) (k d c : Nat) : Ball :=
  let pin := (chanPins.getD (d - 1) []).getD c ""
  if pin = "" then .vss
  else if host then (if d = 5 ∧ c = 3 then .vss else .hc k pin)
  else .mc k pin

/-- A corner of the north or south band (Table 20.2). -/
def cornerBall (x y : Nat) : Ball := .supply (if (x + y) % 2 = 0 then .vddq else .vss)

/-- The control block (R361). -/
def controlBall (x y : Nat) : Ball :=
  if y = 54 then .supply .vddIo
  else if y = 53 then (if (x - 28) % 2 = 0 then .mclk ((x - 28) / 2) else .vss)
  else if y = 51 then (if (x - 28) % 2 = 0 then .scl ((x - 28) / 2) else .sda ((x - 28) / 2))
  else match controlPins[x - 28]? with
    | some (a, b) => if y = 47 then .control a else if y = 49 then .control b else .vss
    | none => .vss

/-- The interior (R362). -/
def interiorBall (x y : Nat) : Ball :=
  let i := min (min (x - 9) (46 - x)) (min (y - 9) (46 - y))
  .supply (
    if i = 0 then (if y = 9 ∨ y = 46 then .vdd2h else if x = 46 then .vddMipi else .vddLink)
    else if i = 1 then (if (x + y) % 2 = 1 then .vddSram else .vss)
    else if (x + y) % 2 = 0 then .vddCore else .vss)

/-- The north band, y 1 to 8. -/
def northBall (x y : Nat) : Ball :=
  if x < 4 ∨ 51 < x then cornerBall x y
  else if x < 28 then chanBall false ((x - 4) / 6) y ((x - 4) % 6)
  else chanBall true ((x - 28) / 6) y ((x - 28) % 6)

/-- The south band, y 47 to 54. -/
def southBall (x y : Nat) : Ball :=
  if x < 4 ∨ 51 < x then cornerBall x y
  else if x < 28 then chanBall false (4 + (x - 4) / 6) (55 - y) ((x - 4) % 6)
  else controlBall x y

/-- The west band, x 1 to 8, y 9 to 46 (R359). -/
def westBall (x y : Nat) : Ball :=
  if y < 12 ∨ 43 < y then .supply .vddLink
  else
    let pin := (linkPins.getD ((y - 12) % 4) []).getD (x - 1) ""
    if pin = "" then .vss else if pin = "VDD_LINK" then .supply .vddLink else .dl ((y - 12) / 4) pin

/-- The east band, x 47 to 54, y 9 to 46 (R360). -/
def eastBall (x y : Nat) : Ball :=
  if y = 9 ∨ y = 46 then .supply .vddMipi
  else
    let n := 2 * ((y - 10) / 3) + if x < 51 then 1 else 0
    let i := 4 * ((y - 10) % 3) + (x - if x < 51 then 47 else 51)
    if i < 10 then .spPhy n i else if i = 10 then .fsync n else .vss

/-- What the ball at column x and row y carries, both from 1 to 54 (R357). -/
def ballMap (x y : Nat) : Ball :=
  if y ≤ 8 then northBall x y
  else if 47 ≤ y then southBall x y
  else if x ≤ 8 then westBall x y
  else if 47 ≤ x then eastBall x y
  else interiorBall x y

/-- Table 20.6: what PHY ball L0 to L9 of a sensor port carries under the D-PHY and the C-PHY. -/
def phyPins : List (String × String) :=
  [("D0_P", "T0_A"), ("D0_N", "T0_B"), ("CLK_P", "T0_C"), ("CLK_N", "T1_A"), ("D1_P", "T1_B"), ("D1_N", "T1_C"),
   ("D2_P", "T2_A"), ("D2_N", "T2_B"), ("D3_P", "T2_C"), ("D3_N", "Unused")]

/-- What ball SPn_Ll carries: the PHY type is that of the port's trained mode (R360). -/
def State.phyBall (s : State) (n l : Nat) : String :=
  let p := phyPins.getD l ("", "")
  if s.rdF (Pg.SP n) Off.SP.PORT_STATE 7 6 = 1 then p.2 else p.1

/-- Frequency of MCLKk in kHz, rounded down, where it runs (R43): 2,400 MHz divided by DIV of port 2k. -/
def State.mclkKHz (s : State) (k : Nat) : Option Nat :=
  if s.rdB (Pg.SP (2 * k)) Off.SP.MCLK_CTRL 31 then some (2400000 / s.rdF (Pg.SP (2 * k)) Off.SP.MCLK_CTRL 8 0) else none

end Sys2Proof.Machine
end

