-- ==== Sys2Proof/Tests/Slice0.lean ====
section
/-! SUPPORT. The model's own tests: ill-formed terms refused, command words written out bit by bit from Tables 6.2 to 6.18, and states that meet
the hypotheses of the statements. -/
set_option maxRecDepth 10000
set_option Elab.async false
open Sys2Proof Sys2Proof.Machine
namespace Sys2Proof.Tests

/-! ## Witness states -/

def tScl (bi aa da : Bool) (d a b : BitVec 4) (imm : W32) : SclF := { immx := 0, imm := imm, bi := bi, aa := aa, da := da, b := b, a := a, d := d }
def f1 := tScl true false false 3 2 0 7
def tImem (ws : List W128) : SMap W32 :=
  ((ws.zipIdx).flatMap fun x => (List.range 4).map fun i => (4 * (8 + x.2) + i, x.1.extractLsb' (32 * i) 32)).filter fun p => p.2 ≠ 0
def tDesc : List W32 := [0x11000872, 0, 0, 0, 0x00400040, 0, 0, 0, 5, 0x00080100, 0,0,0,0,0,0]
def tHdr : List W32 := [0x10000872, 0, 0x1100, (1 <<< 10) + 4, 0,0,0,0, 0,0,0,0,0,0,0,0]
def tItem : Item := { key := 1, job := 0, quantum := 0, assigner := 0, desc := tDesc, hdr := tHdr, claim := none, ready := some (0, 0), phase := .running, prog := 8 }
def tSreg : List W32 := [0, 0, 0xFFFFFFFF, 3, 5, 70, 7, 8, 9, 10, 11, 12, 0, 0x80000000, 14, 15]
def tCore (is : List Instr) : Core :=
  { Core.reset with st := .run, imem := tImem (is.map fun i => (encodeWord i).getD 0), items := [tItem], cur := some 1, pc := 0, sreg := tSreg, areg := [0xFFFFFFFFFFFF, 1, 2, 3, 4, 5, 6, 7] }
def tState (is : List Instr) : State := { State.reset with cores := tCore is :: List.replicate 31 Core.reset, rig := { t := 0x500000007 } }
def f3 := tScl false true true 3 0 2 0xFFFFFFF0
def f2 := tScl false false true 3 0 2 7
def tCtl (bi : Bool) (a b idx : BitVec 4) (imm : W32) (cond : BitVec 3) (target : BitVec 11) (tsh : BitVec 5) (qm : BitVec 3) : CtlF :=
  { imm := imm, target := target, tsh := tsh, qm := qm, idx := idx, cond := cond, bi := bi, b := b, a := a }
def c1 := tCtl true 2 0 3 0xFFFFFFFF 0 5 3 1
def tEntry (i : Instr) : QEntry := (tCore [i]).entryOf tItem i 5
def tq (i : Instr) (j : Instr) : State := { tState [i] with cores := { tCore [i] with fq := [tEntry j], seqWait := none } :: List.replicate 31 Core.reset }
def lp (l i p : Nat) : LoopFrame := { first := 1, last := 3, left := l, i := BitVec.ofNat 32 i, idx := 3 }
def mk (k : Core) (s : State := tState []) : State := { s with cores := k :: List.replicate 31 Core.reset }
def tTal (q : BitVec 2) (c vi : Bool) (t : BitVec 10) (imm : W32) (dr : BitVec 4 := 0) (vr : BitVec 4 := 0) : TalF :=
  { imm := imm, dr := dr, vr := vr, vi := vi, c := c, t := t, q := q }
def wf' : TalF := tTal 1 false true 3 7
def w0 : TalF := tTal 0 false true 3 7
def u0 : TalF := tTal 0 false true 3 7 2
def wr1 : WaitReg := { tally := 9, value := 5, eq := true, at_ := 0, released := false }
def e1 := tEntry (.xWflip 0)
def vf : VecF := { xb := 0, xri := 0, xr := 0, part := 0, rwi := 0, rw := 0, sb := false, fmt := 0, rel := 0, n := 3, vc := 2, vb := 1, va := 0, vd := 5 }
def e2 := tEntry (.vadd 0 vf)
def e3 : QEntry := { tEntry (.tWait 0 (tTal 1 false true 3 0)) with wait := some { tally := 9, value := 0, eq := true, at_ := 0, released := true } }
def tSync : SyncF := { wen := false, weq := false, wt := 0, wv := 0, sen := false, sset := false, st := 0, sv := 0 }
def e4 : QEntry := { e2 with st := .started }
def k4 : Core := { tCore [] with xq := [e4], vreg := [(0, 5), (1, 0xFFFFFFFF), (64, 7), (70, 9)] }
def cf : CopyF := { sync := tSync, mc := false, vb := 5, vl := 7, rp := 2, mp := 32, nl := 4, lb := 32, rowi := 5, row := 0, ofs := 0, ar := 1, race := 0 }
def ce (f : CopyF) : QEntry := { tEntry (.fCopy 0 f) with st := .started, race := some 0, pend := [(0,0), (1,1)], pad := 0x11223344, ar := [0, 0x1000, 0,0,0,0,0,0], sr := tSreg.set 5 300 }
def memS (s : State) : State := (s.wr Pg.MEM Off.MEM.MEM_TOP 8192).wr Pg.MEM Off.MEM.MEM_CFG 0xC0000000
def onS (s : State) : State := { s with power := { s.power with pd := 0xFFFFFFFFFF, fired := true, ready := true, cones := 0x3F, porst := false }, mgmt := { s.mgmt with run := .running } }
def cs (f : CopyF) : State := onS (memS ((mk { tCore [] with fq := [ce f] }).putBytes 0x1000 ((List.range 700).map fun i => BitVec.ofNat 8 (i*7+1))))
def csl := (cs cf).wr Pg.MEM Off.MEM.MEM_CFG 0xC8000000
def dr : GateRow := { keys := [], work := .msg 40 { op := .ack } }
def gx (s : State) (g : Gate) : GateRow := (firstRow (s.gateRows g)).getD dr
def gw (s : State) (g : Gate) : Nat × Queue × QEntry × Item × (Nat × Nat) := match (gx s g).work with
  | .row c q e it row => (c, q, e, it, row)
  | _ => (40, .fq, ce cf, tItem, (9, 9))
def iS (sel : W32) (s : State := tState []) : State := (onS s).wr (Pg.CORE 0) Off.CORE.IMEM_SEL sel
def kd : Core := { tCore [.nop 0 (tScl true false false 3 2 0 7)] with imem := [(8192, 0x08720008), (8193, 0x88004005), (8192 + 40, 5)] }
def tEnd : CtlF := tCtl false 0 0 0 0 0 0 0 0
def tProg (pid : Nat) : List W32 := [BitVec.ofNat 32 (0x80000 + pid), 0xC0000006]
def tBank (base pid : Nat) : SMap W32 :=
  let hdr := (0x10000000 + BitVec.ofNat 32 pid) :: tHdr.tail
  let ws := (List.range 32).map (fun i => if i < 2 then (tProg pid).getD i 0 else 0) ++ hdr ++
    ((([Instr.drain 0 { tEnd with qm := 7 }, .endItem 0 tEnd].map fun i => (encodeWord i).getD 0)).flatMap fun w => (List.range 4).map fun i => w.extractLsb' (32 * i) 32)
  ((ws.zipIdx).map fun x => (base + x.2, x.1)).filter fun p => p.2 ≠ 0
def bk : SMap W32 := SMap.put ((SMap.put (SMap.put (tBank 8192 0x872) 8193 0xA0000006) (8192 + 32 + 12) 0x1)) (8192 + 32 + 13) 3
def lcS : State := (onS (memS (mk {tCore [] with imem := bk }))).wr Pg.MEM Off.MEM.MEM_CFG 0xC8000000
def endF : CtlF := { imm := 0, target := 0, tsh := 0, qm := 0, idx := 0, cond := 0, bi := false, b := 0, a := 0 }
def prog : SMap W32 := [(8192, 0x00080872), (8193, 0xA0000005)] ++ ((tHdr.zipIdx).map (fun x => (8192 + 32 + x.2, x.1))).filter (fun p => p.2 ≠ 0) ++ ((List.range 4).map fun i => (8192 + 48 + i, ((encodeWord (.endItem 0 endF)).getD 0).extractLsb' (32 * i) 32)).filter fun p => p.2 ≠ 0
def idle : Core := { Core.reset with st := .idle, vreg := [(3, 5)], imem := [(3,4)] }
def tReady : Item := { tItem with phase := .accepted, ready := some (3, 5), desc := 0x11000872 :: tDesc.tail }
def ik : Core := { tCore [] with cur := none, imem := tBank 0 0x872, items := [tReady, { tReady with key := 2, desc := 0x110F0872 :: tDesc.tail, quantum := 1}], st := .idle }
def p0 := tItem.tally 0 4
def wv (t : Nat) : Option WaitReg := some { tally := t, value := 5, eq := true, at_ := 0, released := false }
def b0 : QEntry := { tEntry (.xWflip 0) with wait := wv p0, word := 9 }
def lim (k : Core) (t : W64) : State := { onS (mk k) with rig := { t := t } }
def wrl : WaitReg := { tally := p0, value := 5, eq := true, at_ := 3, released := false }
def mk2 (k k2 : Core) (s : State := tState []) : State := { s with cores := k :: k2 :: List.replicate 30 Core.reset }
def wcf : CopyF := { sync := tSync, mc := false, vb := 5, vl := 3, rp := 2, mp := 16, nl := 1, lb := 32, rowi := 5, row := 0, ofs := 0, ar := 1, race := 0 }
def we : QEntry := { tEntry (.wCopy 1 wcf) with key := 70, st := .started, ar := [0, 0x4000000000 + 0x500, 0,0,0,0,0,0], sr := tSreg.set 5 200, acks := [(0, 0)] }
def slS (st : WinSt) (ta : Option Nat) : State := onS (mk2 { tCore [] with wins := ({ st := st, first := 0, rows := 100, tally := ta, item := 1, landing := [{ src := .here 1 70, rows := 1, err := false}] } : Win) :: List.replicate 7 {} } { tCore [] with wq := [we] } ((tState []).putBytes (rowAddr 1 8) ((List.range 256).map fun i => BitVec.ofNat 8 (3 * i + 1))))
def good : List (Nat × W32) := [(Off.RACE.RD_DRAIN, 256), (Off.RACE.RD_SPACE, 0x10002), (Off.RACE.RD_MCAST, 0x01000123), (Off.RACE.RD_MEMB0, 0x80000001)]
def rS (ws : List (Nat × W32)) (s : State := tState []) (r : Nat := 5) : State := ws.foldl (fun s p => s.wrRace r p.1 p.2) (onS s)
def cfx : CopyF := { sync := tSync, mc := false, vb := 5, vl := 7, rp := 2, mp := 32, nl := 4, lb := 32, rowi := 5, row := 0, ofs := 0, ar := 1, race := 0 }
def ee (r : Nat) : QEntry := { tEntry (.fCopy 0 cfx) with st := .started, race := some r, pend := [(0,0), (1,1)], ar := [0, 0x1000, 0,0,0,0,0,0], sr := tSreg.set 5 300, startNo := r + 1 }
def ck (r : Nat) (cls : Nat) : Core := { tCore [] with cur := none, fq := [ee r], items := [{ tItem with phase := .ended, desc := tDesc.set 0 (0x11000872 ||| BitVec.ofNat 32 (cls <<< 20)) }] }
def rW (l : List (Nat × Nat × W32)) (s : State) : State := l.foldl (fun s p => s.wrRace p.1 p.2.1 p.2.2) s
def dS (x y : Nat) : State := { rW [(0, Off.RACE.RD_CTRL, 0x8C100000), (1, Off.RACE.RD_CTRL, 0x8C000000), (0, Off.RACE.RD_DRAIN, 256), (1, Off.RACE.RD_DRAIN, 256), (0, Off.RACE.RD_SPACE, 0x10001), (1, Off.RACE.RD_SPACE, 0x10001)] (onS (mk2 (ck 0 x) (ck 1 y))) with lanes := [(0, { st := .bound, item := 1, granted := 512, count := 100 }), (33, { st := .bound, item := 1, granted := 512, count := 100 })] }
def it (k : Core) : Item := k.items.headD tItem
def ckd (r : Nat) (w : W32) : Core := { tCore [] with cur := none, fq := [ee r], items := [{ tItem with phase := .ended, desc := tDesc.set 0 w }] }
def dSd (x y : W32) : State := { rW [(0, Off.RACE.RD_CTRL, 0x8C100000), (1, Off.RACE.RD_CTRL, 0x8C000000), (0, Off.RACE.RD_DRAIN, 256), (1, Off.RACE.RD_DRAIN, 256), (0, Off.RACE.RD_SPACE, 0x10001), (1, Off.RACE.RD_SPACE, 0x10001)] (onS (mk2 (ckd 0 x) (ckd 1 y))) with lanes := [(0, { st := .bound, item := 1, granted := 512, count := 100 }), (33, { st := .bound, item := 1, granted := 512, count := 100 })] }
def itd (w : W32) : Item := (ckd 0 w).items.headD tItem
def sx : Stripe := { race := 5, core := 0, item := 1, frame := 77, dests := [], held := [(3, 100)] }
def mcS (t : W64) : State := { rig0 with rig := { t := t }, stripes := [sx, { sx with race := 6 }] } where rig0 := onS (tState [])
def gctx : List (Nat × W32) := [(Off.GLZ.C_IN, 4 * 2^17), (Off.GLZ.C_OFS, 1 * 2^9 + 2 * 2^18), (Off.GLZ.C_SIZE, 4 * 65536 + 64), (Off.GLZ.C_FMT, 64), (Off.GLZ.C_MAT0, 0x1000),
  (Off.GLZ.C_MAT2, 0x1000), (Off.GLZ.C_MAT4, 0x1000), (Off.GLZ.C_BASE_LO, 0x1000), (Off.GLZ.C_BASE_HI, 0), (Off.GLZ.C_PITCH, 12), (Off.GLZ.C_RING, 0x00000002), (Off.GLZ.C_HOLD, 1000)]
def gS (s : State := tState []) (x : Nat := 5) (l : List (Nat × W32) := gctx) : State := (l.foldl (fun s p => s.wr (Pg.GLZ 2) p.1 p.2 x) (memS (onS s))).wr (Pg.GLZ 2) Off.GLZ.CTX_SEL 5
def gB : Band := { ctx := 5, line := 0, core := 0, item := 1, frame := 9, opener := 5, entry := 5, col := 64, nl := 2, px := ((List.range 2).flatMap fun i => (List.range 64).map fun c => (8192 * i + c, ((i+c : Nat), 3, 4))), out := 0, since := none, closed := false }
def gctx2 : List (Nat × W32) := [(Off.GLZ.C_IN, 4 * 2^17), (Off.GLZ.C_OFS, 1 * 2^9 + 2 * 2^18), (Off.GLZ.C_SIZE, 4 * 65536 + 64), (Off.GLZ.C_FMT, 64), (Off.GLZ.C_MAT0, 0x1000),
  (Off.GLZ.C_MAT2, 0x1000), (Off.GLZ.C_MAT4, 0x1000), (Off.GLZ.C_BASE_LO, 0x1000), (Off.GLZ.C_BASE_HI, 0x58), (Off.GLZ.C_PITCH, 12), (Off.GLZ.C_RING, 0x00000002), (Off.GLZ.C_HOLD, 1000)]
def gS2 (s : State := tState []) (x : Nat := 5) (l : List (Nat × W32) := gctx2) : State := (l.foldl (fun s p => s.wr (Pg.GLZ 2) p.1 p.2 x) (memS (onS s))).wr (Pg.GLZ 2) Off.GLZ.CTX_SEL 5
def bw : Band := { gB with since := some 100 }
def gk (e : QEntry) : Core := { tCore [] with cur := none, items := [{ tItem with phase := .ended }], wq := [e] }
def gT (t : W64) (e : QEntry) (b : List Band) (l := gctx) (sl : SMap GSlot := []) : State := { ((gS (mk (gk e)) (l := l)).modGlaze 2 fun z => { z with armed := [5], bands := b, slots := sl }) with rig := { t := t } }
def gf : GlzF := { sync := tSync, ctx := 5, vb := 0, vl := 0, rp := 0, nl := 2, lb := 1, rowi := 0, row := 0, line := 0, glz := 2, race := 0 }
def ge (st : EntSt) (h : Option W64) : QEntry := { tEntry (.wGlz 0 gf) with st := st, held := h, word := 7, pend := [(0,0)] }
def bc : Band := { gB with closed := true }
def gl (b : Band) (o : GSlot) : State := (gS (mk (gk (ge .started none)))).modGlaze 2 fun z => { z with armed := [5], bands := [b], slots := [(16*5, o)] }
def o0 : GSlot := { frame := 9, group := 0, done := [] }
def hcS (n : Nat) (l : List (Nat × W32)) (s : State := tState []) : State := (l.foldl (fun s p => s.wr (Pg.DB n) p.1 p.2) ((onS s).wr (Pg.HC (n/4)) (Off.HC.RING_CTRL0 + 0x10 * (n % 4)) 0x80000000)).modChan (n/4) fun c => { c with st := .run }
def cset : CfgSet := { version := 3, portmap := [], profiles := [], banks := [(0, [0x00080872, 0x80000006])], data := [], digest := [] }
def jS (k : Core) (j : Job) : State := let s := onS (memS (mk k)); { s with jobs := [j], mgmt := { s.mgmt with active := some cset } }
def jd : List W32 := (((tDesc.set 1 (BitVec.ofNat 32 ((tState []).coreUnit 0))).set 2 0xAABBCCDD).set 3 7).set 4 0x40
def jb : Job := { key := 3, desc := jd, src := .ring 5, ph := .taken, only := none, refusedFrame := false, members := [], local_ := none, quanta := [], fail := none, done := 0, failed := 0, lines := 0 }
def jk : Core := { tCore [] with cur := none, imem := SMap.put (tBank 0 0x872) 36 0xFFFFFFFF, items := [tReady], st := .idle }
def spS (e : Nat) (l : List (Nat × W32)) : State := l.foldl (fun s p => s.wr (Pg.SPAN e) (spanOff e p.1) p.2) (onS (tState []))
def pS (f : Port → Port) (l : List (Nat × W32) := []) (s : State := tState []) : State := ((l.foldl (fun s p => s.wr (Pg.SP 7) p.1 p.2) (onS s)).modPort 7 f).modGlaze 0 id
def prof : Profile := { id := 3, static := 0, i2c := false, wideId := false, idReg := 0, provId := none, latency := 2, initStep := 0, idValue := 5, idMask := 0xFF, colours := [], expMap := [], images := List.replicate 17 0, modes := [{ phy := 0, lanes := 2, dt := 0x2A, vc := 0, rate := 1000, height := 100, width := 640, pixRate := 100, pack := 1, start := 1, stop := 3}], knots := [], gains := [], defects := [], steps := [⟨1,1,0,0⟩, ⟨1,1,0,0⟩, ⟨2,0,0,100⟩, ⟨1,1,0,0⟩, ⟨3,0,0,0⟩] }
def cset2 : CfgSet := { version := 3, portmap := List.replicate 24 [3, 0xFFFF, 3], profiles := [prof], banks := [], data := [], digest := [] }
def wC (s : State) : State := { s with mgmt := { s.mgmt with active := some cset2 } }
def ct (st : PortSt) (c : CorrCopy) (sel : W32) (sw := false) : State := pS (fun p => { p with st := st, stby := c, swapPend := sw }) [(Off.SP.TBL_SEL, sel), (Off.SP.FRAME_GEOM, 0x00400040)]
def stb : CorrCopy := { regs := [(1, 5), (6, 0)], tbl := [(64, 7), (16384+3, 8)], ver := some 4 }
def badc : CorrCopy := { regs := [(6, 0x82020000)], tbl := [(64, 7), (16384+3, 8)], ver := some 4 }
def hold (s : State) : State := { s with mgmt := { s.mgmt with covered := [7], cfg := .staged } }
def stS (l : List (Nat × W32)) (st : PortSt := .off) : State := l.foldl (fun s p => s.wr Pg.STAT p.1 p.2 29) ((memS (pS fun p => { p with st := st })).wr Pg.STAT Off.STAT.STAT_SEL 29)
def bS (b : Bus) (s : State) : State := s.modBus 3 fun _ => b
def pp (st : PortSt) (pr : Proc) (prf : Option Profile := none) : State := wC (bS { cur := some (.proc 7) } (pS fun p => { p with st := st, proc := pr, profile := prf }))
def er : ExpReq := { frame := 5, tag := 0x77, vals := [] }
def ls (st : PortSt) (out : List (ExpReq × Nat)) (lim : W32) (cur : Option Xfer := some (.exposure 7)) : State := bS { cur := cur } (pS (fun p => { p with st := st, lastFs := 0x500000000, expOut := out }) [(Off.SP.LOSS_TIMEOUT, lim)])
def sReg : W32 := 0x8C001000 + 0x02A00000 + 0x40000
def fS (f : Port → Port) (l : List (Nat × W32) := []) (s : State := tState []) : State := pS f ([(Off.SP.STREAM2, sReg), (Off.SP.ADMIT, 4), (Off.SP.FRAME_GEOM, 0x00040040)] ++ l) s
def fr : Frame := { num := 9, csi := 5, admitted := true, cause := 0, lines := 2, cut := none, ended := false, recorded := false, statEn := true, fsTime := 7, feTime := 0, tag := 0, carried := false, late := false, stats := {} }
def stm (x : Stream) (p : Port) : Port := { p with streams := [{}, {}, x, {}] }
def fe (n : Nat) (rx : List RxLine) (f : Frame := fr) (k : Core := { tCore [] with items := [], cur := none }) : State := fS (stm { frames := [{ f with lines := n }], cur := some 9, last := some 9, rx := rx } ∘ fun p => { p with st := .stream }) [] (mk k)
def rl (k : Nat) : RxLine := { frame := 9, line := k, pixels := (List.range 64).map fun i => BitVec.ofNat 20 (i * 16000), crcOk := true }
def px := (rl 3).pixels
def femb := { fr with lines := 1, stats := { emb := List.replicate 767 5 } }
def ck2 : Core := { tCore [] with cur := none, items := [{ tItem with claim := some { port := 7, stream := 2, frame := 9, first := 0, last := 5, rel := 0 }}]}
def fdone := { fr with lines := 4, ended := true, feTime := 9, stats := { emb := [1,2,3] } }
def srS (cfg : W32) (f := fdone) : State := ((memS (fS (stm { frames := [f], cur := none, last := some 9, rx := [] } ∘ fun p => { p with st := .stream, fsyncEnd := some 0x500000007 }))).wr Pg.STAT Off.STAT.STAT_CFG cfg 30).wr Pg.STAT Off.STAT.RING_DEPTH 4 30
def rg (r : Rig) (l : List (Nat × W32) := []) : State := l.foldl (fun s p => s.wr Pg.LCH p.1 p.2) { onS (tState []) with rig := r }
def goodE : List (Nat × W32) := [(Off.LCH.ENT_IDX, 5), (Off.LCH.ENT_ACT, 0x18000080), (Off.LCH.ENT_REPEAT, 0x01030007), (Off.LCH.ENT_PERIOD, 9)]
def le : LEntry := { time := 0x500000000, act := 1, arg0 := 0x80, armed := true, period := 100, num := 1, den := 3, count := 5, acc := 2 }
def lc (l : List (Nat × W32)) (x : LEntry := le) (p : Port → Port := id) : State := ((l.foldl (fun s p => s.wr Pg.LCH p.1 p.2 (if p.1 ≥ Off.LCH.EXP_FRAME ∧ p.1 ≤ Off.LCH.EXP_CMD ∧ p.1 ≠ Off.LCH.EXP_SEL then 7 else 0)) (onS (pS id))).setEntry 5 x).modPort 7 p
def lf (x : LEntry) (t : W64 := 0x500000050) (f : State → State := id) : State := f ({ (((onS (wC (pS fun p => { p with st := .stream, profile := some prof }))).wr Pg.LCH Off.LCH.LCH_CTRL 0x80000000).setEntry 5 x) with rig := { t := t, st := .sync, counting := true } })
def hs (ctl : List (Nat × List (Option Byte)) := []) (rl : Nat := 27) : State := let s := onS (pS id); { (s.modChan 1 fun c => { c with st := .run, ctl := ctl, mode := { c.mode with rl := BitVec.ofNat _ rl } }) with ringMem := [(0x100000 + 3, 5), (0x100000 + 0x80000 + 3, 5)], mem := [(0x5800800003, 6)] }
def bs := (List.range 32).map fun i => BitVec.ofNat 8 (i + 1)
def cS (st : HcSt) (cfg : W32 := 0x8F050000) (mr : SMap Byte := []) : State := (memS (((onS (pS id)).wr Pg.HP Off.HP.HP_CFG cfg).modChan 1 fun c => { c with st := st, mr := mr })).wr Pg.MEM Off.MEM.MEM_CFG 0xE0000000
def eff (rl : Nat) (rate : Nat) : HcMode := ⟨BitVec.ofNat _ rl, 0, BitVec.ofNat _ rate, false, false, false, false⟩
def gateS : State := cS .off 0 [] |> fun s => { s with cores := { tCore [] with fq := [{ tEntry (.fCopy 0 cfx) with st := .started, race := some 0, pend := [(0,0), (1,1)], ar := [0, 0x1000, 0,0,0,0,0,0], sr := tSreg.set 5 300 }] } :: List.replicate 31 Core.reset }
def lS (st : LinkSt) (f : LinkPort → LinkPort := id) (cfg : W32 := 0xD7800000) (s : State := tState []) : State := let s := onS (memS s); (s.wr (Pg.DL 3) Off.DL.DL_CFG cfg).modLink 3 fun k => f { k with st := st }
def far : FarCaps := { dev := 7, rateMax := 2, laneEn := 0xF, lvl := 1, stepping := 0 }
def q (s : State) : State := s.wr Pg.LNK Off.LNK.LNK_CFG 0
def msg : Msg := { op := .hello, src := 7, dst := 0 }
def up (k : LinkPort) : LinkPort := { k with rxNext := 5, replay := [⟨8, [msg], 0, 0, 0⟩, ⟨9, [msg], 1, 0, 0⟩, ⟨10, [msg], 2, 0, 0⟩, ⟨11, [msg], 0, 0, 0⟩], delays := [3,4], markSent := 50 }
def fh : Fhdr := { fseq := 5, fack := 9, crcls := 3, crcnt := 7 }
def mkr : Marker := { depart := 100, lastDepart := 50, lastArrive := 60, hops := 3 }
def rt (s : State) : State := s.wr Pg.ROUTE 0x124 0x80180000
def ul (f : LinkPort → LinkPort := id) (s : State := tState []) : State := rt (lS .up (fun k => f { k with level := 2 }) 0xD7800000 s)
def wm : Msg := { op := .wrMem, len := 2, src := 9, dst := 0, addr := 0x2000, bytes := 4, data := [1,2,3,4,5], mask := [false, true, false, false, true], seq := 0 }
def wC2 (r : Nat) (l : List Landing := []) : State := ul id (mk2 (tCore []) { tCore [] with cur := none, st := .run, wins := [{}, {}, { st := .opened, first := 4, rows := r, item := 1, landing := l }] ++ List.replicate 5 {} })
def xo : Msg := { op := .xferOpen, src := 9, addr := 0x4000000000 + 0x400000 * 1, core := 3, xfer := 9, value := 300, quanta := [4, 5] }
def gq (m : Msg) : State := (ul.putBytes 0x2000 [5,6,7]).setInStream 9 { expect := 1, queue := [(m, true)] }
def wmq : Msg := { op := .wrMem, len := 2, src := 9, dst := 0, addr := 0x2000, bytes := 4, data := [1,2,3,4,5], mask := [false, true, false, false, true], seq := 0 }
def rq : Msg := { op := .rdReq, src := 9, addr := 0x2000, bytes := 63 }
def ws : Msg := { op := .wrSp, len := 2, src := 9, addr := 0x4000000000 + 0x400000 * 1 + 0x400, core := 3, xfer := 9, data := [1,2,3,4], mask := [true] }
def ce2 : QEntry := { tEntry (.fCopy 0 cf) with st := .started, race := some 0, pend := [(0,0), (1,1)], pad := 0x11223344, ar := [0, 0x9000000001000, 0,0,0,0,0,0], sr := tSreg.set 5 300 }
def hm : HeldMsg := { msg := { op := .rdReq, dst := 9, seq := 4 }, first := 0, last := 0, core := 0, item := 1, entry := ce2.key, row := (0, 0) }
def withHeld (l : List HeldMsg) (s : State) (d : Nat := 9) : State := s.setOutStream d { next := 5, held := l }
def rr : Msg := { op := .rdRsp, len := 2, src := 9, seq := 4, data := (List.range 32).map fun i => BitVec.ofNat 8 (i + 1), bytes := 31 }
def ik2 := mk { tCore [] with cur := none, items := [{ tItem with phase := .ended }] }
def rt2 (s : State) : State := (s.wr Pg.ROUTE 0x124 0x80180000).wr Pg.LNK Off.LNK.LNK_CFG 0
def ul2 (f : LinkPort → LinkPort := id) (s : State := tState []) : State := rt2 (lS .up (fun k => f { k with level := 2 }) 0xD7800000 s)
def pm : Msg := { op := .wrMem, src := 9, len := 2, dst := 8, hop := 14, data := [1, 2] }
def pS2 : State := (ul2 (fun k => { k with fwd := [pm] }) ik2).wr Pg.ROUTE 0x120 0x80180000
def hm2 : HeldMsg := { msg := { op := .wrMem, dst := 9, seq := 4 }, first := 0x400000000, last := 0x400000000, core := 0, item := 1, entry := 5 }
def mx (d : Nat) (sent : W64 := 0) : Member := { unit := unitIdOf 0 d 5, dev := d, quanta := [1], assigner := 7, order := 0, sent := sent }
def jb2 : Job := { key := 3, desc := jd, src := .ring 5, ph := .checking, only := none, refusedFrame := false, members := [], local_ := none, quanta := [], fail := none, done := 0, failed := 0, lines := 0 }
def j2 : Job := { jb2 with members := [mx 9, mx 8] }
def ul3 (s : State) : State := rt2 (lS .up (fun k => { k with level := 2 }) 0xD7800000 s)
def jS2 (k : Core) (js : List Job) : State := let s := ul3 (onS (memS (mk k))); { s with jobs := js, nextKey := 50, mgmt := { s.mgmt with active := some cset } }
def rsp : Msg := { op := .jobRsp, src := 9, value := 3, addr := BitVec.ofNat _ (unitIdOf 0 9 5 * 2^15 + 4), status := 0x12, detail := 6 }
def qq (i : Nat) (st : QuantumSt) : Quantum := { idx := i, assigner := 0, st := st }
def j4 : Job := { jb2 with ph := .running, quanta := [qq 2 (.remote 9), qq 0 (.onCore 0)] }
def jm (v : W32) : Msg := { op := .job, src := 9, len := 3, value := v, frame := 77, words := jd, quanta := [2], xfer := 9 }
def jz : Job := { jb2 with ph := .checked, src := .parent 9 77 }
def j3 : Job := { jb2 with members := [mx 9 0x500000005, mx 8] }
def b5 : BitVec 40 := 0x20
def pw (f : Power → Power) (s : State) : State := { s with power := f s.power }
def w5 (k : Core) (s : State := tState []) : State := let s := onS { s with cores := (List.replicate 32 Core.reset).set 5 k }; { s with mem := [(0x4000000000 + 4 * 0x400000 + 9, 7), (0x4000000000 + 5 * 0x400000 + 9, 7), (0x4800000000 + 5 * 0x80000, 8)] }
def mp : MemPart := { ids := [1, 2, 3, 4], lp5x := true, density := 1, twoRanks := false, linkEcc := false, passes := 0x3F, trims := [5], recordOk := false, verifies := false }
def mf : MemFiring := { parts := List.replicate 8 mp, tempLo := 40, tempHi := 41 }
def mg (l : List (Nat × W32)) (s : State) : State := l.foldl (fun s p => s.wr Pg.MGT p.1 p.2) s
def pc : List (Nat × W32) := [(Off.MGT.PACE_CTRL, 0x80050100), (Off.MGT.VLIMIT, 0x035202EE), (Off.MGT.VNOW, 800), (Off.MGT.PACE_LAG, 0x00640010)]
def w52 (k : Core) (s : State := tState []) : State := onS { s with cores := (List.replicate 32 Core.reset).set 5 k }
def le2 : LogEnt := { page := 5, bit := 3, code := 0x21, time := 0x123456789A, unit := 7, detail := 9, arg := 5 }
def idle2 : Core := { Core.reset with st := .idle, vreg := [(3, 5)], imem := [(1,0x80000004),(3,4),(8193,0x80000004)] }
def mg2 (f : Mgmt → Mgmt) (s : State := w52 idle2) : State := { s with mgmt := f s.mgmt }
def cset3 (v : Nat) : CfgSet := { version := BitVec.ofNat 32 v, portmap := [], profiles := [], banks := [], data := [], digest := [] }
def go (i : Instr) : QEntry := tEntry i
def vfs : List VecF := [vf, { vf with sb := true, vb := 6}, {vf with n := 40}, {vf with fmt := 1, n := 32}, {vf with rel := 1, n:= 31}, {vf with rel := 2}, {vf with rel := 3}]

def vTalF1 : TalF := { imm := 0x00000000#32, dr := 0x0#4, vr := 0x0#4, vi := true, c := false, t := 0x003#10, q := 0x1#2 }
def vFxF1 : FxF := { sync := { wen := false, weq := false, wt := 0x000#10, wv := 0x0#4, sen := false, sset := false, st := 0x000#10, sv := 0x0#4 }, imm := 0x00000007#32, img := false, dst := 0x000#11, len := 0x000#11, woff := 0x000#10, half := false, ofs := 0x0#4, ar := 0x0#3, race := 0x00#6 }
def vQEntry1 : QEntry := { key := 5, op := Sys2Proof.Instr.xWflip 0, item := 1, word := 9, sr := [0x00000000#32, 0x00000000#32, 0xffffffff#32, 0x00000003#32, 0x00000005#32, 0x00000046#32, 0x00000007#32, 0x00000008#32, 0x00000009#32, 0x0000000a#32, 0x0000000b#32, 0x0000000c#32, 0x00000000#32, 0x80000000#32, 0x0000000e#32, 0x0000000f#32], ar := [0xffffffffffff#48, 0x000000000001#48, 0x000000000002#48, 0x000000000003#48, 0x000000000004#48, 0x000000000005#48, 0x000000000006#48, 0x000000000007#48], layer := 0x00000000000000000000000000000000#128, wait := some { tally := 260, value := 0x00000005#32, eq := true, at_ := 0x0000000000000000#64, released := false }, st := Sys2Proof.Machine.EntSt.queued, startNo := 0, pend := [], race := none, pad := 0x00000000#32, refused := false, noUpd := false, fused := false, acks := [], xfer := 0, held := none, movedAt := 0x0000000000000000#64 }
def vProfile1 : Profile := { id := 3, static := 0, i2c := false, wideId := false, idReg := 0, provId := none, latency := 2, initStep := 0, idValue := 0x00000005#32, idMask := 0x000000ff#32, colours := [], expMap := [], images := List.replicate 17 0, modes := [{ phy := 0, lanes := 2, dt := 42, vc := 0, rate := 1000, height := 100, width := 640, pixRate := 100, pack := 1, start := 1, stop := 3 }], knots := [], gains := [], defects := [], steps := [{ op := 1, bytes := 1, addr := 0, data := 0x00000000#32 }, { op := 1, bytes := 1, addr := 0, data := 0x00000000#32 }, { op := 2, bytes := 0, addr := 0, data := 0x00000064#32 }, { op := 1, bytes := 1, addr := 0, data := 0x00000000#32 }, { op := 3, bytes := 0, addr := 0, data := 0x00000000#32 }] }
def vSMode1 : SMode := { phy := 0, lanes := 2, dt := 42, vc := 0, rate := 1000, height := 100, width := 640, pixRate := 100, pack := 1, start := 1, stop := 3 }
def vExpReq1 : ExpReq := { frame := 0x00000000#32, tag := 0x0000#16, vals := [0x00000001#32, 0x00000002#32, 0x00000003#32, 0x00000004#32], writes := [] }
def vLanding1 : Landing := { src := Sys2Proof.Machine.LandSrc.remote 9 3 9 0x0003#16, rows := 300, err := false }
def vHeldMsg1 : HeldMsg := { msg := { op := Sys2Proof.MsgOp.rdReq, len := 0x1#4, hop := 0x0#4, dst := 0x009#9, src := 0x000#9, seq := 0x0004#16, addr := 0x0000000000#39, bytes := 0x000#9, urg := 0x000000#24, tie := 0x00#5, race := 0x00#6, core := 0x00#5, xfer := 0x00#8, value := 0x00000000#32, frame := 0x00000000#32, status := 0x00#8, detail := 0x000000#24, data := [], mask := [], words := [], quanta := [], adv := [] }, first := 0x0000000000000000#64, last := 0x0000000000000000#64, core := 0, item := 1, entry := 5, row := (0, 0), left := false }
def vQEntry2 : QEntry := { key := 5, op := Sys2Proof.Instr.fCopy 0 { sync := { wen := false, weq := false, wt := 0x000#10, wv := 0x0#4, sen := false, sset := false, st := 0x000#10, sv := 0x0#4 }, mc := false, vb := 0x5#4, vl := 0x7#4, rp := 0x02#8, mp := 0x0020#16, nl := 0x004#10, lb := 0x0020#13, rowi := 0x0005#14, row := 0x0#4, ofs := 0x0#4, ar := 0x1#3, race := 0x00#6 }, item := 1, word := 0, sr := [0x00000000#32, 0x00000000#32, 0xffffffff#32, 0x00000003#32, 0x00000005#32, 0x0000012c#32, 0x00000007#32, 0x00000008#32, 0x00000009#32, 0x0000000a#32, 0x0000000b#32, 0x0000000c#32, 0x00000000#32, 0x80000000#32, 0x0000000e#32, 0x0000000f#32], ar := [0x000000000000#48, 0x000000001000#48, 0x000000000000#48, 0x000000000000#48, 0x000000000000#48, 0x000000000000#48, 0x000000000000#48, 0x000000000000#48], layer := 0x00000000000000000000000000000000#128, wait := none, st := Sys2Proof.Machine.EntSt.started, startNo := 0, pend := [(0, 0), (1, 1)], race := some 0, pad := 0x11223344#32, refused := false, noUpd := false, fused := false, acks := [], xfer := 0, held := none, movedAt := 0x0000000000000000#64 }
def vHeldMsg2 : HeldMsg := { msg := { op := Sys2Proof.MsgOp.wrMem, len := 0x1#4, hop := 0x0#4, dst := 0x009#9, src := 0x000#9, seq := 0x0004#16, addr := 0x0000000000#39, bytes := 0x000#9, urg := 0x000000#24, tie := 0x00#5, race := 0x00#6, core := 0x00#5, xfer := 0x00#8, value := 0x00000000#32, frame := 0x00000000#32, status := 0x00#8, detail := 0x000000#24, data := [], mask := [], words := [], quanta := [], adv := [] }, first := 0x0000000400000000#64, last := 0x0000000400000000#64, core := 4294967296, item := 1, entry := 5, row := (0, 0), left := false }
def vHeldMsg3 : HeldMsg := { msg := { op := Sys2Proof.MsgOp.wrMem, len := 0x1#4, hop := 0x0#4, dst := 0x009#9, src := 0x000#9, seq := 0x0004#16, addr := 0x0000000000#39, bytes := 0x000#9, urg := 0x000000#24, tie := 0x00#5, race := 0x00#6, core := 0x00#5, xfer := 0x00#8, value := 0x00000000#32, frame := 0x00000000#32, status := 0x00#8, detail := 0x000000#24, data := [], mask := [], words := [], quanta := [], adv := [] }, first := 0x0000000400000000#64, last := 0x0000000400000000#64, core := 0, item := 1, entry := 5, row := (0, 0), left := true }
def vHeldMsg4 : HeldMsg := { msg := { op := Sys2Proof.MsgOp.wrMem, len := 0x1#4, hop := 0x0#4, dst := 0x009#9, src := 0x000#9, seq := 0x0004#16, addr := 0x0000000000#39, bytes := 0x000#9, urg := 0x000000#24, tie := 0x00#5, race := 0x00#6, core := 0x00#5, xfer := 0x00#8, value := 0x00000000#32, frame := 0x00000000#32, status := 0x00#8, detail := 0x000000#24, data := [], mask := [], words := [], quanta := [], adv := [] }, first := 0x0000000400000000#64, last := 0x0000000400000000#64, core := 0, item := 1, entry := 5, row := (0, 0), left := false }
def vItem1 : Item := { key := 1, job := 0, quantum := 0, assigner := 0, desc := [0x11000872#32, 0x00000000#32, 0x00000000#32, 0x00000000#32, 0x00400040#32, 0x00000000#32, 0x00000000#32, 0x00000000#32, 0x00000005#32, 0x00080100#32] ++ List.replicate 6 0, hdr := [0x10000872#32, 0x00000000#32, 0x00001100#32, 0x00000404#32] ++ List.replicate 12 0, claim := none, ready := some (0, 0x0000000000000000#64), phase := Sys2Proof.Machine.ItemPh.ended, start := 0x0000000000000000#64, prog := 8, fail := none, reissued := false, shared := false, mcast := false, dropLogged := false }
def vJob1 : Job := { key := 3, desc := [0x11000872#32, 0x00000000#32, 0xaabbccdd#32, 0x00000007#32, 0x00000040#32, 0x00000000#32, 0x00000000#32, 0x00000000#32, 0x00000005#32, 0x00080100#32] ++ List.replicate 6 0, src := Sys2Proof.Machine.JobSrc.parent 9 0x0000004d#32, ph := Sys2Proof.Machine.JobPh.checked, only := none, refusedFrame := false, members := [], local_ := none, quanta := [], fail := none, done := 0, failed := 0, lines := 0, level := 9, qs := [], walk := [], spans := [], absent := [], base := 0 }
def vLogEnt1 : LogEnt := { page := 5, bit := 3, code := 33, time := 0x000000123456789a#64, unit := 7, detail := 0x00000009#32, arg := 0x0000000000000005#64, lostRec := false, no := 0 }

def wScalarCommands1 : State := tState [.add 0 f1]
def wScalarCommands2 : State := tState [.sub 0 f1]
def wScalarCommands3 : State := tState [.mul 0 f1]
def wScalarCommands4 : State := tState [.orS 0 f1]
def wScalarCommands5 : State := tState [.mada 0 f3]
def wScalarCommands6 : State := tState [.andS 0 f1]
def wScalarCommands7 : State := tState [.xorS 0 f1]
def wScalarCommands8 : SclF := { f2 with aa := true}
def wScalarCommands8x2 : State := tState [.add 0 { f2 with aa := true}]
def wScalarCommands9x2 : State := tState [.sub 0 { f2 with aa := true}]
def wScalarCommands10 : State := tState [.shl 0 f1]
def wScalarCommands11 : State := tState [.shr 0 f1]
def wScalarCommands12 : State := tState [.sra 0 f1]
def wScalarCommands13 : State := tState [.slt 0 f1]
def wScalarCommands14 : State := tState [.minS 0 f1]
def wScalarCommands15 : State := tState [.maxS 0 f1]
def wScalarCommands16 : State := tState [.cshr 0 f1]
def wScalarCommands17 : State := tState [.nop 0 f1]
def wScalarCommands18 : State := tState [.mov 0 f2]
def wScalarCommands19 : State := tState [.movi 0 f1]
def wScalarCommands20 : State := tState [.rtime 0 f1]
def wScalarCommands21 : State := tState [.unitId 0 f1]
def wBranchesAndLoops1 : State := tState [.br 0 c1]
def wBranchesAndLoops2 : State := tState [.loop 0 c1]
def wBranchesAndLoops3 : State := tState [.drain 0 c1]
def wBranchesAndLoops4 : State := tq (.drain 0 c1) (.xWflip 0)
def wBranchesAndLoops5 : CtlF := {c1 with imm := 0}
def wBranchesAndLoops5x2 : State := tState [.loop 0 {c1 with imm := 0}]
def wBranchesAndLoops6 : Core := { tCore [] with loops := [lp 3 1 0], pc := 3}
def wBranchesAndLoops6x1 : LoopFrame := lp 3 1 0
def wBranchesAndLoops6x2 : List LoopFrame := []
def wBranchesAndLoops7 : Core := { tCore [] with loops := [lp 1 1 0], pc := 3}
def wBranchesAndLoops7x1 : LoopFrame := lp 1 1 0
def wBranchesAndLoops8 : Core := { tCore [] with loops := [lp 1 1 0], pc := 2}
def wEndPlacesMarkers1 : State := tState [.endItem 0 c1]
def wEndPlacesMarkers2 : State := { tState [.endItem 0 c1] with cores := { tCore [.endItem 0 c1] with xq := List.replicate 32 (tEntry (.xWflip 0)) } :: List.replicate 31 Core.reset }
def wQueueIssue1 : State := tState [.xWflip 0]
def wQueueIssue2 : State := mk { tCore [.tUpd 0 wf'] with fq := List.replicate 32 (tEntry (.xWflip 0)) }
def wQueueHeadWait1 : State := tState [.tWait 0 wf']
def wQueueHeadWait1x6 : W32 := 7
def wSequencerWait1 : State := tState [.tWait 0 w0]
def wSequencerWait2 : TalF := { w0 with imm := 0 }
def wSequencerWait2x2 : State := tState [.tWait 0 { w0 with imm := 0 }]
def wSequencerWait3 : State := { tState [.tWait 0 w0] with tstrict := [(tItem.tally 0 3, true)] }
def wSequencerUpdate1 : State := tState [.tUpd 0 u0]
def wSequencerUpdate2 : State := tState [.tRupd 0 u0]
def wSequencerUpdate3 : TalF := { u0 with dr := 0}
def wSequencerUpdate3x2 : State := tState [.tRupd 0 { u0 with dr := 0}]
def wWaitsAreReleased1 : State := mk { tCore [] with fq := [{ tEntry (.xWflip 0) with wait := some wr1 }], seqWait := some wr1 }
def wWaitsAreReleased1x4 : W32 := 4
def wTallyRegisters1 : State := State.reset.wr 0x071 Off.TALLY.T_IDX 0x3FF
def wTallyRegisters2 : State := (mk (tCore [])).wr 0x070 Off.TALLY.T_IDX 260
def wQueueEntryStart1 : State := mk { tCore [] with xq := [e1]}
def wQueueEntryStart2 : State := mk { tCore [] with xq := [e2]}
def wQueueEntryStart3 : State := mk { tCore [] with fq := [e3]}
def wQueueEntryStart4 : State := mk { tCore [] with fq := [{e3 with wait := some { tally := 9, value := 0, eq := true, at_ := 0, released := false }}]}
def wQueueEntryStart4x3 : QEntry := {e3 with wait := some { tally := 9, value := 0, eq := true, at_ := 0, released := false }}
def wQueueEntryStart5 : State := mk { tCore [] with fq := [tEntry (.fPad 0 {sync := tSync, imm := 7, img := false, dst := 0, len := 0, woff := 0, half := false, ofs := 0, ar := 0, race := 0})]}
def wQueueEntryStart5x3 : QEntry := tEntry (.fPad 0 {sync := tSync, imm := 7, img := false, dst := 0, len := 0, woff := 0, half := false, ofs := 0, ar := 0, race := 0})
def wVectorEntryCompletes1 : State := mk k4
def wVectorEntryCompletes1x4 : List W32 := ((vecResult k4 e4).get!).2.1
def wVectorEntryCompletes1x5 : AFlags := ((vecResult k4 e4).get!).2.2
def wFetchRowMovesData1 : Gate := .mem 0
def wFetchRowMovesData1x2 : GateRow := gx csl (.mem 0)
def wFetchRowMovesData1x5 : QEntry := (gw csl (.mem 0)).2.2.1
def wFetchRowMovesData1x6 : Item := (gw csl (.mem 0)).2.2.2.1
def wFetchRowMovesData1x7 : Nat × Nat := (gw csl (.mem 0)).2.2.2.2
def wFetchRowMovesData2 : State := onS (memS (tState []))
def wInstructionMemoryRegisters1 : State := iS 0x2028 (mk kd)
def wInstructionMemoryRegisters2 : State := iS 0x2000 (mk kd)
def wInstructionMemoryRegisters3 : W32 := 0x92345678
def wInstructionMemoryRegisters3x3 : State := iS 0x2001 (mk kd)
def wInstructionMemoryRegisters4 : W32 := 0x12345678
def wInstructionMemoryRegisters4x3 : State := iS 0x2003 (mk kd)
def wInstructionMemoryRegisters5 : State := iS 0x0028 (mk kd)
def wLoadChecksAndSwaps1 : State := onS (mk kd)
def wLoadChecksAndSwaps2 : State := onS (mk { kd with imem := [], swap := true, cur := none, swapKey := 0 })
def wLoadChecksAndSwaps5 : State := onS (memS (mk {kd with imem := SMap.put prog 8193 0xA0000004 }))
def wLoadChecksAndSwaps6 : State := onS (memS (mk {tCore [] with imem := SMap.put (tBank 8192 0x872) 8193 0xA0000006 }))
def wCoreService1 : State := onS (mk idle)
def wCoreService2 : State := onS (mk {idle with st := .out})
def wItemStart1 : State := onS (mk ik)
def wScoreboardDeclares1 : State := onS (mk { tCore [] with cur := none, fq := [b0] })
def wWaitLimit1 : State := lim { tCore [] with seqWait := some wrl } 10000004
def wWaitLimit2 : State := lim { tCore [] with seqWait := some wrl } 10000003
def wCoreScrub1 : State := (onS (mk { tCore [] with scrub := 2 })).wr (Pg.CORE 0) Off.CORE.SCRUB_CTRL 5
def wCoreScrub2 : State := (onS (mk { tCore [] with scrub := 2 })).wr (Pg.CORE 0) Off.CORE.SCRUB_CTRL 0x80000005
def wCoreScrub3 : State := (onS (mk { tCore [] with scrub := 2, scrubLate := true })).wr (Pg.CORE 0) Off.CORE.SCRUB_CTRL 0x80000005
def wSluiceLanding1 : State := slS .closing none
def wSluiceLanding1x6 : LandSrc := .here 1 70
def wRaceDescriptor1 : W32 := 0xEC00FFFF
def wRaceDescriptor1x3 : State := rS (good.take 3)
def wRaceDescriptor2 : W32 := 0x8C00FFFF
def wRaceDescriptor3 : W32 := 0x0C00FFFF
def wRaceDescriptor4x3 : State := rS (good ++ [(Off.RACE.RD_CTRL, 0x80000000)])
def wLongWaitsEnd1 : State := tState []
def wLongWaitsEnd2 : State := dS 0 0
def wLongWaitsEnd2x5 : Item := it (ck 0 0)
def wLongWaitsEnd3 : State := dSd 0x11030872 0x11000872
def wLongWaitsEnd3x5 : Item := itd 0x11030872
def wLongWaitsEnd3x6 : Item := itd 0x11000872
def wLongWaitsEnd4 : State := mcS 2000
def wLongWaitsEnd4x4 : W64 := 100
def wLongWaitsEnd5 : State := mcS 200000
def wGlazeContexts1 : State := gS (l := gctx.map fun p => if p.1 = Off.GLZ.C_HOLD then (p.1, 0) else p)
def wGlazeContexts2 : State := gS.modGlaze 2 fun z => { z with armed := [3, 5, 7], bands := [gB], slots := [(16 * 4, {frame := 0, group := 0, done := []}), (16 * 5, {frame := 0, group := 0, done := []})], coefs := [(512 * 5, 7)] }
def wGlazeTimeouts1 : State := gT 2000 (ge .started none) [bw]
def wGlazeTimeouts1x4 : Item := { tItem with phase := .ended }
def wGlazeTimeouts1x5 : QEntry := ge .started none
def wGlazeTimeouts2 : State := gT 1100 (ge .started none) [bw]
def wGlazeTimeouts3 : State := gT 2000 (ge .queued (some 100)) []
def wGlazeTimeouts3x5 : QEntry := ge .queued (some 100)
def wGlazeTimeouts4 : State := gT 1100 (ge .queued (some 100)) []
def wGlazeLines1 : State := gl { bc with out := 1 } { o0 with done := [0] }
def wGlazeLines1x2 : Band := { bc with out := 1 }
def wGlazeLines1x3 : GSlot := { o0 with done := [0] }
def wCommandRings1x2 : State := hcS 5 [(Off.DB.CMD_TAIL, 3), (Off.DB.CMD_HEAD, 2), (Off.DB.CPL_TAIL, 9)]
def wCommandRings2 : W32 := 2
def wCommandRings2x2 : State := (tState []).modChan 1 fun c => { c with st := .run }
def wCommandRings3 : State := (hcS 5 []).modChan 1 fun c => { c with ctl := [(5, [some 7])] }
def wCheckRound1 : State := jS jk jb
def wCheckRound2 : State := jS { jk with st := .off } jb
def wCheckRound3 : State := jS jk { jb with desc := jd.set 4 0 }
def wCheckRound3x4 : Job := { jb with desc := jd.set 4 0}
def wCheckRound4 : State := jS jk { jb with desc := jd.set 9 0xFF000000 }
def wCheckRound4x4 : Job := { jb with desc := jd.set 9 0xFF000000 }
def wSpanTable1 : W32 := 0x01200000
def wSpanTable1x4 : State := spS 5 []
def wSpanTable2 : W32 := 0x81200000
def wSpanTable2x4 : State := spS 5 [(Off.SPAN.SPAN_HDR, 0x81200000)]
def wSpanTable3 : W32 := 0x81100000
def wSpanTable3x4 : State := spS 5 [(Off.SPAN.SPAN_MEMB0, 0x01000000 + BitVec.ofNat 32 (unitIdOf 0 0 3))]
def wSpanTable4x4 : State := spS 5 [(Off.SPAN.SPAN_MEMB0, 0x01000000 + BitVec.ofNat 32 (unitIdOf 0 0 3)), (Off.SPAN.SPAN_MEMB0+4, 0x01000000 + BitVec.ofNat 32 (unitIdOf 3 0 9))]
def wPortCommands1 : State := pS fun p => { p with st := .off }
def wPortCommands2 : State := wC (pS (fun p => { p with st := .ready, profile := some prof }) [(Off.SP.PIX_RATE, 20000)])
def wPortCommands3 : State := (pS fun p => { p with st := .idle })
def wPortCommands4 : State := wC (pS fun p => { p with st := .idle })
def wPortCommands5 : State := let s := pS (fun p => { p with st := .off }); { s with power := { s.power with failed := [.sensorPort 7] }}
def wPortCommands6 : State := wC (pS (fun p => { p with st := .stream, profile := some prof, streams := {cur := some 5} :: p.streams.tail }))
def wPortCommands7 : State := wC (pS (fun p => { p with st := .ready, profile := some prof, tagNow := 5, streams := {last := some 5} :: p.streams.tail }))
def wCorrectionTables1x4 : State := ct .ready stb 64
def wCorrectionTables2 : W32 := 0x7FFFFFFF
def wCorrectionTables2x4 : State := hold (ct .off badc 0x80001FFF)
def wCorrectionTables3 : W32 := 0xFFFFFFFF
def wCorrectionTables3x4 : State := ct .stream badc (0x40000000 + 12739)
def wCorrectionTables4 : State := ct .stream stb 63
def wStatisticsRegisters1 : W32 := 0x80050001
def wStatisticsRegisters1x3 : State := stS [(Off.STAT.RING_DEPTH, 4)]
def wStatisticsRegisters2x3 : State := stS [(Off.STAT.RING_DEPTH, 0)]
def wStatisticsRegisters5x3 : State := stS [(Off.STAT.RING_DEPTH, 4)] .stream
def wStatisticsRegisters6 : W32 := 0x80050FF1
def wPortProcedures1 : W32 := 5
def wPortProcedures1x2 : State := pp .probing (.idRead 0)
def wPortProcedures2 : W32 := 6
def wPortProcedures2x2 : State := pp .probing (.idRead 2)
def wPortProcedures3 : State := pp .training (.train 0 0 0x500000007 3) (some prof)
def wPortProcedures4 : State := pp .training (.train 0 0 0x500000008 3) (some prof)
def wPortProcedures5 : State := pp .probing (.script 0 .init 0 (some 0x500000007)) (some prof)
def wPortProcedures6 : State := pp .probing (.script 0 .init 0 (some 0x500000008)) (some prof)
def wPortProcedures7 : State := wC ((pS fun p => { p with st := .idle}).modPort 6 fun p => { p with st := .idle })
def wLosingASensor1 : State := ls .ready [(er, 0)] 3
def wLosingASensor2 : State := ls .stream [(er, 0)] 6
def wLosingASensor3 : State := ls .lost [] 0
def wLosingASensor4 : State := ls .stream [(er, 1)] 7
def wLosingASensor5 : State := ls .ready [(er, 1)] 3 none
def wLosingASensor6 : State := ls .ready [] 3 (some (.stale 7))
def wFrameStart1 : State := fS fun p => { p with st := .stream, next := 9 }
def wFrameStart2 : State := fS fun p => { p with st := .stream, next := 9, swapPend := true }
def wFrameStart3 : State := fS (fun p => { p with st := .ready, next := 9 }) [(Off.SP.ADMIT, 0xFF)]
def wFrameStart4 : State := fS (fun p => { p with st := .stream, next := 9, streams := [{}, {}, { held := List.replicate 1800 ⟨1,2,3⟩}, {}] }) [(Off.SP.ADMIT, 0xFF)] (mk { tCore [] with cur := none, items := [] })
def wFrameEnd1 : State := fe 4 []
def wFrameEnd1x4 : Frame := { fr with lines := 4 }
def wFrameEnd2 : State := fe 2 [rl 2]
def wFrameEnd2x4 : Frame := { fr with lines := 2 }
def wLinePackets2 : State := fe 1 [] femb
def wLinePackets3 : State := fe 1 [rl 1, rl 2]
def wLinePackets3x7 : Frame := { fr with lines := 1 }
def wLinePackets5 : List (BitVec 20) := px.take 63
def wLinePackets6 : State := (fe 2 [rl 2]).wr (Pg.SP 7) Off.SP.INTAKE_CTRL 0x20000000
def wLineIntake1 : State := fe 2 [rl 2] fr ck2
def wLineIntake1x4 : RxLine := rl 2
def wLineIntake1x5 : List RxLine := []
def wLineIntake2 : State := (fe 2 [rl 2]).wr (Pg.SP 7) Off.SP.STREAM2 0x8C040000
def wStatisticsRecord1 : State := srS 0xC0000005
def wStatisticsRecord1x4 : W64 := 0x500000007
def wStatisticsRecord2 : State := fS fun p => { p with st := .stream, fsyncEnd := some 0x500000008 }
def wStatisticsRecord2x4 : W64 := 0x500000008
def wRigTimeStates1 : State := rg { t := 77, counting := true, st := .sync }
def wRigTimeStates2 : State := rg { t := 77 }
def wRigTimeStates3 : State := rg { t := 0x1234567890 }
def wRigTimeStates4 : State := rg { t := 0x1234567890, st := .holdover, holdStart := 5, hold := some 8 } [(Off.LCH.TIME_CTRL, 0x8000000A), (Off.LCH.LCH_CTRL, 0x80000000)]
def wRigTimeStates5 : State := rg { t := 0x1234567890, st := .slew, slew := 700, slewDiv := 5 }
def wRigTimeStates6 : State := rg { t := 0x1234567890 } [(Off.LCH.TIME_CTRL, 0x8000000A), (Off.LCH.TIME_LOAD_LO, 5)]
def wRigTimeStates7 : State := rg { t := 0x1234567890, st := .sync, counting := true, load := some 0x2234567890 }
def wRigTimeStates8 : State := rg { t := 0x1234567890, st := .sync, counting := true, load := some 0x1234567890 }
def wRigTimeStates9 : State := rg { t := 0x1234567890, st := .holdover, holdStart := 0x1234567890 } [(Off.LCH.TIME_CTRL, 0x0000000A)]
def wLaunchTableCommands1 : State := lc goodE
def wLaunchTableCommands2 : State := lc (goodE ++ [(Off.LCH.ENT_REPEAT, 0x00000007), (Off.LCH.EXP_SEL, 25)]) { le with armed := false }
def wLaunchTableCommands3 : State := lc (goodE ++ [(Off.LCH.ENT_REPEAT, 0x03030007), (Off.LCH.DESC_SEL, 4095)])
def wLaunchTableCommands4 : State := lc (goodE ++ [(Off.LCH.EXP_SEL, 7)]) { le with armed := false } fun p => { p with expLast := some 5 }
def wLaunchTableCommands5 : State := lc (goodE ++ [(Off.LCH.EXP_SEL, 7)]) { le with armed := false } fun p => { p with expQ := List.replicate 8 ⟨5, 0, [], []⟩ }
def wLaunchTableCommands6 : State := lc (goodE ++ [(Off.LCH.EXP_SEL, 7)]) { le with armed := false } fun p => { p with expQ := [⟨9, 1, [0,0,0,0], []⟩, ⟨0, 0, [1,2,3,4], []⟩, ⟨9, 1, [0,0,0,0], []⟩, ⟨0, 0, [0,0,0,0], []⟩] }
def wLaunchFires1 : State := lf { le with act := 0 }
def wLaunchFires2 : State := lf { le with armed := false }
def wLaunchFires3 : State := lf { le with act := 5, arg0 := 1 }
def wLaunchFires4 : State := lf { le with act := 5, arg0 := 2 }
def wLaunchFires5 : State := lf { le with act := 6, arg0 := 0x80 }
def wLaunchFires6 : State := lf { le with act := 9, arg0 := 0x164 }
def wLaunchFires7 : State := lf { le with act := 4, arg0 := 0xF0003 }
def wLaunchFires8 : State := lf { le with act := 7, arg0 := 0x64, arg1 := 7 }
def wLaunchFires9 : State := lf { le with act := 8, arg0 := 0x64, arg1 := 7 }
def wLaunchFires10 : State := lf { le with act := 8, arg0 := 0x64, arg1 := 0 }
def wLaunchFires11 : State := lf { le with act := 1, arg0 := 0x83, count := 1 }
def wLaunchFires12 : State := lf { le with act := 2, arg0 := 0x83, count := 2 }
def wLaunchFires13 : State := lf { le with act := 7, arg0 := 0x400064, arg1 := 7 }
def wLaunchFires14 : State := lf { le with act := 8, arg0 := 0x400064, arg1 := 7 }
def wLaunchFires15 : State := lf { le with act := 8, arg0 := 0x400064, arg1 := 0 }
def wLaunchFires16 : State := lf { le with act := 9, arg0 := 0x64 }
def wLaunchFires17 : State := lf { le with latePol := true, period := 0 } 0x500000070
def wHostAccesses7 : State := hs [] 9
def wHostAccesses8 : State := let s := hs; { s with mgmt := { s.mgmt with run := .restarting } }
def wChannelStates1 : W32 := 0x8F000000
def wChannelStates1x7 : State := (cS .run).wr Pg.HP Off.HP.VMR_CFG 0x20
def wChannelStates2 : W32 := 0x8B123456
def wChannelStates2x7 : State := let s := ((cS .off 0).wr Pg.MEM Off.MEM.SCRUB_CTRL 0x80000002).wr Pg.MEM Off.MEM.MEM_TOP 64; { s with memChans := (List.replicate 8 ({ scrub := 0x80000000 } : MemChan)).set 0 { scrub := (64 * 2^20 / 8 / 32) - 1 } }
def wChannelStates3 : W32 := 0x0F000000
def wChannelStates3x5 : HcMode := eff 27 0
def wChannelStates3x7 : State := cS .wait
def wChannelStates4 : State := cS .train
def wChannelStates6 : State := cS .pdn
def wChannelStates7 : State := cS .sref
def wChannelStates8 : State := (cS .off 0).wr Pg.MEM Off.MEM.MEM_CFG 0x60000000
def wChannelStates9 : HcMode := eff 9 0
def wChannelStates9x7 : State := (cS .run 0).modChan 1 fun c => { c with mode := { c.mode with rl := 30 } }
def wChannelStates10 : State := let s := cS .off 0; { s with memChans := s.memChans.set 0 { trackAt := some 0x500000006 } }
def wChannelStates11 : State := let s := cS .off 0; { (s.wr Pg.MEM Off.MEM.MEM_CFG 0xC0000000) with ce := [.mem 0, .mem 7, .mem 8, .mem 9000], ue := [.mem 4] }
def wLinkStates1 : W32 := 0x57800000
def wLinkStates1x6 : State := lS .off
def wLinkStates2 : State := lS .up
def wLinkStates3 : W32 := 0xD7800000
def wLinkStates3x6 : State := lS .off id 0
def wLinkStates4x6 : State := lS .training fun k => { k with mode := 1 }
def wLinkStates5 : State := lS .down
def wLinkStates6 : W32 := 0x87800000
def wLinkStates6x6 : State := q (lS .off)
def wLinkStates7 : State := lS .training fun k => { k with mode := 8 }
def wLinkStates8 : FarCaps := { far with laneEn := 0 }
def wLinkStates9 : State := q (lS .training fun k => { k with mode := 1, replay := [⟨1, [{op := .hello, src := 9}], 3, 0, 0⟩] })
def wLinkStates10 : State := q ((lS .reneg fun k => { k with replay := [], adv := [⟨3,2,true⟩], level := 2 }).wr Pg.ROUTE 0x124 0x80000000)
def wLinkTraffic1 : State := ((lS .up up).wr Pg.LCH Off.LCH.TIME_CTRL 0x80000000).wr (Pg.DL 3) Off.DL.LOSS_CTRL 0x20000010
def wLinkTraffic3 : State := q ((lS .up id).wr Pg.ROUTE 0x124 0x03FF0000)
def wLinkTraffic4 : State := ({ lS .down up with links := { (lS .down up).links with lastChange := 0x500000007 } })
def wStreamMessages2 : State := wC2 2
def wStreamMessages3 : State := wC2 1
def wStreamMessages4 : State := gq wmq
def wStreamMessages5 : Msg := { wm with seq := 2 }
def wStreamMessages6 : State := (ul).putBytes 0x2000 [5,6,7]
def wStreamMessages7 : Msg := { wm with op := .wrTally, value := 0x124 }
def wStreamMessages8 : Msg := { wm with op := .reserved 5, value := 0x124 }
def wStreamMessages9 : Msg := { op := .tallySet, src := 9, addr := 0x123, value := 7 }
def wStreamMessages10 : Msg := { op := .tallyAdd, src := 9, addr := 0x123, value := 7 }
def wStreamMessages11 : Msg := {rq with addr := 0x3FFFFFFFFF}
def wStreamMessages12 : State := wC2 2 [{ src := .remote 9 3 9 3, rows := 300, err := false }]
def wStreamMessages13 : Msg := { op := .prune, src := 9, value := 100, frame := 7, race := 3 }
def wStreamMessages14 : State := withHeld [hm] (ul id (mk { tCore [] with cur := none, fq := [ce2] }))
def wStreamMessages15x2 : State := ul fun k => { k with level := 1 }
def wStreamMessages16 : Msg := { op := .tallySet, src := 9, addr := 260, value := 7 }
def wStreamMessages16x2 : State := ul id (mk (tCore []))
def wStreamMessages17x2 : State := ul fun k => { k with st := .down }
def wStreamMessages18 : State := withHeld [] (ul id (mk { tCore [] with cur := none, fq := [ce2] }))
def wStreamMessages19 : Msg := { op := .rejoin, src := 9, value := 100, frame := 7, race := 3 }
def wStreamMessages19x2 : State := { ul with miss := [some { tally := 5, frame := 3, dev := 4, race := 2 }, some { tally := 100, frame := 3, dev := 4, race := 2 }] ++ List.replicate 14 none }
def wDelivery1 : Msg := { op := .hello, src := 9 }
def wDelivery1x3 : State := withHeld [] (ul2 id ik2)
def wDelivery2 : State := { pS2 with links := { pS2.links with wait := [] } }
def wDelivery3 : Msg := { op := .nak, src := 9, seq := 4, status := 0x20 }
def wDelivery3x3 : State := withHeld [{ hm2 with core := noWork }] (ul2 id ik2)
def wDelivery4 : Msg := { op := .hello, src := 0 }
def wDelivery5 : State := withHeld [{ hm2 with left := true }] (ul2 id ik2)
def wDelivery6 : Msg := { op := .ack, src := 9, seq := 4, status := 0x20 }
def wDelivery6x3 : State := withHeld [hm2] (ul2 id ik2)
def wDelivery7 : Msg := { op := .wrMem, src := 9, len := 2, dst := 9, hop := 15 }
def wDelivery8 : Msg := { op := .wrMem, src := 9, len := 2, dst := 8, hop := 14 }
def wDelivery9 : Msg := { op := .ack, src := 9, seq := 4 }
def wDelivery9x3 : State := withHeld [hm2, {hm2 with msg := { hm2.msg with seq := 5}}, { hm2 with msg := { hm2.msg with op := .rdReq } }] (ul2 id ik2)
def wDelivery10 : Msg := { op := .routeAdv, src := 9, len := 2, adv := [⟨3, 5, true⟩, ⟨4, 5, true⟩] }
def wDelivery10x3 : State := withHeld [] (ul2 (fun k => { k with adv := [⟨4, 6, true⟩, ⟨5, 6, true⟩]}) ik2)
def wDelivery11 : State := withHeld [{ hm2 with core := noWork, first := 0x500000000, last := 0x500000007 }] ((ul2 id ik2).setInStream 9 { owed := true, expect := 5 })
def wRemoteJobs1 : Member := mx 9
def wRemoteJobs1x6 : Member := mx 8
def wRemoteJobs1x9 : State := jS2 jk [j2]
def wRemoteJobs2 : Msg := { op := .recMsg, len := 2, src := 9, value := 3, words := [0,0,0x00000123,0,0x00020008,0,0,0] }
def wRemoteJobs2x7 : Quantum := qq 2 (.remote 9)
def wRemoteJobs2x8 : List Quantum := [qq 0 (.onCore 0)]
def wRemoteJobs2x9 : State := (jS2 jk [j4]).wr Pg.ROUTE 0x124 0
def wRemoteJobs3 : State := jS2 jk []
def wRemoteJobs4 : Msg := jm 0
def wRemoteJobs5 : Msg := jm 1
def wRemoteJobs6 : Msg := jm 2
def wRemoteJobs7x9 : State := jS2 jk [jz]
def wRemoteJobs8 : Member := mx 9 0x500000005
def wRemoteJobs8x9 : State := jS2 jk [j3]
def wRemoteJobs9x9 : State := jS2 { jk with st := .off } []
def wRemoteJobs10 : Msg := { rsp with op := .recMsg, len := 2 }
def wRemoteJobs11 : Msg := { jm 0 with words := jd.set 9 0xFF000000 }
def wPowerDomains1 : W32 := 0x0F
def wPowerDomains1x8 : State := pw (fun p => { p with pd := 0xFFFFFFFFFF ^^^ b5, ready := true }) ((((w5 { idle with st := .off }).wr Pg.PWR Off.PWR.PD_REQ_LO 0xFFFFFFFF).wr Pg.PWR Off.PWR.PD_REQ_HI 0xFF))
def wPowerDomains2 : List CalItem := []
def wPowerDomains2x8 : State := { pw (fun p => { p with pd := b5, ready := false, porst := true, running := true }) (w5 { idle with st := .off }) with flash := { (tState []).flash with imgA := [] } }
def wPowerDomains3 : W32 := 0xFFFFFFFE
def wPowerDomains3x8 : State := (w5 idle).wr Pg.PWR Off.PWR.PD_REQ_LO 0xFFFFFFFF
def wPowerDomains4 : State := pw (fun p => { p with pd := b5, ready := false }) ((((w5 { idle with st := .out }).wr Pg.PWR Off.PWR.PD_REQ_LO 0xFFFFFFDF).wr Pg.PWR Off.PWR.PD_REQ_HI 0xFF))
def wPowerDomains5 : State := pw (fun p => { p with pd := 0xFFFFFFFFFF, ready := true }) ((((w5 { idle with st := .out }).wr Pg.PWR Off.PWR.PD_REQ_LO 0xFFFFFFDF).wr Pg.PWR Off.PWR.PD_REQ_HI 0xFF))
def wMonitorsAndLimits1 : State := let s := (mg (pc ++ [(Off.MGT.VNOW, 0x352)]) (w52 idle)); { s with mgmt := { s.mgmt with lag := 200 } }
def wMonitorsAndLimits2 : State := let s := (mg (pc ++ [(Off.MGT.VNOW, 5), (Off.MGT.PACE_LAG, 0x00640010)]) (w52 idle)); { s with mgmt := { s.mgmt with lag := 0x5, run := .off } }
def wMonitorsAndLimits3 : State := mg pc (w52 idle)
def wMonitorsAndLimits4 : State := { (mg pc (w52 idle)) with log := { buf := [le2, le2], head := 0xFFFFFFFF, ring := [(3, [1]), (32767, [2])] } }
def wMonitorsAndLimits5 : State := let s := (mg (pc ++ [(Off.MGT.PACE_LAG, 0x00640010)]) (w52 idle)); { s with mgmt := { s.mgmt with lag := 0x20 } }
def wManagementController1 : List Byte := []
def wManagementController1x1 : State := mg2 fun m => { m with run := .restarting }
def wManagementController2 : State := (mg2 fun m => { m with otherOk := true, report := false, imgLoad := true }).wr Pg.SEC Off.SEC.OWNER_SRC_HI 0x58
def wManagementController3 : State := mg2 id
def wManagementController4 : State := mg2 fun m => { m with tryRun := true }
def wManagementController5 : State := { (mg2 fun m => { m with otherOk := true, report := false, imgLoad := true }).wr Pg.SEC Off.SEC.ATT_DST_HI 0x58 with mram := { ownerFp := [1,2,3]} }
def wConfigurationSets2 : W32 := 3
def wConfigurationSets2x2 : State := mg2 fun m => { m with cfg := .staged, staged := some (cset3 3), active := some (cset3 2) }
def wConfigurationSets3 : State := mg2 fun m => { m with cfg := .loading, load := some .set }
def wConfigurationSets4 : State := mg2 fun m => { m with cfg := .loading, load := some .prev }
def wConfigurationSets6x2 : State := mg2 fun m => { m with cfg := .idle, prev := some (cset3 2), prevValid := true, active := some (cset3 3) }
def wConfigurationSets8 : State := mg2 fun m => { m with cfg := .applying, prev := some (cset3 2), prevValid := true, active := some (cset3 3) }
def wLaneArithmetic1 : QEntry := go (.vrq 0 (vfs[0]))
def wLaneArithmetic1x3 : VecF := vfs[0]

/-! ## Hypotheses met -/

/-- States that meet the hypotheses of ScalarCommands, clause by clause. -/
theorem test_meets_ScalarCommands :
    (wScalarCommands1.units = true ∧ wScalarCommands1.standsAt (0) (Instr.add 0 f1) = true ∧ f1.da = false) ∧
    (wScalarCommands2.units = true ∧ wScalarCommands2.standsAt (0) (Instr.sub 0 f1) = true ∧ f1.da = false) ∧
    (wScalarCommands3.units = true ∧ wScalarCommands3.standsAt (0) (Instr.mul 0 f1) = true) ∧
    (wScalarCommands4.units = true ∧ wScalarCommands4.standsAt (0) (Instr.orS 0 f1) = true) ∧
    (wScalarCommands5.units = true ∧ wScalarCommands5.standsAt (0) (Instr.mada 0 f3) = true) ∧
    (wScalarCommands6.units = true ∧ wScalarCommands6.standsAt (0) (Instr.andS 0 f1) = true) ∧
    (wScalarCommands7.units = true ∧ wScalarCommands7.standsAt (0) (Instr.xorS 0 f1) = true) ∧
    (wScalarCommands8x2.units = true ∧ wScalarCommands8x2.standsAt (0) (Instr.add 0 wScalarCommands8) = true ∧
     wScalarCommands8.da = true) ∧
    (wScalarCommands9x2.units = true ∧ wScalarCommands9x2.standsAt (0) (Instr.sub 0 wScalarCommands8) = true ∧
     wScalarCommands8.da = true) ∧
    (wScalarCommands10.units = true ∧ wScalarCommands10.standsAt (0) (Instr.shl 0 f1) = true) ∧
    (wScalarCommands11.units = true ∧ wScalarCommands11.standsAt (0) (Instr.shr 0 f1) = true) ∧
    (wScalarCommands12.units = true ∧ wScalarCommands12.standsAt (0) (Instr.sra 0 f1) = true) ∧
    (wScalarCommands13.units = true ∧ wScalarCommands13.standsAt (0) (Instr.slt 0 f1) = true) ∧
    (wScalarCommands14.units = true ∧ wScalarCommands14.standsAt (0) (Instr.minS 0 f1) = true) ∧
    (wScalarCommands15.units = true ∧ wScalarCommands15.standsAt (0) (Instr.maxS 0 f1) = true) ∧
    (wScalarCommands16.units = true ∧ wScalarCommands16.standsAt (0) (Instr.cshr 0 f1) = true) ∧
    (wScalarCommands17.units = true ∧ wScalarCommands17.standsAt (0) (Instr.nop 0 f1) = true) ∧
    (wScalarCommands18.units = true ∧ wScalarCommands18.standsAt (0) (Instr.mov 0 f2) = true) ∧
    (wScalarCommands19.units = true ∧ wScalarCommands19.standsAt (0) (Instr.movi 0 f1) = true) ∧
    (let d : Nat := f1.d.toNat
     wScalarCommands20.units = true ∧ wScalarCommands20.standsAt (0) (Instr.rtime 0 f1) = true ∧ d ≤ 14) ∧
    (wScalarCommands21.units = true ∧ wScalarCommands21.standsAt (0) (Instr.unitId 0 f1) = true) := by
  iterate 20 refine And.intro (by decide +kernel) ?_
  decide +kernel

/-- States that meet the hypotheses of BranchesAndLoops, clause by clause. -/
theorem test_meets_BranchesAndLoops :
    (wBranchesAndLoops1.units = true ∧ wBranchesAndLoops1.standsAt (0) (Instr.br 0 c1) = true) ∧
    (let k : Core := wBranchesAndLoops2.core 0
     let a : W32 := k.s c1.a.toNat
     let n : Nat := (BitVec.toNat (if c1.bi = true then c1.imm else a) + 2 ^ c1.tsh.toNat - 1) / 2 ^ c1.tsh.toNat
     wBranchesAndLoops2.units = true ∧ wBranchesAndLoops2.standsAt (0) (Instr.loop 0 c1) = true ∧ n ≠ 0) ∧
    (let k : Core := wBranchesAndLoops3.core 0
     wBranchesAndLoops3.units = true ∧ wBranchesAndLoops3.standsAt (0) (Instr.drain 0 c1) = true ∧
     (¬Option.any (fun key => decide ((c1.qm.getLsbD 0 = true ∧ ∃ e, e ∈ k.fq ∧ e.item = key) ∨ (c1.qm.getLsbD 1 = true ∧ ∃ e, e ∈ k.xq ∧ e.item = key) ∨ c1.qm.getLsbD 2 = true ∧ ∃ e, e ∈ k.wq ∧ e.item = key)) k.cur = true)) ∧
    (let k : Core := wBranchesAndLoops4.core 0
     wBranchesAndLoops4.units = true ∧ wBranchesAndLoops4.standsAt (0) (Instr.drain 0 c1) = true ∧
     (Option.any (fun key => decide ((c1.qm.getLsbD 0 = true ∧ ∃ e, e ∈ k.fq ∧ e.item = key) ∨ (c1.qm.getLsbD 1 = true ∧ ∃ e, e ∈ k.xq ∧ e.item = key) ∨ c1.qm.getLsbD 2 = true ∧ ∃ e, e ∈ k.wq ∧ e.item = key)) k.cur = true)) ∧
    (let k : Core := wBranchesAndLoops5x2.core 0
     let a : W32 := k.s wBranchesAndLoops5.a.toNat
     let n : Nat := (BitVec.toNat (if wBranchesAndLoops5.bi = true then wBranchesAndLoops5.imm else a) + 2 ^ wBranchesAndLoops5.tsh.toNat - 1) / 2 ^ wBranchesAndLoops5.tsh.toNat
     wBranchesAndLoops5x2.units = true ∧ wBranchesAndLoops5x2.standsAt (0) (Instr.loop 0 wBranchesAndLoops5) = true ∧ n = 0) ∧
    (wBranchesAndLoops6.loops = wBranchesAndLoops6x1 :: wBranchesAndLoops6x2 ∧ wBranchesAndLoops6.sreg.length = 16 ∧
     wBranchesAndLoops6x1.idx < 16 ∧ wBranchesAndLoops6.pc = wBranchesAndLoops6x1.last ∧ 1 < wBranchesAndLoops6x1.left ∧
     0 ≠ wBranchesAndLoops6x1.idx) ∧
    (wBranchesAndLoops7.loops = wBranchesAndLoops7x1 :: wBranchesAndLoops6x2 ∧ wBranchesAndLoops7.sreg.length = 16 ∧
     wBranchesAndLoops7x1.idx < 16 ∧ wBranchesAndLoops7.pc = wBranchesAndLoops7x1.last ∧ wBranchesAndLoops7x1.left ≤ 1) ∧
    (wBranchesAndLoops8.loops = wBranchesAndLoops7x1 :: wBranchesAndLoops6x2 ∧ wBranchesAndLoops8.sreg.length = 16 ∧
     wBranchesAndLoops7x1.idx < 16 ∧ wBranchesAndLoops8.pc ≠ wBranchesAndLoops7x1.last) := by
  iterate 7 refine And.intro (by decide +kernel) ?_
  decide +kernel

/-- States that meet the hypotheses of EndPlacesMarkers, clause by clause. -/
theorem test_meets_EndPlacesMarkers :
    (wEndPlacesMarkers1.units = true ∧ wEndPlacesMarkers1.standsAt (0) (Instr.endItem 0 c1) = true ∧
     (wEndPlacesMarkers1.core 0).curItem = some tItem ∧ (wEndPlacesMarkers1.core 0).fq = [] ∧ (wEndPlacesMarkers1.core 0).xq = [] ∧
     (wEndPlacesMarkers1.core 0).wq = []) ∧
    (wEndPlacesMarkers2.units = true ∧ wEndPlacesMarkers2.standsAt (0) (Instr.endItem 0 c1) = true ∧
     (wEndPlacesMarkers2.core 0).curItem = some tItem ∧
     (32 ≤ (wEndPlacesMarkers2.core 0).fq.length ∨ 32 ≤ (wEndPlacesMarkers2.core 0).xq.length ∨ 32 ≤ (wEndPlacesMarkers2.core 0).wq.length)) := by
  iterate 1 refine And.intro (by decide +kernel) ?_
  decide +kernel

/-- States that meet the hypotheses of QueueIssue, clause by clause. -/
theorem test_meets_QueueIssue :
    (cmdCore (Instr.xWflip 0) = some 0 ∧ queueOf (Instr.xWflip 0) = some Queue.xq ∧ wQueueIssue1.units = true ∧
     wQueueIssue1.standsAt (0) (Instr.xWflip 0) = true ∧ (wQueueIssue1.core 0).curItem = some tItem ∧
     wQueueIssue1.headsRegistered 0 = true ∧ ((wQueueIssue1.core 0).q Queue.xq).length < 32 ∧
     (((wQueueIssue1.core 0).head Queue.xq).isSome = true ∨ ((wQueueIssue1.core 0).entryOf tItem (Instr.xWflip 0) wQueueIssue1.nextKey).cond = none)) ∧
    (cmdCore (Instr.tUpd 0 wf') = some 0 ∧ queueOf (Instr.tUpd 0 wf') = some Queue.fq ∧ wQueueIssue2.units = true ∧
     wQueueIssue2.standsAt (0) (Instr.tUpd 0 wf') = true ∧ (wQueueIssue2.core 0).curItem = some tItem ∧
     wQueueIssue2.headsRegistered 0 = true ∧ 32 ≤ ((wQueueIssue2.core 0).q Queue.fq).length) := by
  iterate 1 refine And.intro (by decide +kernel) ?_
  decide +kernel

/-- States that meet the hypotheses of QueueHeadWait, clause by clause. -/
theorem test_meets_QueueHeadWait :
    (let a : Nat := tItem.tally (0) 3
     let holds : Prop := if false = true then wQueueHeadWait1.tally a = wQueueHeadWait1x6 else BitVec.toNat (wQueueHeadWait1.tally a - wQueueHeadWait1x6) < 2 ^ 31
     cmdCore (Instr.tWait 0 wf') = some 0 ∧ queueOf (Instr.tWait 0 wf') = some Queue.fq ∧ wQueueHeadWait1.units = true ∧
     wQueueHeadWait1.standsAt (0) (Instr.tWait 0 wf') = true ∧ (wQueueHeadWait1.core 0).curItem = some tItem ∧
     wQueueHeadWait1.headsRegistered 0 = true ∧ (wQueueHeadWait1.core 0).q Queue.fq = [] ∧
     ((wQueueHeadWait1.core 0).entryOf tItem (Instr.tWait 0 wf') wQueueHeadWait1.nextKey).cond = some (3, wQueueHeadWait1x6, false) ∧
     (holds ∨ wQueueHeadWait1.strict a = false ∧ wQueueHeadWait1.missed tItem a = none)) := by decide +kernel

/-- States that meet the hypotheses of SequencerWait, clause by clause. -/
theorem test_meets_SequencerWait :
    (let a : Nat := tItem.tally (0) w0.t.toNat
     let v : W32 := if w0.vi = true then w0.imm else (wSequencerWait1.core 0).s w0.vr.toNat
     let holds : Prop := if w0.c = true then wSequencerWait1.tally a = v else BitVec.toNat (wSequencerWait1.tally a - v) < 2 ^ 31
     wSequencerWait1.units = true ∧ w0.q = 0 ∧ wSequencerWait1.standsAt (0) (Instr.tWait 0 w0) = true ∧
     (wSequencerWait1.core 0).curItem = some tItem ∧ ¬holds ∧ wSequencerWait1.strict a = false ∧
     wSequencerWait1.missed tItem a = none) ∧
    (let a : Nat := tItem.tally (0) wSequencerWait2.t.toNat
     let v : W32 := if wSequencerWait2.vi = true then wSequencerWait2.imm else (wSequencerWait2x2.core 0).s wSequencerWait2.vr.toNat
     let holds : Prop := if wSequencerWait2.c = true then wSequencerWait2x2.tally a = v else BitVec.toNat (wSequencerWait2x2.tally a - v) < 2 ^ 31
     wSequencerWait2x2.units = true ∧ wSequencerWait2.q = 0 ∧
     wSequencerWait2x2.standsAt (0) (Instr.tWait 0 wSequencerWait2) = true ∧ (wSequencerWait2x2.core 0).curItem = some tItem ∧
     holds) ∧
    (wSequencerWait3.units = true ∧ w0.q = 0 ∧ wSequencerWait3.standsAt (0) (Instr.tWait 0 w0) = true ∧
     (wSequencerWait3.core 0).curItem = some tItem ∧ (wSequencerWait3.core 0).fq = [] ∧ (wSequencerWait3.core 0).xq = [] ∧
     (wSequencerWait3.core 0).wq = [] ∧ tItem.fail = none ∧ wSequencerWait3.strict (tItem.tally (0) w0.t.toNat) = true ∧
     condHolds w0.c (wSequencerWait3.tally (tItem.tally (0) w0.t.toNat)) (talValue (wSequencerWait3.core 0).sreg w0) = false) := by
  iterate 2 refine And.intro (by decide +kernel) ?_
  decide +kernel

/-- States that meet the hypotheses of SequencerUpdate, clause by clause. -/
theorem test_meets_SequencerUpdate :
    (let a : Nat := tItem.tally (0) u0.t.toNat
     wSequencerUpdate1.units = true ∧ u0.q = 0 ∧ (wSequencerUpdate1.core 0).curItem = some tItem ∧
     (∀ (c' : Fin 32), ((wSequencerUpdate1.core ↑c').waits.any fun w => w.tally == a) = false) ∧ wSequencerUpdate1.lanes = [] ∧
     wSequencerUpdate1.tallyRefused (TallySrc.item (0) tItem.key) a = false ∧
     wSequencerUpdate1.standsAt (0) (Instr.tUpd 0 u0) = true) ∧
    (let a : Nat := tItem.tally (0) u0.t.toNat
     wSequencerUpdate2.units = true ∧ u0.q = 0 ∧ (wSequencerUpdate2.core 0).curItem = some tItem ∧
     (∀ (c' : Fin 32), ((wSequencerUpdate2.core ↑c').waits.any fun w => w.tally == a) = false) ∧ wSequencerUpdate2.lanes = [] ∧
     wSequencerUpdate2.tallyRefused (TallySrc.item (0) tItem.key) a = false ∧
     wSequencerUpdate2.standsAt (0) (Instr.tRupd 0 u0) = true ∧
     BitVec.toNat ((wSequencerUpdate2.core 0).s u0.dr.toNat) % 512 = 511 ∧ 511 ≠ wSequencerUpdate2.devId) ∧
    (let a : Nat := tItem.tally (0) wSequencerUpdate3.t.toNat
     wSequencerUpdate3x2.units = true ∧ wSequencerUpdate3.q = 0 ∧ (wSequencerUpdate3x2.core 0).curItem = some tItem ∧
     (∀ (c' : Fin 32), ((wSequencerUpdate3x2.core ↑c').waits.any fun w => w.tally == a) = false) ∧ wSequencerUpdate3x2.lanes = [] ∧
     wSequencerUpdate3x2.tallyRefused (TallySrc.item (0) tItem.key) a = false ∧
     wSequencerUpdate3x2.standsAt (0) (Instr.tRupd 0 wSequencerUpdate3) = true ∧
     BitVec.toNat ((wSequencerUpdate3x2.core 0).s wSequencerUpdate3.dr.toNat) % 512 = wSequencerUpdate3x2.devId) := by
  iterate 2 refine And.intro (by decide +kernel) ?_
  decide +kernel

/-- States that meet the hypotheses of WaitsAreReleased, clause by clause. -/
theorem test_meets_WaitsAreReleased :
    (let t : State := (wWaitsAreReleased1.tallyOp TallySrc.reg 9 true wWaitsAreReleased1x4).fst
     wWaitsAreReleased1.tallyRefused TallySrc.reg 9 = false ∧ 0 ≠ 9 ∧
     ((t.cores.any fun k => decide ((k.waits.any fun w => decide (w.tally = 9)) = true)) = true)) := by decide +kernel

/-- States that meet the hypotheses of TallyRegisters, clause by clause. -/
theorem test_meets_TallyRegisters :
    (let pg : Nat := 112 + 1
     let i : Nat := wTallyRegisters1.rdF pg Off.TALLY.T_IDX 9 0
     let a : Nat := 1024 * 1 + i
     wTallyRegisters1.tallyRefused TallySrc.reg a = false) ∧
    (let pg : Nat := 112 + 0
     let i : Nat := wTallyRegisters2.rdF pg Off.TALLY.T_IDX 9 0
     let a : Nat := 1024 * 0 + i
     wTallyRegisters2.tallyRefused TallySrc.reg a = true) := by
  iterate 1 refine And.intro (by decide +kernel) ?_
  decide +kernel

/-- States that meet the hypotheses of QueueEntryStart, clause by clause. -/
theorem test_meets_QueueEntryStart :
    (wQueueEntryStart1.units = true ∧ wQueueEntryStart1.coreIn 0 = true ∧ wQueueEntryStart1.headsRegistered 0 = true ∧
     (wQueueEntryStart1.core 0).q Queue.xq = [e1] ∧ e1.st = EntSt.queued ∧ e1.marker = false ∧ e1.upd = none ∧
     (wQueueEntryStart1.core 0).item e1.item = some tItem ∧ wQueueEntryStart1.ue = [] ∧ e1.waited = true ∧
     wQueueEntryStart1.mayStart (0) Queue.xq tItem e1 = true ∧ e1.op = Instr.xWflip 0) ∧
    (wQueueEntryStart2.units = true ∧ wQueueEntryStart2.coreIn 0 = true ∧ wQueueEntryStart2.headsRegistered 0 = true ∧
     (wQueueEntryStart2.core 0).q Queue.xq = [e2] ∧ e2.st = EntSt.queued ∧ e2.marker = false ∧ e2.upd = none ∧
     (wQueueEntryStart2.core 0).item e2.item = some tItem ∧ wQueueEntryStart2.ue = [] ∧ e2.waited = true ∧
     wQueueEntryStart2.mayStart (0) Queue.xq tItem e2 = true ∧ xqUnit e2.op < 2 ∧ (∀ (c' : Fin 32), e2.op ≠ Instr.xWflip c')) ∧
    (let f := vTalF1
     wQueueEntryStart3.units = true ∧ wQueueEntryStart3.coreIn 0 = true ∧ wQueueEntryStart3.headsRegistered 0 = true ∧
     (wQueueEntryStart3.core 0).q Queue.fq = [e3] ∧ e3.st = EntSt.queued ∧ e3.marker = false ∧ e3.upd = none ∧
     (wQueueEntryStart3.core 0).item e3.item = some tItem ∧ wQueueEntryStart3.ue = [] ∧ e3.waited = true ∧
     wQueueEntryStart3.mayStart (0) Queue.fq tItem e3 = true ∧ e3.op = Instr.tWait 0 f) ∧
    (wQueueEntryStart4.units = true ∧ wQueueEntryStart4.coreIn 0 = true ∧ wQueueEntryStart4.headsRegistered 0 = true ∧
     (wQueueEntryStart4.core 0).q Queue.fq = [wQueueEntryStart4x3] ∧ wQueueEntryStart4x3.st = EntSt.queued ∧
     wQueueEntryStart4x3.marker = false ∧ wQueueEntryStart4x3.upd = none ∧
     (wQueueEntryStart4.core 0).item wQueueEntryStart4x3.item = some tItem ∧ wQueueEntryStart4.ue = [] ∧
     wQueueEntryStart4x3.waited = false) ∧
    (let f' := vFxF1
     wQueueEntryStart5.units = true ∧ wQueueEntryStart5.coreIn 0 = true ∧ wQueueEntryStart5.headsRegistered 0 = true ∧
     (wQueueEntryStart5.core 0).q Queue.fq = [wQueueEntryStart5x3] ∧ wQueueEntryStart5x3.st = EntSt.queued ∧
     wQueueEntryStart5x3.marker = false ∧ wQueueEntryStart5x3.upd = none ∧
     (wQueueEntryStart5.core 0).item wQueueEntryStart5x3.item = some tItem ∧ wQueueEntryStart5.ue = [] ∧
     wQueueEntryStart5x3.waited = true ∧ wQueueEntryStart5.mayStart (0) Queue.fq tItem wQueueEntryStart5x3 = true ∧
     wQueueEntryStart5x3.op = Instr.fPad 0 f') := by
  iterate 4 refine And.intro (by decide +kernel) ?_
  decide +kernel

/-- States that meet the hypotheses of VectorEntryCompletes, clause by clause. -/
theorem test_meets_VectorEntryCompletes :
    (wVectorEntryCompletes1.units = true ∧ wVectorEntryCompletes1.coreIn 0 = true ∧
     wVectorEntryCompletes1.headsRegistered 0 = true ∧ (wVectorEntryCompletes1.core 0).xq = [e4] ∧ e4.st = EntSt.started ∧
     e4.marker = false ∧ e4.pend = [] ∧ e4.acks = [] ∧ wVectorEntryCompletes1.heldFor (0) e4.key = false ∧ e4.upd = none ∧
     wVectorEntryCompletes1.ue = [] ∧
     vecResult (wVectorEntryCompletes1.core 0) e4 = some ((vecResult k4 e4).get!.fst, wVectorEntryCompletes1x4, wVectorEntryCompletes1x5) ∧
     (vecResult k4 e4).get!.fst < 32) := by decide +kernel

/-- States that meet the hypotheses of FetchRowMovesData, clause by clause. -/
theorem test_meets_FetchRowMovesData :
    (let geo : Geo := copyGeo wFetchRowMovesData1x5 cf
     let src : Nat := (csl.rowMem (gw csl (Gate.mem 0)).fst wFetchRowMovesData1x6 wFetchRowMovesData1x5 wFetchRowMovesData1x7).snd
     csl.units = true ∧ firstRow (csl.gateRows wFetchRowMovesData1) = some wFetchRowMovesData1x2 ∧
     (∀ (n : Fin 8), wFetchRowMovesData1 ≠ Gate.glz n) ∧
     wFetchRowMovesData1x2.work = GateWork.row (gw csl (Gate.mem 0)).fst (gw csl (Gate.mem 0)).snd.fst wFetchRowMovesData1x5 wFetchRowMovesData1x6 wFetchRowMovesData1x7 ∧
     wFetchRowMovesData1x5.op = Instr.fCopy 0 cf ∧ (gw csl (Gate.mem 0)).fst < 32 ∧
     (csl.rowMem (gw csl (Gate.mem 0)).fst wFetchRowMovesData1x6 wFetchRowMovesData1x5 wFetchRowMovesData1x7).fst = csl.devId ∧
     csl.ue = [] ∧ csl.ueWords src (geo.inRow wFetchRowMovesData1x7.snd) = [] ∧
     (csl.ueWords src (geo.inRow wFetchRowMovesData1x7.snd) ≠ [] ∨ true = true ∧ csl.rdB Pg.MEM Off.MEM.MEM_CFG 27 = true ∧ src < 68719476736 ∧ 0 < geo.inRow wFetchRowMovesData1x7.snd)) ∧
    (wFetchRowMovesData2.gateRows Gate.host = [] ∧ (∀ (n : Fin 8), Gate.host ≠ Gate.glz n)) := by
  iterate 1 refine And.intro (by decide +kernel) ?_
  decide +kernel

/-- States that meet the hypotheses of InstructionMemoryRegisters, clause by clause. -/
theorem test_meets_InstructionMemoryRegisters :
    (let k : Core := wInstructionMemoryRegisters1.core 0
     let pg : Nat := Pg.CORE 0
     let b : Bool := wInstructionMemoryRegisters1.rdB pg Off.CORE.IMEM_SEL 13
     let w : Nat := wInstructionMemoryRegisters1.rdF pg Off.CORE.IMEM_SEL 12 0
     let may : Prop := wInstructionMemoryRegisters1.domainOn 0 = true ∧ wInstructionMemoryRegisters1.mgmt.cfg = CfgSt.idle ∧ b ≠ k.active ∧ k.swap = false
     wInstructionMemoryRegisters1.units = true ∧ may ∧ 32 ≤ w) ∧
    (let k : Core := wInstructionMemoryRegisters2.core 0
     let pg : Nat := Pg.CORE 0
     let b : Bool := wInstructionMemoryRegisters2.rdB pg Off.CORE.IMEM_SEL 13
     let w : Nat := wInstructionMemoryRegisters2.rdF pg Off.CORE.IMEM_SEL 12 0
     let may : Prop := wInstructionMemoryRegisters2.domainOn 0 = true ∧ wInstructionMemoryRegisters2.mgmt.cfg = CfgSt.idle ∧ b ≠ k.active ∧ k.swap = false
     wInstructionMemoryRegisters2.units = true ∧ may ∧ w < 32 ∧ w % 2 = 0) ∧
    (let k : Core := wInstructionMemoryRegisters3x3.core 0
     let pg : Nat := Pg.CORE 0
     let b : Bool := wInstructionMemoryRegisters3x3.rdB pg Off.CORE.IMEM_SEL 13
     let w : Nat := wInstructionMemoryRegisters3x3.rdF pg Off.CORE.IMEM_SEL 12 0
     let may : Prop := wInstructionMemoryRegisters3x3.domainOn 0 = true ∧ wInstructionMemoryRegisters3x3.mgmt.cfg = CfgSt.idle ∧ b ≠ k.active ∧ k.swap = false
     wInstructionMemoryRegisters3x3.units = true ∧ may ∧ w < 32 ∧ w % 2 = 1 ∧ BitVec.getLsbD wInstructionMemoryRegisters3 31 = true) ∧
    (let k : Core := wInstructionMemoryRegisters4x3.core 0
     let pg : Nat := Pg.CORE 0
     let b : Bool := wInstructionMemoryRegisters4x3.rdB pg Off.CORE.IMEM_SEL 13
     let w : Nat := wInstructionMemoryRegisters4x3.rdF pg Off.CORE.IMEM_SEL 12 0
     let may : Prop := wInstructionMemoryRegisters4x3.domainOn 0 = true ∧ wInstructionMemoryRegisters4x3.mgmt.cfg = CfgSt.idle ∧ b ≠ k.active ∧ k.swap = false
     wInstructionMemoryRegisters4x3.units = true ∧ may ∧ w < 32 ∧ w % 2 = 1 ∧
     BitVec.getLsbD wInstructionMemoryRegisters4 31 = false) ∧
    (let k : Core := wInstructionMemoryRegisters5.core 0
     let pg : Nat := Pg.CORE 0
     let b : Bool := wInstructionMemoryRegisters5.rdB pg Off.CORE.IMEM_SEL 13
     let may : Prop := wInstructionMemoryRegisters5.domainOn 0 = true ∧ wInstructionMemoryRegisters5.mgmt.cfg = CfgSt.idle ∧ b ≠ k.active ∧ k.swap = false
     wInstructionMemoryRegisters5.units = true ∧ ¬may) := by
  iterate 4 refine And.intro (by decide +kernel) ?_
  decide +kernel

/-- States that meet the hypotheses of LoadChecksAndSwaps, clause by clause. -/
theorem test_meets_LoadChecksAndSwaps :
    (let k : Core := wLoadChecksAndSwaps1.core 0
     let waits : Prop := ∃ e, e < 16 ∧ dirUsed (k.dirHi (!k.active) e) = true ∧ dirLstate (k.dirHi (!k.active) e) < 2
     wLoadChecksAndSwaps1.units = true ∧ wLoadChecksAndSwaps1.domainOn 0 = true ∧ wLoadChecksAndSwaps1.mgmt.cfg = CfgSt.idle ∧
     waits ∧ (k.swap = false ∨ k.cur ≠ none)) ∧
    (let k : Core := wLoadChecksAndSwaps2.core 0
     let waits : Prop := ∃ e, e < 16 ∧ dirUsed (k.dirHi (!k.active) e) = true ∧ dirLstate (k.dirHi (!k.active) e) < 2
     wLoadChecksAndSwaps2.units = true ∧ wLoadChecksAndSwaps2.domainOn 0 = true ∧ wLoadChecksAndSwaps2.mgmt.cfg = CfgSt.idle ∧
     ¬waits ∧ k.swap = true ∧ k.cur = none ∧
     (∀ (it : Item), it ∈ k.items → it.phase = ItemPh.accepted → it.key < k.swapKey → k.entriesOf (!k.active) (descProgram it.desc) ≠ []) ∧
     (∀ (x : Nat × Nat), x ∈ wLoadChecksAndSwaps2.promised 0 → x.fst < k.swapKey → k.entriesOf (!k.active) x.snd ≠ [])) ∧
    (let k : Core := lcS.core 0
     let hi : W32 := k.dirHi true 0
     let lo : W32 := k.dirLo true 0
     let ue : Option Nat := if k.dirBad true 0 = true then none else lcS.imageUe (k.header true (dirHdr lo)) true
     lcS.units = true ∧ dirUsed hi = true ∧ dirLstate hi = 1 ∧ ue = some 64 ∧ 4 * 64 < 68719476736) ∧
    (let k : Core := wLoadChecksAndSwaps1.core 0
     let hi : W32 := k.dirHi true 0
     wLoadChecksAndSwaps1.units = true ∧ (dirUsed hi = false ∨ dirLstate hi ≠ 1)) ∧
    (let k : Core := wLoadChecksAndSwaps5.core 0
     let hi : W32 := k.dirHi true 0
     let lo : W32 := k.dirLo true 0
     wLoadChecksAndSwaps5.units = true ∧
     (dirHdr lo < 8 ∨ 2048 < dirHdr lo + dirLen hi ∨ dirLen hi < 5 ∨ 2040 < dirLen hi ∨ ∃ e', e' < 16 ∧ e' ≠ 0 ∧ dirUsed (k.dirHi true e') = true ∧ dirPid (k.dirLo true e') = dirPid lo)) ∧
    (let k : Core := wLoadChecksAndSwaps6.core 0
     let hi : W32 := k.dirHi true 0
     let lo : W32 := k.dirLo true 0
     let ue : Option Nat := if k.dirBad true 0 = true then none else wLoadChecksAndSwaps6.imageUe (k.header true (dirHdr lo)) false
     wLoadChecksAndSwaps6.units = true ∧ dirUsed hi = true ∧ dirLstate hi = 1 ∧ ue = none ∧
     wLoadChecksAndSwaps6.loadCheck 0 true 0 = none) := by
  iterate 5 refine And.intro (by decide +kernel) ?_
  decide +kernel

/-- States that meet the hypotheses of CoreService, clause by clause. -/
theorem test_meets_CoreService :
    (let k : Core := wCoreService1.core 0
     let alone : Prop := k.items = [] ∧ (∀ (w : Win), w ∈ k.wins → w.landing = []) ∧ ∀ (j : Job), j ∈ wCoreService1.jobs → ∀ (q : Quantum), q ∈ j.quanta → q.st ≠ QuantumSt.held 0
     wCoreService1.units = true ∧ wCoreService1.domainOn 0 = true ∧ (k.st = CoreSt.idle ∨ k.st = CoreSt.run) ∧ alone ∧
     k.st ≠ CoreSt.out) ∧
    (let k : Core := wCoreService2.core 0
     wCoreService2.units = true ∧ (k.st = CoreSt.off ∨ k.st = CoreSt.out) ∧ wCoreService2.domainOn 0 = true ∧ k.st = CoreSt.out) := by
  iterate 1 refine And.intro (by decide +kernel) ?_
  decide +kernel

/-- States that meet the hypotheses of ItemStart, clause by clause. -/
theorem test_meets_ItemStart :
    (let k : Core := wItemStart1.core 0
     let ready : Item → Prop := fun x => x.phase = ItemPh.accepted ∧ x.ready ≠ none ∧ x.fail = none ∧ k.entriesOf k.active (descProgram x.desc) ≠ []
     wItemStart1.units = true ∧ (k.st = CoreSt.idle ∨ k.st = CoreSt.run) ∧ k.cur = none ∧ k.swap = false ∧ tReady ∈ k.items ∧
     ready tReady ∧ (∀ (x : Item), x ∈ k.items → x ≠ tReady → ready x → tReady.before x = true) ∧
     (∀ (c' : Fin 32), c' ≠ 0 → ∀ (x : Item), x ∈ (wItemStart1.core ↑c').items → x.phase = ItemPh.accepted) ∧
     (Option.any (fun e => decide True) (k.entriesOf k.active (descProgram tReady.desc)).head? = true)) := by decide +kernel

/-- States that meet the hypotheses of ScoreboardDeclares, clause by clause. -/
theorem test_meets_ScoreboardDeclares :
    (let e' := vQEntry1
     let k : Core := wScoreboardDeclares1.core 0
     let blocked : QEntry → Prop := fun e => e.marker = false ∧ ∃ w, e.wait = some w ∧ w.released = false ∧ tItem.private_ (0) w.tally = true ∧ ∀ (x : Win), x ∈ k.wins → x.st = WinSt.closed ∨ x.tally ≠ some w.tally
     wScoreboardDeclares1.units = true ∧ (k.st = CoreSt.idle ∨ k.st = CoreSt.run) ∧ k.cur = none ∧ k.items = [tItem] ∧
     tItem.fail = none ∧ (∀ (e : QEntry), e ∈ k.fq ++ k.xq ++ k.wq → e.item = tItem.key ∧ e.st = EntSt.queued) ∧ k.fq = [e'] ∧
     blocked e' ∧ k.xq = [] ∧ k.wq = []) := by decide +kernel

/-- States that meet the hypotheses of WaitLimit, clause by clause. -/
theorem test_meets_WaitLimit :
    (let k : Core := wWaitLimit1.core 0
     let limit : Nat := BitVec.toNat (wWaitLimit1.rd (Pg.TALLY wrl.tally) Off.TALLY.WAIT_LIMIT)
     wWaitLimit1.units = true ∧ wrl.tally < 16384 ∧ k.items = [tItem] ∧ tItem.fail = none ∧ k.cur = some tItem.key ∧
     k.seqWait = some wrl ∧ k.fq = [] ∧ k.xq = [] ∧ k.wq = [] ∧ BitVec.toNat wWaitLimit1.rig.t > BitVec.toNat wrl.at_ + limit) ∧
    (let k : Core := wWaitLimit2.core 0
     let limit : Nat := BitVec.toNat (wWaitLimit2.rd (Pg.TALLY wrl.tally) Off.TALLY.WAIT_LIMIT)
     wWaitLimit2.units = true ∧ wrl.tally < 16384 ∧ k.items = [tItem] ∧ tItem.fail = none ∧ k.cur = some tItem.key ∧
     k.seqWait = some wrl ∧ k.fq = [] ∧ k.xq = [] ∧ k.wq = [] ∧ BitVec.toNat wWaitLimit2.rig.t ≤ BitVec.toNat wrl.at_ + limit) := by
  iterate 1 refine And.intro (by decide +kernel) ?_
  decide +kernel

/-- States that meet the hypotheses of CoreScrub, clause by clause. -/
theorem test_meets_CoreScrub :
    (wCoreScrub1.units = true ∧ (wCoreScrub1.domainOn 0 = false ∨ wCoreScrub1.rdB (Pg.CORE 0) Off.CORE.SCRUB_CTRL 31 = false)) ∧
    (let k : Core := wCoreScrub2.core 0
     let i : Nat := k.scrub
     let late : Prop := i ≠ 0 ∧ BitVec.toNat k.scrubAt + wCoreScrub2.rdF (Pg.CORE 0) Off.CORE.SCRUB_CTRL 15 0 * 100000 < BitVec.toNat wCoreScrub2.rig.t
     wCoreScrub2.units = true ∧ i < 18432 ∧ wCoreScrub2.domainOn 0 = true ∧
     wCoreScrub2.rdB (Pg.CORE 0) Off.CORE.SCRUB_CTRL 31 = true ∧ late ∧ k.scrubLate = false) ∧
    (let k : Core := wCoreScrub3.core 0
     let i : Nat := k.scrub
     let late : Prop := i ≠ 0 ∧ BitVec.toNat k.scrubAt + wCoreScrub3.rdF (Pg.CORE 0) Off.CORE.SCRUB_CTRL 15 0 * 100000 < BitVec.toNat wCoreScrub3.rig.t
     wCoreScrub3.units = true ∧ i < 18432 ∧ wCoreScrub3.domainOn 0 = true ∧
     wCoreScrub3.rdB (Pg.CORE 0) Off.CORE.SCRUB_CTRL 31 = true ∧ late ∧ k.scrubLate = true) := by
  iterate 2 refine And.intro (by decide +kernel) ?_
  decide +kernel

/-- States that meet the hypotheses of SluiceLanding, clause by clause. -/
theorem test_meets_SluiceLanding :
    (let k : Core := wSluiceLanding1.core 0
     let x : Win := k.wins.getD 0 { }
     let g : Geo := copyGeo we wcf
     let len : Nat := g.bytes
     wSluiceLanding1.units = true ∧ wSluiceLanding1.ue = [] ∧ wSluiceLanding1.ce = [] ∧ 0 ≠ 1 ∧
     x.landing = [{ src := wSluiceLanding1x6, rows := 1, err := false }] ∧ wSluiceLanding1x6 = LandSrc.here (1) we.key ∧
     (wSluiceLanding1.core 1).wq = [we] ∧ we.op = Instr.wCopy 1 wcf ∧ g.lines = 1 ∧ 0 < len ∧ len ≤ 256 ∧ x.st = WinSt.closing ∧
     x.tally = none) := by decide +kernel

/-- States that meet the hypotheses of RaceDescriptor, clause by clause. -/
theorem test_meets_RaceDescriptor :
    (let kind : Nat := fld wRaceDescriptor1 30 29
     let good : Prop := 1 ≤ fld (wRaceDescriptor1x3.rdRace (5) Off.RACE.RD_DRAIN) 19 0 ∧ (BitVec.getLsbD wRaceDescriptor1 27 = true → 1 ≤ fld (wRaceDescriptor1x3.rdRace (5) Off.RACE.RD_SPACE) 31 16) ∧ (2 ≤ kind → 1 ≤ fld (wRaceDescriptor1x3.rdRace (5) Off.RACE.RD_SPACE) 14 0) ∧ (kind = 3 → 1 ≤ fld (wRaceDescriptor1x3.rdRace (5) Off.RACE.RD_MCAST) 27 24 ∧ ∃ i, i < 16 ∧ BitVec.getLsbD (wRaceDescriptor1x3.raceMemb (5) i) 31 = true)
     let valid : Bool := BitVec.getLsbD (wRaceDescriptor1x3.rdRace (5) Off.RACE.RD_CTRL) 31
     valid = false ∧ BitVec.getLsbD wRaceDescriptor1 31 = true ∧ ¬good) ∧
    (let kind : Nat := fld wRaceDescriptor2 30 29
     let good : Prop := 1 ≤ fld (wRaceDescriptor1x3.rdRace (5) Off.RACE.RD_DRAIN) 19 0 ∧ (BitVec.getLsbD wRaceDescriptor2 27 = true → 1 ≤ fld (wRaceDescriptor1x3.rdRace (5) Off.RACE.RD_SPACE) 31 16) ∧ (2 ≤ kind → 1 ≤ fld (wRaceDescriptor1x3.rdRace (5) Off.RACE.RD_SPACE) 14 0) ∧ (kind = 3 → 1 ≤ fld (wRaceDescriptor1x3.rdRace (5) Off.RACE.RD_MCAST) 27 24 ∧ ∃ i, i < 16 ∧ BitVec.getLsbD (wRaceDescriptor1x3.raceMemb (5) i) 31 = true)
     let valid : Bool := BitVec.getLsbD (wRaceDescriptor1x3.rdRace (5) Off.RACE.RD_CTRL) 31
     valid = false ∧ BitVec.getLsbD wRaceDescriptor2 31 = true ∧ good) ∧
    (let valid : Bool := BitVec.getLsbD (wRaceDescriptor1x3.rdRace (5) Off.RACE.RD_CTRL) 31
     valid = false ∧ BitVec.getLsbD wRaceDescriptor3 31 = false) ∧
    (let valid : Bool := BitVec.getLsbD (wRaceDescriptor4x3.rdRace (5) Off.RACE.RD_CTRL) 31
     let used : Prop := ∃ c, c < 32 ∧ ((wRaceDescriptor4x3.lane (5) c).st = LaneSt.opened ∨ (wRaceDescriptor4x3.lane (5) c).st = LaneSt.bound)
     valid = true ∧ BitVec.getLsbD wRaceDescriptor3 31 = false ∧ ¬used) ∧
    (let valid : Bool := BitVec.getLsbD (wRaceDescriptor4x3.rdRace (5) Off.RACE.RD_CTRL) 31
     let used : Prop := ∃ c, c < 32 ∧ ((wRaceDescriptor4x3.lane (5) c).st = LaneSt.opened ∨ (wRaceDescriptor4x3.lane (5) c).st = LaneSt.bound)
     valid = true ∧ (BitVec.getLsbD wRaceDescriptor2 31 = true ∨ used)) := by
  iterate 4 refine And.intro (by decide +kernel) ?_
  decide +kernel

/-- States that meet the hypotheses of LongWaitsEnd, clause by clause. -/
theorem test_meets_LongWaitsEnd :
    (let none_ : Prop := ∀ (x : Nat), x ∈ wLongWaitsEnd1.blockedRaces → wLongWaitsEnd1.raceDepEn x = false
     wLongWaitsEnd1.units = true ∧ none_) ∧
    (wLongWaitsEnd2.units = true ∧ 0 < 1 ∧ wLongWaitsEnd2.blockedRaces = [0, 1] ∧ wLongWaitsEnd2.raceDepEn 0 = true ∧
     wLongWaitsEnd2.raceDepEn 1 = true ∧ wLongWaitsEnd2.raceDep 0 = 1 ∧ wLongWaitsEnd2.raceDep 1 = 0 ∧
     wLongWaitsEnd2.oldestOwner 0 = some (0, wLongWaitsEnd2x5) ∧ wLongWaitsEnd2.oldestOwner 1 = some (1, wLongWaitsEnd2x5) ∧
     0 ≠ 1 ∧ wLongWaitsEnd2x5.fail = none ∧ wLongWaitsEnd2x5.fail = none ∧ wLongWaitsEnd2.headsRegistered 0 = true ∧
     wLongWaitsEnd2.headsRegistered 1 = true ∧ (wLongWaitsEnd2.core 0).items = [wLongWaitsEnd2x5] ∧
     (wLongWaitsEnd2.core 1).items = [wLongWaitsEnd2x5] ∧ descClass wLongWaitsEnd2x5.desc ≤ descClass wLongWaitsEnd2x5.desc) ∧
    (wLongWaitsEnd3.units = true ∧ 0 < 1 ∧ wLongWaitsEnd3.blockedRaces = [0, 1] ∧ wLongWaitsEnd3.raceDepEn 0 = true ∧
     wLongWaitsEnd3.raceDepEn 1 = true ∧ wLongWaitsEnd3.raceDep 0 = 1 ∧ wLongWaitsEnd3.raceDep 1 = 0 ∧
     wLongWaitsEnd3.oldestOwner 0 = some (0, wLongWaitsEnd3x5) ∧ wLongWaitsEnd3.oldestOwner 1 = some (1, wLongWaitsEnd3x6) ∧
     0 ≠ 1 ∧ wLongWaitsEnd3x5.fail = none ∧ wLongWaitsEnd3x6.fail = none ∧ wLongWaitsEnd3.headsRegistered 0 = true ∧
     wLongWaitsEnd3.headsRegistered 1 = true ∧ (wLongWaitsEnd3.core 0).items = [wLongWaitsEnd3x5] ∧
     (wLongWaitsEnd3.core 1).items = [wLongWaitsEnd3x6] ∧ descClass wLongWaitsEnd3x6.desc < descClass wLongWaitsEnd3x5.desc) ∧
    (let hold : Nat := BitVec.toNat (wLongWaitsEnd4.rd Pg.WEIR Off.WEIR.MC_HOLD)
     wLongWaitsEnd4.units = true ∧
     (List.filter (fun y => decide (y.race = 5) && y.held.any fun h => h.fst == 3) wLongWaitsEnd4.stripes = [sx]) ∧
     sx.held = [(3, wLongWaitsEnd4x4)] ∧ BitVec.toNat wLongWaitsEnd4.rig.t ≤ BitVec.toNat wLongWaitsEnd4x4 + hold) ∧
    (let hold : Nat := BitVec.toNat (wLongWaitsEnd5.rd Pg.WEIR Off.WEIR.MC_HOLD)
     wLongWaitsEnd5.units = true ∧
     (List.filter (fun y => decide (y.race = 5) && y.held.any fun h => h.fst == 3) wLongWaitsEnd5.stripes = [sx]) ∧
     sx.held = [(3, wLongWaitsEnd4x4)] ∧ BitVec.toNat wLongWaitsEnd5.rig.t > BitVec.toNat wLongWaitsEnd4x4 + hold) := by
  iterate 4 refine And.intro (by decide +kernel) ?_
  decide +kernel

/-- States that meet the hypotheses of GlazeContexts, clause by clause. -/
theorem test_meets_GlazeContexts :
    (let z : Glz := wGlazeContexts1.glaze 2
     let pg : Nat := Pg.GLZ 2
     let x : Nat := wGlazeContexts1.rdF pg Off.GLZ.CTX_SEL 3 0
     let coef : Glz → Nat → Nat → BitVec 10 := fun z c n => SMap.get (fun x => 0) z.coefs (512 * c + n)
     let bad : Prop := (wGlazeContexts1.glzCtx (2) x).stride = 0 ∨ 8 < (wGlazeContexts1.glzCtx (2) x).inSh ∨ BitVec.toNat (wGlazeContexts1.glzCtx (2) x).base % 64 ≠ 0 ∨ (wGlazeContexts1.glzCtx (2) x).hold = 0 ∨ (wGlazeContexts1.glzCtx (2) x).slotLines < 2 ∨ 128 < (wGlazeContexts1.glzCtx (2) x).slotLines ∨ (wGlazeContexts1.glzCtx (2) x).dest = 3 ∨ (wGlazeContexts1.glzCtx (2) x).yPitch < (wGlazeContexts1.glzCtx (2) x).yBytes ∨ (wGlazeContexts1.glzCtx (2) x).hEn = true ∧ ∃ p, p < 64 ∧ List.foldl (fun a n => a + (coef z x (8 * p + n)).toInt) 0 (List.range 8) ≠ 256
     wGlazeContexts1.units = true ∧ bad ∧ wGlazeContexts1.armGood (2) x = false ∧
     (∀ (b : Band), b ∈ z.bands → b.ctx = x → b.closed = true) ∧ z.armed.contains x = false) ∧
    (let z : Glz := wGlazeContexts2.glaze 2
     let pg : Nat := Pg.GLZ 2
     let x : Nat := wGlazeContexts2.rdF pg Off.GLZ.CTX_SEL 3 0
     wGlazeContexts2.units = true ∧ (∃ b, b ∈ z.bands ∧ b.ctx = x ∧ b.closed = false) ∧ z.armed.contains x = true) ∧
    (let z : Glz := gS2.glaze 2
     let pg : Nat := Pg.GLZ 2
     let x : Nat := gS2.rdF pg Off.GLZ.CTX_SEL 3 0
     gS2.units = true ∧ gS2.armGood (2) x = true ∧ z.armed.contains x = false) := by
  iterate 2 refine And.intro (by decide +kernel) ?_
  decide +kernel

/-- States that meet the hypotheses of GlazeTimeouts, clause by clause. -/
theorem test_meets_GlazeTimeouts :
    (let k : Core := wGlazeTimeouts1.core 0
     let x : GCtx := wGlazeTimeouts1.glzCtx (2) bw.ctx
     let hold : Nat := BitVec.toNat (wGlazeTimeouts1.rd (Pg.GLZ 2) Off.GLZ.C_HOLD bw.ctx)
     wGlazeTimeouts1.units = true ∧ wGlazeTimeouts1.ue = [] ∧ k.items = [wGlazeTimeouts1x4] ∧ wGlazeTimeouts1x4.fail = none ∧
     k.cur = none ∧ k.fq = [] ∧ k.xq = [] ∧ k.wq = [wGlazeTimeouts1x5] ∧ wGlazeTimeouts1x5.item = wGlazeTimeouts1x4.key ∧
     wGlazeTimeouts1x5.op = Instr.wGlz 0 gf ∧ wGlazeTimeouts1x5.st = EntSt.started ∧ bw.opener = wGlazeTimeouts1x5.key ∧
     bw.entry = wGlazeTimeouts1x5.key ∧ bw.core = 0 ∧ bw.item = wGlazeTimeouts1x4.key ∧ bw.closed = false ∧
     bw.since = some wLongWaitsEnd4x4 ∧ (wGlazeTimeouts1.glaze 2).bands = [bw] ∧
     (∀ (g' : Fin 8), g' ≠ 2 → (wGlazeTimeouts1.glaze ↑g').bands = []) ∧
     BitVec.toNat wGlazeTimeouts1.rig.t > BitVec.toNat wLongWaitsEnd4x4 + hold ∧ x.ovr = false) ∧
    (let k : Core := wGlazeTimeouts2.core 0
     let hold : Nat := BitVec.toNat (wGlazeTimeouts2.rd (Pg.GLZ 2) Off.GLZ.C_HOLD bw.ctx)
     wGlazeTimeouts2.units = true ∧ wGlazeTimeouts2.ue = [] ∧ k.items = [wGlazeTimeouts1x4] ∧ wGlazeTimeouts1x4.fail = none ∧
     k.cur = none ∧ k.fq = [] ∧ k.xq = [] ∧ k.wq = [wGlazeTimeouts1x5] ∧ wGlazeTimeouts1x5.item = wGlazeTimeouts1x4.key ∧
     wGlazeTimeouts1x5.op = Instr.wGlz 0 gf ∧ wGlazeTimeouts1x5.st = EntSt.started ∧ bw.opener = wGlazeTimeouts1x5.key ∧
     bw.entry = wGlazeTimeouts1x5.key ∧ bw.core = 0 ∧ bw.item = wGlazeTimeouts1x4.key ∧ bw.closed = false ∧
     bw.since = some wLongWaitsEnd4x4 ∧ (wGlazeTimeouts2.glaze 2).bands = [bw] ∧
     (∀ (g' : Fin 8), g' ≠ 2 → (wGlazeTimeouts2.glaze ↑g').bands = []) ∧
     BitVec.toNat wGlazeTimeouts2.rig.t ≤ BitVec.toNat wLongWaitsEnd4x4 + hold) ∧
    (let k : Core := wGlazeTimeouts3.core 0
     let hold' : Nat := BitVec.toNat (wGlazeTimeouts3.rd (Pg.GLZ gf.glz.toNat) Off.GLZ.C_HOLD gf.ctx.toNat)
     wGlazeTimeouts3.units = true ∧ wGlazeTimeouts3.ue = [] ∧ k.items = [wGlazeTimeouts1x4] ∧ wGlazeTimeouts1x4.fail = none ∧
     k.cur = none ∧ k.fq = [] ∧ k.xq = [] ∧ k.wq = [wGlazeTimeouts3x5] ∧ wGlazeTimeouts3x5.item = wGlazeTimeouts1x4.key ∧
     wGlazeTimeouts3x5.op = Instr.wGlz 0 gf ∧ wGlazeTimeouts3x5.st = EntSt.queued ∧
     wGlazeTimeouts3x5.held = some wLongWaitsEnd4x4 ∧ BitVec.toNat wGlazeTimeouts3.rig.t > BitVec.toNat wLongWaitsEnd4x4 + hold') ∧
    (let k : Core := wGlazeTimeouts4.core 0
     let hold' : Nat := BitVec.toNat (wGlazeTimeouts4.rd (Pg.GLZ gf.glz.toNat) Off.GLZ.C_HOLD gf.ctx.toNat)
     wGlazeTimeouts4.units = true ∧ wGlazeTimeouts4.ue = [] ∧ k.items = [wGlazeTimeouts1x4] ∧ wGlazeTimeouts1x4.fail = none ∧
     k.cur = none ∧ k.fq = [] ∧ k.xq = [] ∧ k.wq = [wGlazeTimeouts3x5] ∧ wGlazeTimeouts3x5.item = wGlazeTimeouts1x4.key ∧
     wGlazeTimeouts3x5.op = Instr.wGlz 0 gf ∧ wGlazeTimeouts3x5.st = EntSt.queued ∧
     wGlazeTimeouts3x5.held = some wLongWaitsEnd4x4 ∧ BitVec.toNat wGlazeTimeouts4.rig.t ≤ BitVec.toNat wLongWaitsEnd4x4 + hold') := by
  iterate 3 refine And.intro (by decide +kernel) ?_
  decide +kernel

/-- States that meet the hypotheses of GlazeLines, clause by clause. -/
theorem test_meets_GlazeLines :
    (let x : GCtx := wGlazeLines1.glzCtx (2) wGlazeLines1x2.ctx
     let y : Nat := (x.bandOut wGlazeLines1x2).fst + wGlazeLines1x2.out
     let group : Nat := y / x.slotLines
     let slot : Nat := x.slotOf wGlazeLines1x2.frame group
     let dst : Nat := x.localAddr wGlazeLines1x2.core (slot * x.slotSize + 64 + y % x.slotLines * x.yPitch)
     let rec_ : Nat := x.localAddr wGlazeLines1x2.core (slot * x.slotSize)
     let bs : List (Option Byte) := x.yLine (wGlazeLines1.bandOutPx (2) x wGlazeLines1x2 wGlazeLines1x2.out)
     let last : Prop := wGlazeLines1x3.done.length + 1 = x.groupLines group
     wGlazeLines1.units = true ∧ wGlazeLines1.ue = [] ∧ (wGlazeLines1.glaze 2).bands = [wGlazeLines1x2] ∧
     wGlazeLines1x2.closed = true ∧ (x.fmt < 4 ∨ x.fmt = 7) ∧ wGlazeLines1.glzRemote x = false ∧
     wGlazeLines1x2.out < (x.bandOut wGlazeLines1x2).snd ∧ bs ≠ [] ∧ wGlazeLines1.ce = [] ∧
     wGlazeLines1.ueWords dst bs.length = [] ∧ wGlazeLines1.ueWords rec_ 64 = [] ∧
     (wGlazeLines1.glaze 2).slots.find (16 * wGlazeLines1x2.ctx + slot) = some wGlazeLines1x3 ∧
     wGlazeLines1x3.frame = wGlazeLines1x2.frame ∧ wGlazeLines1x3.group = group ∧ (¬y ∈ wGlazeLines1x3.done) ∧
     (∀ (j : Nat), j < x.ow → (wGlazeLines1.bandOutPx (2) x wGlazeLines1x2 wGlazeLines1x2.out j).isSome = true) ∧
     (rec_ + 64 ≤ dst ∨ ¬last) ∧ last) := by decide +kernel

/-- States that meet the hypotheses of CommandRings, clause by clause. -/
theorem test_meets_CommandRings :
    (let db : Nat := Pg.DB 5
     let hc : Nat := Pg.HC (5 / 4)
     let en : Bool := wCommandRings1x2.rdB hc (Off.HC.RING_CTRL0 + 16 * (5 % 4)) 31
     let head : W32 := wCommandRings1x2.rd db Off.DB.CMD_HEAD
     let waits : Prop := (wCommandRings1x2.chan (5 / 4)).ctl ≠ []
     let tail : W32 := wCommandRings1x2.rd db Off.DB.CPL_TAIL
     wCommandRings1x2.units = true ∧ wCommandRings1x2.ue = [] ∧ (wCommandRings1x2.chan (5 / 4)).st = HcSt.run ∧ ¬waits ∧
     en = true ∧ BitVec.toNat (wQueueHeadWait1x6 - head) ≤ 2048 ∧ head ≠ wCommandRings1x2.rd db Off.DB.CMD_TAIL ∧
     BitVec.toNat (tail - wQueueHeadWait1x6) ≤ 2048 ∧ wCommandRings1x2.pendRecs 5 = [] ∧
     BitVec.toNat (tail - wQueueHeadWait1x6) < 2048) ∧
    (let db : Nat := Pg.DB 5
     let hc : Nat := Pg.HC (5 / 4)
     let en : Bool := wCommandRings2x2.rdB hc (Off.HC.RING_CTRL0 + 16 * (5 % 4)) 31
     let head : W32 := wCommandRings2x2.rd db Off.DB.CMD_HEAD
     let waits : Prop := (wCommandRings2x2.chan (5 / 4)).ctl ≠ []
     let tail : W32 := wCommandRings2x2.rd db Off.DB.CPL_TAIL
     wCommandRings2x2.units = true ∧ wCommandRings2x2.ue = [] ∧ (wCommandRings2x2.chan (5 / 4)).st = HcSt.run ∧ ¬waits ∧
     (en = false ∨ 2048 < BitVec.toNat (wCommandRings2 - head)) ∧ (en = false ∨ head = wCommandRings2x2.rd db Off.DB.CMD_TAIL) ∧
     2048 < BitVec.toNat (tail - wCommandRings2)) ∧
    (let waits : Prop := (wCommandRings3.chan (5 / 4)).ctl ≠ []
     wCommandRings3.units = true ∧ wCommandRings3.ue = [] ∧ (wCommandRings3.chan (5 / 4)).st = HcSt.run ∧ waits) := by
  iterate 2 refine And.intro (by decide +kernel) ?_
  decide +kernel

/-- States that meet the hypotheses of CheckRound, clause by clause. -/
theorem test_meets_CheckRound :
    (let k : Core := wCheckRound1.core 0
     let d : List W32 := jb.desc
     let zero : Prop := ∃ i, i < descNdim d ∧ i < 8 ∧ descShape d i = 0
     wCheckRound1.units = true ∧ wCheckRound1.ue = [] ∧ wCheckRound1.jobs = [jb] ∧ jb.key = 3 ∧ jb.ph = JobPh.taken ∧
     jb.src = JobSrc.ring 5 ∧ 5 < 16 ∧ jb.refusedFrame = false ∧ descTarget jb.desc = wCheckRound1.coreUnit 0 ∧
     wCheckRound1.ringFull 5 = false ∧ wCheckRound1.pendRecs 5 = [] ∧ jb.done = 0 ∧ jb.failed = 0 ∧ jb.lines = 0 ∧
     wCheckRound1.badDesc d = false ∧ (k.st = CoreSt.idle ∨ k.st = CoreSt.run) ∧ wCheckRound1.coreRefusals (0) d = [] ∧ ¬zero) ∧
    (let k : Core := wCheckRound2.core 0
     let d : List W32 := jb.desc
     wCheckRound2.units = true ∧ wCheckRound2.ue = [] ∧ wCheckRound2.jobs = [jb] ∧ jb.key = 3 ∧ jb.ph = JobPh.taken ∧
     jb.src = JobSrc.ring 5 ∧ 5 < 16 ∧ jb.refusedFrame = false ∧ descTarget jb.desc = wCheckRound2.coreUnit 0 ∧
     wCheckRound2.ringFull 5 = false ∧ wCheckRound2.pendRecs 5 = [] ∧ jb.done = 0 ∧ jb.failed = 0 ∧ jb.lines = 0 ∧
     wCheckRound2.badDesc d = false ∧ (k.st = CoreSt.off ∨ k.st = CoreSt.out)) ∧
    (let k : Core := wCheckRound3.core 0
     let d : List W32 := wCheckRound3x4.desc
     let zero : Prop := ∃ i, i < descNdim d ∧ i < 8 ∧ descShape d i = 0
     wCheckRound3.units = true ∧ wCheckRound3.ue = [] ∧ wCheckRound3.jobs = [wCheckRound3x4] ∧ wCheckRound3x4.key = 3 ∧
     wCheckRound3x4.ph = JobPh.taken ∧ wCheckRound3x4.src = JobSrc.ring 5 ∧ 5 < 16 ∧ wCheckRound3x4.refusedFrame = false ∧
     descTarget wCheckRound3x4.desc = wCheckRound3.coreUnit 0 ∧ wCheckRound3.ringFull 5 = false ∧ wCheckRound3.pendRecs 5 = [] ∧
     wCheckRound3x4.done = 0 ∧ wCheckRound3x4.failed = 0 ∧ wCheckRound3x4.lines = 0 ∧ wCheckRound3.badDesc d = false ∧
     (k.st = CoreSt.idle ∨ k.st = CoreSt.run) ∧ wCheckRound3.coreRefusals (0) d = [] ∧ zero) ∧
    (let d : List W32 := wCheckRound4x4.desc
     wCheckRound4.units = true ∧ wCheckRound4.ue = [] ∧ wCheckRound4.jobs = [wCheckRound4x4] ∧ wCheckRound4x4.key = 3 ∧
     wCheckRound4x4.ph = JobPh.taken ∧ wCheckRound4x4.src = JobSrc.ring 5 ∧ 5 < 16 ∧ wCheckRound4x4.refusedFrame = false ∧
     descTarget wCheckRound4x4.desc = wCheckRound4.coreUnit 0 ∧ wCheckRound4.ringFull 5 = false ∧ wCheckRound4.pendRecs 5 = [] ∧
     wCheckRound4x4.done = 0 ∧ wCheckRound4x4.failed = 0 ∧ wCheckRound4x4.lines = 0 ∧ wCheckRound4.badDesc d = true) := by
  iterate 3 refine And.intro (by decide +kernel) ?_
  decide +kernel

/-- States that meet the hypotheses of SpanTable, clause by clause. -/
theorem test_meets_SpanTable :
    (let hdr : W32 := wSpanTable1x4.spanHdr 5
     let valid : Bool := BitVec.getLsbD hdr 31
     BitVec.getLsbD wSpanTable1 31 = false ∧ valid = false) ∧
    (let hdr : W32 := wSpanTable2x4.spanHdr 5
     let valid : Bool := BitVec.getLsbD hdr 31
     valid = true ∧ BitVec.getLsbD wSpanTable2 31 = true) ∧
    (let hdr : W32 := wSpanTable3x4.spanHdr 5
     let valid : Bool := BitVec.getLsbD hdr 31
     let good : Prop := 1 ≤ fld wSpanTable3 27 24 ∧ fld wSpanTable3 27 24 ≤ 8 ∧ 1 ≤ fld wSpanTable3 23 20 ∧ fld wSpanTable3 23 20 ≤ 14 ∧ ∀ (m : Nat), m < fld wSpanTable3 23 20 → have u := fld (wSpanTable3x4.spanMemb (5) m) 23 0; unitNamed u = true ∧ (u / 2 ^ 22 % 4 = 3 → u / 2 ^ 13 % 512 = wSpanTable3x4.devId → BitVec.getLsbD (wSpanTable3x4.spanHdr (u % 2 ^ 13)) 31 = true ∧ fld (wSpanTable3x4.spanHdr (u % 2 ^ 13)) 27 24 < fld wSpanTable3 27 24)
     valid = false ∧ BitVec.getLsbD wSpanTable3 31 = true ∧ good) ∧
    (let hdr : W32 := wSpanTable4x4.spanHdr 5
     let valid : Bool := BitVec.getLsbD hdr 31
     let good : Prop := 1 ≤ fld wSpanTable2 27 24 ∧ fld wSpanTable2 27 24 ≤ 8 ∧ 1 ≤ fld wSpanTable2 23 20 ∧ fld wSpanTable2 23 20 ≤ 14 ∧ ∀ (m : Nat), m < fld wSpanTable2 23 20 → have u := fld (wSpanTable4x4.spanMemb (5) m) 23 0; unitNamed u = true ∧ (u / 2 ^ 22 % 4 = 3 → u / 2 ^ 13 % 512 = wSpanTable4x4.devId → BitVec.getLsbD (wSpanTable4x4.spanHdr (u % 2 ^ 13)) 31 = true ∧ fld (wSpanTable4x4.spanHdr (u % 2 ^ 13)) 27 24 < fld wSpanTable2 27 24)
     valid = false ∧ BitVec.getLsbD wSpanTable2 31 = true ∧ ¬good) ∧
    (0 < 1) := by
  iterate 4 refine And.intro (by decide +kernel) ?_
  decide +kernel

/-- States that meet the hypotheses of PortCommands, clause by clause. -/
theorem test_meets_PortCommands :
    (let p : Port := wPortCommands1.port 7
     wPortCommands1.units = true ∧ (wPortCommands1.port 7).swapPend = false ∧
     (¬CalItem.sensorPort 7 ∈ wPortCommands1.power.failed) ∧ wPortCommands1.domainOn (32 + 7 / 6) = true ∧ p.st = PortSt.off ∧
     (∀ (i : Nat), i < 4 → (p.stream i).cur = none ∧ (p.stream i).rx = []) ∧ p.st ≠ PortSt.idle ∧ p.st ≠ PortSt.ready ∧
     p.st ≠ PortSt.stream) ∧
    (let p : Port := wPortCommands2.port 7
     let pg : Nat := Pg.SP 7
     let flow : List Nat := List.map (fun i => if (wPortCommands2.port i).st = PortSt.stream ∨ (wPortCommands2.port i).st = PortSt.stopping then wPortCommands2.rdF (Pg.SP i) Off.SP.PIX_RATE 15 0 else 0) (List.range 24)
     let tooFast : Prop := 18000 < wPortCommands2.rdF pg Off.SP.PIX_RATE 15 0 + flow.sum
     wPortCommands2.units = true ∧ (wPortCommands2.port 7).swapPend = false ∧ p.st = PortSt.ready ∧
     (wPortCommands2.partsBad 7 = true ∨ tooFast)) ∧
    (let p : Port := wPortCommands3.port 7
     wPortCommands3.units = true ∧ (wPortCommands3.port 7).swapPend = false ∧ p.st = PortSt.idle ∧
     wPortCommands3.nextCandidate (7) 0 = none) ∧
    (let p : Port := wPortCommands4.port 7
     wPortCommands4.units = true ∧ (wPortCommands4.port 7).swapPend = false ∧ p.st = PortSt.idle ∧
     (Option.any (fun c => decide True) (wPortCommands4.nextCandidate (7) 0) = true)) ∧
    (wPortCommands5.units = true ∧ (wPortCommands5.port 7).swapPend = false ∧ CalItem.sensorPort 7 ∈ wPortCommands5.power.failed) ∧
    (let p : Port := wPortCommands6.port 7
     wPortCommands6.units = true ∧ (wPortCommands6.port 7).swapPend = false ∧ p.st = PortSt.stream ∧
     (∃ i, i < 4 ∧ (p.stream i).cur ≠ none)) ∧
    (let p : Port := wPortCommands7.port 7
     let pg : Nat := Pg.SP 7
     let flow : List Nat := List.map (fun i => if (wPortCommands7.port i).st = PortSt.stream ∨ (wPortCommands7.port i).st = PortSt.stopping then wPortCommands7.rdF (Pg.SP i) Off.SP.PIX_RATE 15 0 else 0) (List.range 24)
     let tooFast : Prop := 18000 < wPortCommands7.rdF pg Off.SP.PIX_RATE 15 0 + flow.sum
     wPortCommands7.units = true ∧ (wPortCommands7.port 7).swapPend = false ∧ p.st = PortSt.ready ∧
     wPortCommands7.partsBad 7 = false ∧ ¬tooFast) := by
  iterate 6 refine And.intro (by decide +kernel) ?_
  decide +kernel

/-- States that meet the hypotheses of CorrectionTables, clause by clause. -/
theorem test_meets_CorrectionTables :
    (let p : Port := wCorrectionTables1x4.port 7
     let pg : Nat := Pg.SP 7
     let held : Prop := wCorrectionTables1x4.mgmt.cfg ≠ CfgSt.idle ∧ 7 ∈ wCorrectionTables1x4.mgmt.covered
     let flows : Prop := p.st = PortSt.stream ∨ p.st = PortSt.stopping
     let fits : Bool := p.stby.fits (wCorrectionTables1x4.rdF pg Off.SP.FRAME_GEOM 13 0) (wCorrectionTables1x4.rdF pg Off.SP.FRAME_GEOM 29 16)
     let k : Nat := CorrReg.idx CorrReg.cfa
     let tbl : Nat := wCorrectionTables1x4.rdF pg Off.SP.TBL_SEL 31 30
     let i : Nat := wCorrectionTables1x4.rdF pg Off.SP.TBL_SEL 13 0
     let last : Nat := if tbl = 0 then 64 else if tbl = 1 then 12739 else 8191
     wCorrectionTables1x4.units = true ∧ ¬held ∧ ¬flows ∧ fits = true ∧
     spBad (7) (corrOffs.getD k 0) wInstructionMemoryRegisters4 = false ∧
     (p.st = PortSt.off ∨ p.st = PortSt.idle ∨ p.st = PortSt.ready) ∧ p.swapPend = false ∧ tbl < 3 ∧ i ≤ last) ∧
    (let held : Prop := wCorrectionTables2x4.mgmt.cfg ≠ CfgSt.idle ∧ 7 ∈ wCorrectionTables2x4.mgmt.covered
     let p : Port := wCorrectionTables2x4.port 7
     let k : Nat := CorrReg.idx CorrReg.gainCtrl
     wCorrectionTables2x4.units = true ∧ held ∧ spBad (7) (corrOffs.getD k 0) wCorrectionTables2 = false ∧
     (p.st ≠ PortSt.off ∧ p.st ≠ PortSt.idle ∧ p.st ≠ PortSt.ready ∨ p.swapPend = true ∨ held) ∧ (p.swapPend = true ∨ held)) ∧
    (let p : Port := wCorrectionTables3x4.port 7
     let pg : Nat := Pg.SP 7
     let held : Prop := wCorrectionTables3x4.mgmt.cfg ≠ CfgSt.idle ∧ 7 ∈ wCorrectionTables3x4.mgmt.covered
     let fits : Bool := p.stby.fits (wCorrectionTables3x4.rdF pg Off.SP.FRAME_GEOM 13 0) (wCorrectionTables3x4.rdF pg Off.SP.FRAME_GEOM 29 16)
     let k : Nat := CorrReg.idx CorrReg.gainCtrl
     wCorrectionTables3x4.units = true ∧ ¬held ∧ p.swapPend = false ∧ fits = false ∧
     spBad (7) (corrOffs.getD k 0) wCorrectionTables3 = true) ∧
    (let p : Port := wCorrectionTables4.port 7
     let pg : Nat := Pg.SP 7
     let held : Prop := wCorrectionTables4.mgmt.cfg ≠ CfgSt.idle ∧ 7 ∈ wCorrectionTables4.mgmt.covered
     let flows : Prop := p.st = PortSt.stream ∨ p.st = PortSt.stopping
     let fits : Bool := p.stby.fits (wCorrectionTables4.rdF pg Off.SP.FRAME_GEOM 13 0) (wCorrectionTables4.rdF pg Off.SP.FRAME_GEOM 29 16)
     wCorrectionTables4.units = true ∧ ¬held ∧ flows ∧ fits = true) := by
  iterate 3 refine And.intro (by decide +kernel) ?_
  decide +kernel

/-- States that meet the hypotheses of StatisticsRegisters, clause by clause. -/
theorem test_meets_StatisticsRegisters :
    (let k : Nat := wStatisticsRegisters1x3.rdF Pg.STAT Off.STAT.STAT_SEL 6 0
     let base : Nat := wStatisticsRegisters1x3.rdF Pg.STAT Off.STAT.RING_BASE_HI 6 0 k * 2 ^ 32 + BitVec.toNat (wStatisticsRegisters1x3.rd Pg.STAT Off.STAT.RING_BASE_LO k)
     let depth : Nat := wStatisticsRegisters1x3.rdF Pg.STAT Off.STAT.RING_DEPTH 11 0 k
     let inOne : Prop := wStatisticsRegisters1x3.regionOf base (16384 * depth) = some Region.lpddr ∨ 377957122048 ≤ base ∧ base + 16384 * depth ≤ 377990676480
     let good : Prop := base % 16384 = 0 ∧ depth ≠ 0 ∧ fld wStatisticsRegisters1 20 16 ≤ 16 ∧ inOne
     let sets : Prop := StatReg.cfg = StatReg.cfg ∧ BitVec.getLsbD wStatisticsRegisters1 31 = true
     let flows : Prop := (wStatisticsRegisters1x3.port (k / 4)).st = PortSt.stream ∨ (wStatisticsRegisters1x3.port (k / 4)).st = PortSt.stopping
     (¬(sets ∧ ¬good)) ∧ ¬flows ∧ StatReg.cfg = StatReg.cfg) ∧
    (let k : Nat := wStatisticsRegisters2x3.rdF Pg.STAT Off.STAT.STAT_SEL 6 0
     let base : Nat := wStatisticsRegisters2x3.rdF Pg.STAT Off.STAT.RING_BASE_HI 6 0 k * 2 ^ 32 + BitVec.toNat (wStatisticsRegisters2x3.rd Pg.STAT Off.STAT.RING_BASE_LO k)
     let depth : Nat := wStatisticsRegisters2x3.rdF Pg.STAT Off.STAT.RING_DEPTH 11 0 k
     let inOne : Prop := wStatisticsRegisters2x3.regionOf base (16384 * depth) = some Region.lpddr ∨ 377957122048 ≤ base ∧ base + 16384 * depth ≤ 377990676480
     let good : Prop := base % 16384 = 0 ∧ depth ≠ 0 ∧ fld wStatisticsRegisters1 20 16 ≤ 16 ∧ inOne
     let sets : Prop := StatReg.cfg = StatReg.cfg ∧ BitVec.getLsbD wStatisticsRegisters1 31 = true
     sets ∧ ¬good) ∧
    (let k : Nat := wStatisticsRegisters1x3.rdF Pg.STAT Off.STAT.STAT_SEL 6 0
     let base : Nat := wStatisticsRegisters1x3.rdF Pg.STAT Off.STAT.RING_BASE_HI 6 0 k * 2 ^ 32 + BitVec.toNat (wStatisticsRegisters1x3.rd Pg.STAT Off.STAT.RING_BASE_LO k)
     let depth : Nat := wStatisticsRegisters1x3.rdF Pg.STAT Off.STAT.RING_DEPTH 11 0 k
     let inOne : Prop := wStatisticsRegisters1x3.regionOf base (16384 * depth) = some Region.lpddr ∨ 377957122048 ≤ base ∧ base + 16384 * depth ≤ 377990676480
     let good : Prop := base % 16384 = 0 ∧ depth ≠ 0 ∧ fld wStatisticsRegisters1 20 16 ≤ 16 ∧ inOne
     let sets : Prop := StatReg.baseLo = StatReg.cfg ∧ BitVec.getLsbD wStatisticsRegisters1 31 = true
     let flows : Prop := (wStatisticsRegisters1x3.port (k / 4)).st = PortSt.stream ∨ (wStatisticsRegisters1x3.port (k / 4)).st = PortSt.stopping
     (¬(sets ∧ ¬good)) ∧ ¬flows ∧ StatReg.baseLo = StatReg.baseLo) ∧
    (let k : Nat := wStatisticsRegisters1x3.rdF Pg.STAT Off.STAT.STAT_SEL 6 0
     let base : Nat := wStatisticsRegisters1x3.rdF Pg.STAT Off.STAT.RING_BASE_HI 6 0 k * 2 ^ 32 + BitVec.toNat (wStatisticsRegisters1x3.rd Pg.STAT Off.STAT.RING_BASE_LO k)
     let depth : Nat := wStatisticsRegisters1x3.rdF Pg.STAT Off.STAT.RING_DEPTH 11 0 k
     let inOne : Prop := wStatisticsRegisters1x3.regionOf base (16384 * depth) = some Region.lpddr ∨ 377957122048 ≤ base ∧ base + 16384 * depth ≤ 377990676480
     let good : Prop := base % 16384 = 0 ∧ depth ≠ 0 ∧ fld wStatisticsRegisters1 20 16 ≤ 16 ∧ inOne
     let sets : Prop := StatReg.baseHi = StatReg.cfg ∧ BitVec.getLsbD wStatisticsRegisters1 31 = true
     let flows : Prop := (wStatisticsRegisters1x3.port (k / 4)).st = PortSt.stream ∨ (wStatisticsRegisters1x3.port (k / 4)).st = PortSt.stopping
     (¬(sets ∧ ¬good)) ∧ ¬flows ∧ StatReg.baseHi = StatReg.baseHi) ∧
    (let k : Nat := wStatisticsRegisters5x3.rdF Pg.STAT Off.STAT.STAT_SEL 6 0
     let base : Nat := wStatisticsRegisters5x3.rdF Pg.STAT Off.STAT.RING_BASE_HI 6 0 k * 2 ^ 32 + BitVec.toNat (wStatisticsRegisters5x3.rd Pg.STAT Off.STAT.RING_BASE_LO k)
     let depth : Nat := wStatisticsRegisters5x3.rdF Pg.STAT Off.STAT.RING_DEPTH 11 0 k
     let inOne : Prop := wStatisticsRegisters5x3.regionOf base (16384 * depth) = some Region.lpddr ∨ 377957122048 ≤ base ∧ base + 16384 * depth ≤ 377990676480
     let good : Prop := base % 16384 = 0 ∧ depth ≠ 0 ∧ fld wStatisticsRegisters1 20 16 ≤ 16 ∧ inOne
     let sets : Prop := StatReg.cfg = StatReg.cfg ∧ BitVec.getLsbD wStatisticsRegisters1 31 = true
     let flows : Prop := (wStatisticsRegisters5x3.port (k / 4)).st = PortSt.stream ∨ (wStatisticsRegisters5x3.port (k / 4)).st = PortSt.stopping
     (¬(sets ∧ ¬good)) ∧ flows) ∧
    (let k : Nat := wStatisticsRegisters1x3.rdF Pg.STAT Off.STAT.STAT_SEL 6 0
     let base : Nat := wStatisticsRegisters1x3.rdF Pg.STAT Off.STAT.RING_BASE_HI 6 0 k * 2 ^ 32 + BitVec.toNat (wStatisticsRegisters1x3.rd Pg.STAT Off.STAT.RING_BASE_LO k)
     let depth : Nat := wStatisticsRegisters1x3.rdF Pg.STAT Off.STAT.RING_DEPTH 11 0 k
     let inOne : Prop := wStatisticsRegisters1x3.regionOf base (16384 * depth) = some Region.lpddr ∨ 377957122048 ≤ base ∧ base + 16384 * depth ≤ 377990676480
     let good : Prop := base % 16384 = 0 ∧ depth ≠ 0 ∧ fld wStatisticsRegisters6 20 16 ≤ 16 ∧ inOne
     let sets : Prop := StatReg.depth = StatReg.cfg ∧ BitVec.getLsbD wStatisticsRegisters6 31 = true
     let flows : Prop := (wStatisticsRegisters1x3.port (k / 4)).st = PortSt.stream ∨ (wStatisticsRegisters1x3.port (k / 4)).st = PortSt.stopping
     (¬(sets ∧ ¬good)) ∧ ¬flows ∧ StatReg.depth = StatReg.depth) := by
  iterate 5 refine And.intro (by decide +kernel) ?_
  decide +kernel

/-- States that meet the hypotheses of PortProcedures, clause by clause. -/
theorem test_meets_PortProcedures :
    (let x'' := vProfile1
     let p : Port := wPortProcedures1x2.port 7
     let b : Fin 12 := ⟨7 / 2, by decide⟩
     let bus : Bus := wPortProcedures1x2.bus ↑b
     let alone : Prop := bus.cur = some (Xfer.proc 7) ∧ bus.waiting = [] ∧ bus.exps = []
     wPortProcedures1x2.units = true ∧ (wPortProcedures1x2.port 7).swapPend = false ∧ alone ∧ p.proc = Proc.idRead 0 ∧
     wPortProcedures1x2.candidate (7) 0 = some x'' ∧ wPortProcedures1 &&& x''.idMask = x''.idValue &&& x''.idMask ∧
     x''.i2c = false ∧ (false = false ∨ wPortProcedures1 &&& x''.idMask ≠ x''.idValue &&& x''.idMask) ∧
     wPortProcedures1x2.nextCandidate (7) (0 + 1) = some 2 ∧
     (∀ (m : Fin 24), m.val / 2 = b.val → (wPortProcedures1x2.port ↑m).st = PortSt.idle → (wPortProcedures1x2.port ↑m).swapPend = false ∧ (wPortProcedures1x2.nextCandidate (↑m) 0).isSome = true)) ∧
    (let x'' := vProfile1
     let p : Port := wPortProcedures2x2.port 7
     let b : Fin 12 := ⟨7 / 2, by decide⟩
     let bus : Bus := wPortProcedures2x2.bus ↑b
     let alone : Prop := bus.cur = some (Xfer.proc 7) ∧ bus.waiting = [] ∧ bus.exps = []
     wPortProcedures2x2.units = true ∧ (wPortProcedures2x2.port 7).swapPend = false ∧ alone ∧ p.proc = Proc.idRead 2 ∧
     wPortProcedures2x2.candidate (7) 2 = some x'' ∧
     (false = false ∨ wPortProcedures2 &&& x''.idMask ≠ x''.idValue &&& x''.idMask) ∧
     wPortProcedures2x2.nextCandidate (7) (2 + 1) = none) ∧
    (let x := vProfile1
     let md := vSMode1
     let p : Port := wPortProcedures3.port 7
     let writes : Profile → Nat → Prop := fun x i => Option.map (fun x => x.op) x.steps[i]? = some 1
     wPortProcedures3.units = true ∧ (wPortProcedures3.port 7).swapPend = false ∧ p.proc = Proc.train 0 0 (21474836487#64) 3 ∧
     p.profile = some x ∧ x.modes[0]? = some md ∧ writes x md.stop ∧ 21474836487#64 ≤ wPortProcedures3.rig.t) ∧
    (let x := vProfile1
     let md := vSMode1
     let p : Port := wPortProcedures4.port 7
     let writes : Profile → Nat → Prop := fun x i => Option.map (fun x => x.op) x.steps[i]? = some 1
     wPortProcedures4.units = true ∧ (wPortProcedures4.port 7).swapPend = false ∧ p.proc = Proc.train 0 0 (21474836488#64) 3 ∧
     p.profile = some x ∧ x.modes[0]? = some md ∧ writes x md.stop ∧ wPortProcedures4.rig.t < 21474836488#64) ∧
    (let k' : Script := Sys2Proof.Machine.Script.init
     let x' := vProfile1
     let p : Port := wPortProcedures5.port 7
     let writes : Profile → Nat → Prop := fun x i => Option.map (fun x => x.op) x.steps[i]? = some 1
     wPortProcedures5.units = true ∧ (wPortProcedures5.port 7).swapPend = false ∧
     p.proc = Proc.script 0 k' 0 (some 21474836487#64) ∧ p.profile = some x' ∧ writes x' (0 + 1) ∧
     21474836487#64 ≤ wPortProcedures5.rig.t) ∧
    (let k' : Script := Sys2Proof.Machine.Script.init
     let x' := vProfile1
     let p : Port := wPortProcedures6.port 7
     let writes : Profile → Nat → Prop := fun x i => Option.map (fun x => x.op) x.steps[i]? = some 1
     wPortProcedures6.units = true ∧ (wPortProcedures6.port 7).swapPend = false ∧
     p.proc = Proc.script 0 k' 0 (some 21474836488#64) ∧ p.profile = some x' ∧ writes x' (0 + 1) ∧
     wPortProcedures6.rig.t < 21474836488#64) ∧
    (let b : Fin 12 := ⟨7 / 2, by decide⟩
     let bus : Bus := wPortProcedures7.bus ↑b
     wPortProcedures7.units = true ∧ (wPortProcedures7.port 7).swapPend = false ∧ bus.cur = none) := by
  iterate 6 refine And.intro (by decide +kernel) ?_
  decide +kernel

/-- States that meet the hypotheses of LosingASensor, clause by clause. -/
theorem test_meets_LosingASensor :
    (let p : Port := wLosingASensor1.port 7
     let pg : Nat := Pg.SP 7
     let flows : Prop := p.st = PortSt.stream ∨ p.st = PortSt.stopping
     let limit : Nat := BitVec.toNat (wLosingASensor1.rd pg Off.SP.LOSS_TIMEOUT)
     let bus : Bus := wLosingASensor1.bus (7 / 2)
     wLosingASensor1.units = true ∧ (wLosingASensor1.port 7).swapPend = false ∧
     (∀ (i : Nat), i < 4 → ((wLosingASensor1.port 7).stream i).cur = none ∧ ((wLosingASensor1.port 7).stream i).rx = []) ∧
     (¬flows ∨ limit = 0 ∨ BitVec.toNat wLosingASensor1.rig.t ≤ BitVec.toNat p.lastFs + limit) ∧ ¬flows ∧
     (p.st ≠ PortSt.lost ∨ ∃ c, c ∈ wLosingASensor1.claims ∧ c.port = 7) ∧ bus.cur = some (Xfer.exposure 7) ∧ bus.exps = [] ∧
     p.expOut = [(er, 0)]) ∧
    (let p : Port := wLosingASensor2.port 7
     let pg : Nat := Pg.SP 7
     let flows : Prop := p.st = PortSt.stream ∨ p.st = PortSt.stopping
     let limit : Nat := BitVec.toNat (wLosingASensor2.rd pg Off.SP.LOSS_TIMEOUT)
     wLosingASensor2.units = true ∧ (wLosingASensor2.port 7).swapPend = false ∧
     (∀ (i : Nat), i < 4 → ((wLosingASensor2.port 7).stream i).cur = none ∧ ((wLosingASensor2.port 7).stream i).rx = []) ∧ flows ∧
     limit ≠ 0 ∧ BitVec.toNat wLosingASensor2.rig.t > BitVec.toNat p.lastFs + limit) ∧
    (let p : Port := wLosingASensor3.port 7
     wLosingASensor3.units = true ∧ (wLosingASensor3.port 7).swapPend = false ∧
     (∀ (i : Nat), i < 4 → ((wLosingASensor3.port 7).stream i).cur = none ∧ ((wLosingASensor3.port 7).stream i).rx = []) ∧
     p.st = PortSt.lost ∧ (∀ (c : Claim), c ∈ wLosingASensor3.claims → c.port ≠ 7)) ∧
    (let p : Port := wLosingASensor4.port 7
     let flows : Prop := p.st = PortSt.stream ∨ p.st = PortSt.stopping
     let bus : Bus := wLosingASensor4.bus (7 / 2)
     wLosingASensor4.units = true ∧ (wLosingASensor4.port 7).swapPend = false ∧
     (∀ (i : Nat), i < 4 → ((wLosingASensor4.port 7).stream i).cur = none ∧ ((wLosingASensor4.port 7).stream i).rx = []) ∧
     bus.cur = some (Xfer.exposure 7) ∧ flows ∧ p.expOut = [(er, 1)]) ∧
    (let bus : Bus := wLosingASensor5.bus (7 / 2)
     wLosingASensor5.units = true ∧ (wLosingASensor5.port 7).swapPend = false ∧
     (∀ (i : Nat), i < 4 → ((wLosingASensor5.port 7).stream i).cur = none ∧ ((wLosingASensor5.port 7).stream i).rx = []) ∧
     bus.cur ≠ some (Xfer.exposure 7) ∧ bus.cur ≠ some (Xfer.stale 7)) ∧
    (let bus : Bus := wLosingASensor6.bus (7 / 2)
     wLosingASensor6.units = true ∧ (wLosingASensor6.port 7).swapPend = false ∧
     (∀ (i : Nat), i < 4 → ((wLosingASensor6.port 7).stream i).cur = none ∧ ((wLosingASensor6.port 7).stream i).rx = []) ∧
     bus.cur = some (Xfer.stale 7) ∧ bus.exps = [] ∧ bus.waiting = []) := by
  iterate 5 refine And.intro (by decide +kernel) ?_
  decide +kernel

/-- States that meet the hypotheses of FrameStart, clause by clause. -/
theorem test_meets_FrameStart :
    (let p : Port := wFrameStart1.port 7
     let free : Nat := wFrameStart1.streamLines 7 2 - (p.stream 2).held.length
     let admits : Prop := wFrameStart1.rdF (Pg.SP 7) Off.SP.ADMIT 7 0 ≤ free ∧ wFrameStart1.sheds 7 = false
     wFrameStart1.units = true ∧ (wFrameStart1.port 7).proc = Proc.none ∧ wFrameStart1.enabled 7 = [2] ∧
     fld (wFrameStart1.streamReg 7 2) 30 26 = (3#5).toNat ∧ p.st = PortSt.stream ∧ (p.stream 2).cur = none ∧ p.swapPend = false ∧
     admits) ∧
    (let p : Port := wFrameStart2.port 7
     let free : Nat := wFrameStart2.streamLines 7 2 - (p.stream 2).held.length
     let admits : Prop := wFrameStart2.rdF (Pg.SP 7) Off.SP.ADMIT 7 0 ≤ free ∧ wFrameStart2.sheds 7 = false
     wFrameStart2.units = true ∧ (wFrameStart2.port 7).proc = Proc.none ∧ wFrameStart2.enabled 7 = [2] ∧
     fld (wFrameStart2.streamReg 7 2) 30 26 = (3#5).toNat ∧ p.st = PortSt.stream ∧ (p.stream 2).cur = none ∧ p.swapPend = true ∧
     p.stby.fits (wFrameStart2.imgWidth 7) (wFrameStart2.imgHeight 7) = true ∧ admits) ∧
    (let p : Port := wFrameStart3.port 7
     wFrameStart3.units = true ∧ (wFrameStart3.port 7).proc = Proc.none ∧ wFrameStart3.enabled 7 = [2] ∧
     fld (wFrameStart3.streamReg 7 2) 30 26 = (3#5).toNat ∧ p.st ≠ PortSt.stream ∧ p.st ≠ PortSt.stopping) ∧
    (let p : Port := wFrameStart4.port 7
     let free : Nat := wFrameStart4.streamLines 7 2 - (p.stream 2).held.length
     wFrameStart4.units = true ∧ (wFrameStart4.port 7).proc = Proc.none ∧ wFrameStart4.enabled 7 = [2] ∧
     fld (wFrameStart4.streamReg 7 2) 30 26 = (3#5).toNat ∧ p.st = PortSt.stream ∧ (p.stream 2).cur = none ∧ p.swapPend = false ∧
     free < wFrameStart4.rdF (Pg.SP 7) Off.SP.ADMIT 7 0 ∧ wFrameStart4.jobs = [] ∧
     (∀ (c : Fin 32), (wFrameStart4.core ↑c).items = [])) := by
  iterate 3 refine And.intro (by decide +kernel) ?_
  decide +kernel

/-- States that meet the hypotheses of FrameEnd, clause by clause. -/
theorem test_meets_FrameEnd :
    (let st : Machine.Stream := (wFrameEnd1.port 7).stream 2
     let got : Nat := wFrameEnd1x4.lines + wFrameEnd1x4.lost + (List.filter (fun l => l.frame == wFrameEnd1x4.num) st.rx).length
     let height : Nat := wFrameEnd1.rdF (Pg.SP 7) Off.SP.FRAME_GEOM 29 16
     wFrameEnd1.units = true ∧ (wFrameEnd1.port 7).st = PortSt.stream ∧ (wFrameEnd1.port 7).proc = Proc.none ∧
     wFrameEnd1.enabled 7 = [2] ∧ fld (wFrameEnd1.streamReg 7 2) 30 26 = (3#5).toNat ∧ wFrameEnd1.jobs = [] ∧
     (∀ (c : Fin 32), (wFrameEnd1.core ↑c).items = []) ∧ st.cur = some wFrameEnd1x4.num ∧
     st.frame wFrameEnd1x4.num = some wFrameEnd1x4 ∧ wFrameEnd1x4.statEn = true ∧ wFrameEnd1x4.recorded = false ∧
     wFrameEnd1x4.admitted = true ∧ wFrameEnd1x4.cut = none ∧ got = height) ∧
    (let st : Machine.Stream := (wFrameEnd2.port 7).stream 2
     let got : Nat := wFrameEnd2x4.lines + wFrameEnd2x4.lost + (List.filter (fun l => l.frame == wFrameEnd2x4.num) st.rx).length
     let height : Nat := wFrameEnd2.rdF (Pg.SP 7) Off.SP.FRAME_GEOM 29 16
     wFrameEnd2.units = true ∧ (wFrameEnd2.port 7).st = PortSt.stream ∧ (wFrameEnd2.port 7).proc = Proc.none ∧
     wFrameEnd2.enabled 7 = [2] ∧ fld (wFrameEnd2.streamReg 7 2) 30 26 = (3#5).toNat ∧ wFrameEnd2.jobs = [] ∧
     (∀ (c : Fin 32), (wFrameEnd2.core ↑c).items = []) ∧ st.cur = some wFrameEnd2x4.num ∧
     st.frame wFrameEnd2x4.num = some wFrameEnd2x4 ∧ wFrameEnd2x4.statEn = true ∧ wFrameEnd2x4.recorded = false ∧
     wFrameEnd2x4.admitted = true ∧ wFrameEnd2x4.cut = none ∧ got < height) := by
  iterate 1 refine And.intro (by decide +kernel) ?_
  decide +kernel

/-- States that meet the hypotheses of LinePackets, clause by clause. -/
theorem test_meets_LinePackets :
    (let p : Port := wFrameEnd2.port 7
     let st : Machine.Stream := p.stream 2
     let y : Nat := wFrameEnd2x4.lines + wFrameEnd2x4.lost + (List.filter (fun l => l.frame == wFrameEnd2x4.num) st.rx).length
     let keep : Bool := wFrameEnd2.rdB (Pg.SP 7) Off.SP.INTAKE_CTRL 29
     let mine : Prop := 42#6 ≠ 39 ∧ wFrameEnd2.streamOf (7) (3#5).toNat (42#6).toNat = some 2 ∧ st.cur = some wFrameEnd2x4.num ∧ st.frame wFrameEnd2x4.num = some wFrameEnd2x4 ∧ wFrameEnd2x4.admitted = true ∧ wFrameEnd2x4.cut = none
     let fits : Prop := y < wFrameEnd2.rdF (Pg.SP 7) Off.SP.FRAME_GEOM 29 16 ∧ px.length = wFrameEnd2.rdF (Pg.SP 7) Off.SP.FRAME_GEOM 13 0
     let current : Prop := wFrameEnd2.onVc (7) (3#5).toNat = [2] ∧ st.cur = some wFrameEnd2x4.num ∧ st.frame wFrameEnd2x4.num = some wFrameEnd2x4 ∧ wFrameEnd2x4.admitted = true ∧ wFrameEnd2x4.cut = none
     wFrameEnd2.units = true ∧ (wFrameEnd2.port 7).st = PortSt.stream ∧ (wFrameEnd2.port 7).proc = Proc.none ∧
     wFrameEnd2.jobs = [] ∧ (∀ (c : Fin 32), (wFrameEnd2.core ↑c).items = []) ∧ mine ∧ fits ∧ st.rx.length < 2 ∧
     (true = true ∨ keep = true) ∧ keep = false ∧ current ∧ 42#6 ≠ 39 ∧ wFrameEnd2.onVc (7) (3#5).toNat = [2] ∧
     st.cur = some wFrameEnd2x4.num ∧ st.frame wFrameEnd2x4.num = some wFrameEnd2x4 ∧ wFrameEnd2x4.cut = none) ∧
    (wLinePackets2.units = true ∧ (wLinePackets2.port 7).st = PortSt.stream ∧ (wLinePackets2.port 7).proc = Proc.none ∧
     wLinePackets2.jobs = [] ∧ (∀ (c : Fin 32), (wLinePackets2.core ↑c).items = []) ∧ 43#6 ≠ 39 ∧
     wLinePackets2.streamOf (7) (3#5).toNat (43#6).toNat = none) ∧
    (let p : Port := wLinePackets3.port 7
     let st : Machine.Stream := p.stream 2
     let y : Nat := wLinePackets3x7.lines + wLinePackets3x7.lost + (List.filter (fun l => l.frame == wLinePackets3x7.num) st.rx).length
     let mine : Prop := 42#6 ≠ 39 ∧ wLinePackets3.streamOf (7) (3#5).toNat (42#6).toNat = some 2 ∧ st.cur = some wLinePackets3x7.num ∧ st.frame wLinePackets3x7.num = some wLinePackets3x7 ∧ wLinePackets3x7.admitted = true ∧ wLinePackets3x7.cut = none
     let fits : Prop := y < wLinePackets3.rdF (Pg.SP 7) Off.SP.FRAME_GEOM 29 16 ∧ px.length = wLinePackets3.rdF (Pg.SP 7) Off.SP.FRAME_GEOM 13 0
     wLinePackets3.units = true ∧ (wLinePackets3.port 7).st = PortSt.stream ∧ (wLinePackets3.port 7).proc = Proc.none ∧
     wLinePackets3.jobs = [] ∧ (∀ (c : Fin 32), (wLinePackets3.core ↑c).items = []) ∧ mine ∧ fits ∧ 2 ≤ st.rx.length) ∧
    (let p : Port := wLinePackets3.port 7
     let st : Machine.Stream := p.stream 2
     let current : Prop := wLinePackets3.onVc (7) (3#5).toNat = [2] ∧ st.cur = some wLinePackets3x7.num ∧ st.frame wLinePackets3x7.num = some wLinePackets3x7 ∧ wLinePackets3x7.admitted = true ∧ wLinePackets3x7.cut = none
     wLinePackets3.units = true ∧ (wLinePackets3.port 7).st = PortSt.stream ∧ (wLinePackets3.port 7).proc = Proc.none ∧
     wLinePackets3.jobs = [] ∧ (∀ (c : Fin 32), (wLinePackets3.core ↑c).items = []) ∧ current ∧ 39#6 = 39) ∧
    (let p : Port := wFrameEnd2.port 7
     let st : Machine.Stream := p.stream 2
     let y : Nat := wFrameEnd2x4.lines + wFrameEnd2x4.lost + (List.filter (fun l => l.frame == wFrameEnd2x4.num) st.rx).length
     let mine : Prop := 42#6 ≠ 39 ∧ wFrameEnd2.streamOf (7) (3#5).toNat (42#6).toNat = some 2 ∧ st.cur = some wFrameEnd2x4.num ∧ st.frame wFrameEnd2x4.num = some wFrameEnd2x4 ∧ wFrameEnd2x4.admitted = true ∧ wFrameEnd2x4.cut = none
     let fits : Prop := y < wFrameEnd2.rdF (Pg.SP 7) Off.SP.FRAME_GEOM 29 16 ∧ wLinePackets5.length = wFrameEnd2.rdF (Pg.SP 7) Off.SP.FRAME_GEOM 13 0
     wFrameEnd2.units = true ∧ (wFrameEnd2.port 7).st = PortSt.stream ∧ (wFrameEnd2.port 7).proc = Proc.none ∧
     wFrameEnd2.jobs = [] ∧ (∀ (c : Fin 32), (wFrameEnd2.core ↑c).items = []) ∧ mine ∧ ¬fits) ∧
    (let p : Port := wLinePackets6.port 7
     let st : Machine.Stream := p.stream 2
     let y : Nat := wFrameEnd2x4.lines + wFrameEnd2x4.lost + (List.filter (fun l => l.frame == wFrameEnd2x4.num) st.rx).length
     let keep : Bool := wLinePackets6.rdB (Pg.SP 7) Off.SP.INTAKE_CTRL 29
     let mine : Prop := 42#6 ≠ 39 ∧ wLinePackets6.streamOf (7) (3#5).toNat (42#6).toNat = some 2 ∧ st.cur = some wFrameEnd2x4.num ∧ st.frame wFrameEnd2x4.num = some wFrameEnd2x4 ∧ wFrameEnd2x4.admitted = true ∧ wFrameEnd2x4.cut = none
     let fits : Prop := y < wLinePackets6.rdF (Pg.SP 7) Off.SP.FRAME_GEOM 29 16 ∧ px.length = wLinePackets6.rdF (Pg.SP 7) Off.SP.FRAME_GEOM 13 0
     wLinePackets6.units = true ∧ (wLinePackets6.port 7).st = PortSt.stream ∧ (wLinePackets6.port 7).proc = Proc.none ∧
     wLinePackets6.jobs = [] ∧ (∀ (c : Fin 32), (wLinePackets6.core ↑c).items = []) ∧ mine ∧ fits ∧ st.rx.length < 2 ∧
     (false = true ∨ keep = true) ∧ false = false) := by
  iterate 5 refine And.intro (by decide +kernel) ?_
  decide +kernel

/-- States that meet the hypotheses of LineIntake, clause by clause. -/
theorem test_meets_LineIntake :
    (let p : Port := wLineIntake1.port 7
     let st : Machine.Stream := p.stream 2
     wLineIntake1.units = true ∧ st.rx = wLineIntake1x4 :: wLineIntake1x5 ∧ wLineIntake1x4.frame = wFrameEnd2x4.num ∧
     st.frame wFrameEnd2x4.num = some wFrameEnd2x4 ∧ wFrameEnd2x4.cut = none ∧ wFrameEnd2x4.admitted = true ∧
     (Option.any (fun slot => decide ((wLineIntake1.claims.any fun c => c.covers (7) (2) wFrameEnd2x4.num wLineIntake1x4.line) = true)) (wLineIntake1.freeSlot 7 2) = true) ∧
     0 < wLineIntake1x4.pixels.length) ∧
    (let p : Port := wLineIntake2.port 7
     let st : Machine.Stream := p.stream 2
     wLineIntake2.units = true ∧ st.rx = wLineIntake1x4 :: wLineIntake1x5 ∧ wLineIntake1x4.frame = wFrameEnd2x4.num ∧
     st.frame wFrameEnd2x4.num = some wFrameEnd2x4 ∧ wFrameEnd2x4.cut = none ∧ wFrameEnd2x4.admitted = true ∧
     wLineIntake2.freeSlot 7 2 = none ∧ wLineIntake2.jobs = [] ∧ (∀ (c : Fin 32), (wLineIntake2.core ↑c).items = [])) := by
  iterate 1 refine And.intro (by decide +kernel) ?_
  decide +kernel

/-- States that meet the hypotheses of StatisticsRecord, clause by clause. -/
theorem test_meets_StatisticsRecord :
    (let st : Machine.Stream := (wStatisticsRecord1.port 7).stream 2
     let k : Nat := 4 * 7 + 2
     let cfg : W32 := wStatisticsRecord1.rd Pg.STAT Off.STAT.STAT_CFG k
     let seq : W32 := wStatisticsRecord1.rd Pg.STAT Off.STAT.STAT_SEQ k
     let a : Nat := wStatisticsRecord1.statBase k + 16384 * (BitVec.toNat seq % wStatisticsRecord1.statDepth k)
     wStatisticsRecord1.units = true ∧ wStatisticsRecord1.ue = [] ∧ st.due = some fdone ∧ BitVec.getLsbD cfg 31 = true ∧
     wStatisticsRecord1.statDepth k ≠ 0 ∧ wStatisticsRecord1.ueWords a 16384 = [] ∧ fdone.stats.emb.length ≤ 768 ∧
     (BitVec.getLsbD cfg 30 = true → wStatisticsRecord1.tallyRefused TallySrc.stat (fld cfg 13 0) = false) ∧
     (wStatisticsRecord1.port 7).fsyncEnd = some wStatisticsRecord1x4 ∧ wStatisticsRecord1x4 ≤ wStatisticsRecord1.rig.t) ∧
    (let st : Machine.Stream := (wStatisticsRecord2.port 7).stream 2
     wStatisticsRecord2.units = true ∧ wStatisticsRecord2.ue = [] ∧ st.due = none ∧
     (wStatisticsRecord2.port 7).fsyncEnd = some wStatisticsRecord2x4 ∧ wStatisticsRecord2.rig.t < wStatisticsRecord2x4) := by
  iterate 1 refine And.intro (by decide +kernel) ?_
  decide +kernel

/-- States that meet the hypotheses of RigTimeStates, clause by clause. -/
theorem test_meets_RigTimeStates :
    (wRigTimeStates1.pending = [] ∧ wRigTimeStates1.rig.counting = true ∧ wRigTimeStates1.rig.load = none ∧
     wRigTimeStates1.rig.hold = none ∧ wRigTimeStates1.rig.st ≠ TimeSt.slew) ∧
    (wRigTimeStates2.pending = [] ∧ wRigTimeStates2.rig.counting = false) ∧
    (let r : Rig := wRigTimeStates3.rig
     let root : Bool := wRigTimeStates3.rdB Pg.LCH Off.LCH.TIME_CTRL 31
     let limit : Nat := wRigTimeStates3.rdF Pg.LCH Off.LCH.TIME_CTRL 7 0 * 100000
     wRigTimeStates3.units = true ∧ r.st = TimeSt.free ∧ root = false ∧ r.st ≠ TimeSt.sync ∧ r.st ≠ TimeSt.slew ∧
     (r.st ≠ TimeSt.holdover ∨ BitVec.toNat r.t < BitVec.toNat r.holdStart + limit) ∧
     (wRigTimeStates3.rdB Pg.LCH Off.LCH.LCH_CTRL 31 = true ∨ root = false) ∧ r.hold = none) ∧
    (let r : Rig := wRigTimeStates4.rig
     let root : Bool := wRigTimeStates4.rdB Pg.LCH Off.LCH.TIME_CTRL 31
     let limit : Nat := wRigTimeStates4.rdF Pg.LCH Off.LCH.TIME_CTRL 7 0 * 100000
     wRigTimeStates4.units = true ∧ r.st = TimeSt.holdover ∧ root = true ∧ BitVec.toNat r.holdStart + limit ≤ BitVec.toNat r.t ∧
     (Option.any (fun h => decide True) r.hold = true)) ∧
    (let r : Rig := wRigTimeStates5.rig
     wRigTimeStates5.units = true ∧ (r.st = TimeSt.sync ∨ r.st = TimeSt.slew) ∧ r.st = TimeSt.slew ∧ r.hold = none) ∧
    (let r : Rig := wRigTimeStates6.rig
     let root : Bool := wRigTimeStates6.rdB Pg.LCH Off.LCH.TIME_CTRL 31
     wRigTimeStates6.units = true ∧ r.st = TimeSt.free ∧ root = true ∧ wRigTimeStates6.rdB Pg.LCH Off.LCH.LCH_CTRL 31 = false) ∧
    (let r : Rig := wRigTimeStates7.rig
     wRigTimeStates7.units = true ∧ wRigTimeStates7.pending = [] ∧ r.counting = true ∧ r.hold = none ∧ r.st ≠ TimeSt.slew ∧
     (Option.any (fun v => decide (r.t + 1 ≤ v)) r.load = true)) ∧
    (let r : Rig := wRigTimeStates8.rig
     wRigTimeStates8.units = true ∧ wRigTimeStates8.pending = [] ∧ r.counting = true ∧ r.hold = none ∧ r.st ≠ TimeSt.slew ∧
     (Option.any (fun v => decide (v < r.t + 1)) r.load = true)) ∧
    (let r : Rig := wRigTimeStates9.rig
     let root : Bool := wRigTimeStates9.rdB Pg.LCH Off.LCH.TIME_CTRL 31
     wRigTimeStates9.units = true ∧ r.st = TimeSt.holdover ∧ root = false) := by
  iterate 8 refine And.intro (by decide +kernel) ?_
  decide +kernel

/-- States that meet the hypotheses of LaunchTableCommands, clause by clause. -/
theorem test_meets_LaunchTableCommands :
    (let e : Nat := wLaunchTableCommands1.rdF Pg.LCH Off.LCH.ENT_IDX 7 0
     let x : LEntry := wLaunchTableCommands1.entry e
     let n : Nat := wLaunchTableCommands1.rdF Pg.LCH Off.LCH.EXP_SEL 4 0
     let f : W32 := wLaunchTableCommands1.rd Pg.LCH Off.LCH.EXP_FRAME n
     let p : Port := wLaunchTableCommands1.port n
     wLaunchTableCommands1.units = true ∧ wLaunchTableCommands1.staged.bad = false ∧ x.armed = true ∧ n < 24 ∧
     (¬Option.any (fun l => decide (serialLe f l = true)) p.expLast = true) ∧ (∀ (q : ExpReq), q ∈ p.expQ → q.frame ≠ f) ∧
     p.expQ.length < 8) ∧
    (let e : Nat := wLaunchTableCommands2.rdF Pg.LCH Off.LCH.ENT_IDX 7 0
     let x : LEntry := wLaunchTableCommands2.entry e
     let n : Nat := wLaunchTableCommands2.rdF Pg.LCH Off.LCH.EXP_SEL 4 0
     wLaunchTableCommands2.units = true ∧ wLaunchTableCommands2.staged.bad = false ∧ x.armed = false ∧ 24 ≤ n) ∧
    (let lch : Nat → W32 := fun off => wLaunchTableCommands3.rd Pg.LCH off
     let act : W32 := lch Off.LCH.ENT_ACT
     let rep : W32 := lch Off.LCH.ENT_REPEAT
     wLaunchTableCommands3.units = true ∧ (9 < fld act 31 28 ∨ fld rep 23 16 ≠ 0 ∧ fld rep 23 16 ≤ fld rep 31 24)) ∧
    (let n : Nat := wLaunchTableCommands4.rdF Pg.LCH Off.LCH.EXP_SEL 4 0
     let f : W32 := wLaunchTableCommands4.rd Pg.LCH Off.LCH.EXP_FRAME n
     let p : Port := wLaunchTableCommands4.port n
     wLaunchTableCommands4.units = true ∧ n < 24 ∧ (Option.any (fun l => decide (serialLe f l = true)) p.expLast = true)) ∧
    (let n : Nat := wLaunchTableCommands5.rdF Pg.LCH Off.LCH.EXP_SEL 4 0
     let f : W32 := wLaunchTableCommands5.rd Pg.LCH Off.LCH.EXP_FRAME n
     let p : Port := wLaunchTableCommands5.port n
     wLaunchTableCommands5.units = true ∧ n < 24 ∧ (¬Option.any (fun l => decide (serialLe f l = true)) p.expLast = true) ∧
     (∀ (q : ExpReq), q ∈ p.expQ → q.frame ≠ f) ∧ 8 ≤ p.expQ.length) ∧
    (let l : List ExpReq := [{ frame := 0x00000009#32, tag := 0x0001#16, vals := [0x00000000#32, 0x00000000#32, 0x00000000#32, 0x00000000#32], writes := [] }]
     let r : List ExpReq := [{ frame := 0x00000009#32, tag := 0x0001#16, vals := [0x00000000#32, 0x00000000#32, 0x00000000#32, 0x00000000#32], writes := [] }, { frame := 0x00000000#32, tag := 0x0000#16, vals := [0x00000000#32, 0x00000000#32, 0x00000000#32, 0x00000000#32], writes := [] }]
     let old := vExpReq1
     let n : Nat := wLaunchTableCommands6.rdF Pg.LCH Off.LCH.EXP_SEL 4 0
     let f : W32 := wLaunchTableCommands6.rd Pg.LCH Off.LCH.EXP_FRAME n
     let p : Port := wLaunchTableCommands6.port n
     wLaunchTableCommands6.units = true ∧ n < 24 ∧ (¬Option.any (fun l => decide (serialLe f l = true)) p.expLast = true) ∧
     p.expQ = l ++ old :: r ∧ old.frame = f ∧ (∀ (q : ExpReq), q ∈ l → q.frame ≠ f)) := by
  iterate 5 refine And.intro (by decide +kernel) ?_
  decide +kernel

/-- States that meet the hypotheses of LaunchFires, clause by clause. -/
theorem test_meets_LaunchFires :
    (let now : W64 := wLaunchFires1.rig.t
     let x : LEntry := wLaunchFires1.entry 5
     let runs : Prop := wLaunchFires1.fires = true ∧ wLaunchFires1.due 5 = true ∧ wLaunchFires1.firstDue 5 = true
     let late : Prop := x.lateDue = true ∨ BitVec.toNat x.time + 100 < BitVec.toNat now
     wLaunchFires1.units = true ∧ wLaunchFires1.entryBad 5 = false ∧ runs ∧ ¬late ∧ x.act = 0) ∧
    (let now : W64 := wLaunchFires2.rig.t
     let runs : Prop := wLaunchFires2.fires = true ∧ wLaunchFires2.due 5 = true ∧ wLaunchFires2.firstDue 5 = true
     let all : List Instr := [Instr.launchNone 5 now, Instr.launchTrigger 5 now, Instr.launchExposure 5 now, Instr.launchPortCmd 5 now, Instr.launchDispatch 5 now, Instr.launchCommit 5 now, Instr.launchRevert 5 now, Instr.launchTblSwap 5 now, Instr.launchTallySet 5 now, Instr.launchTallyAdd 5 now, Instr.launchWatchGe 5 now, Instr.launchWatchEq 5 now, Instr.launchArm 5 now, Instr.launchDisarm 5 now]
     wLaunchFires2.units = true ∧ wLaunchFires2.entryBad 5 = false ∧ ¬runs ∧ ((all.any fun c => decide True) = true)) ∧
    (let now : W64 := wLaunchFires3.rig.t
     let x : LEntry := wLaunchFires3.entry 5
     let runs : Prop := wLaunchFires3.fires = true ∧ wLaunchFires3.due 5 = true ∧ wLaunchFires3.firstDue 5 = true
     let late : Prop := x.lateDue = true ∨ BitVec.toNat x.time + 100 < BitVec.toNat now
     wLaunchFires3.units = true ∧ wLaunchFires3.entryBad 5 = false ∧ runs ∧ ¬late ∧ x.act = 5 ∧ x.arg0 % 4 = 1) ∧
    (let now : W64 := wLaunchFires4.rig.t
     let x : LEntry := wLaunchFires4.entry 5
     let runs : Prop := wLaunchFires4.fires = true ∧ wLaunchFires4.due 5 = true ∧ wLaunchFires4.firstDue 5 = true
     let late : Prop := x.lateDue = true ∨ BitVec.toNat x.time + 100 < BitVec.toNat now
     wLaunchFires4.units = true ∧ wLaunchFires4.entryBad 5 = false ∧ runs ∧ ¬late ∧ x.act = 5 ∧ x.arg0 % 4 = 2) ∧
    (let now : W64 := wLaunchFires5.rig.t
     let x : LEntry := wLaunchFires5.entry 5
     let runs : Prop := wLaunchFires5.fires = true ∧ wLaunchFires5.due 5 = true ∧ wLaunchFires5.firstDue 5 = true
     let late : Prop := x.lateDue = true ∨ BitVec.toNat x.time + 100 < BitVec.toNat now
     wLaunchFires5.units = true ∧ wLaunchFires5.entryBad 5 = false ∧ runs ∧ ¬late ∧ x.act = 6) ∧
    (let now : W64 := wLaunchFires6.rig.t
     let x : LEntry := wLaunchFires6.entry 5
     let runs : Prop := wLaunchFires6.fires = true ∧ wLaunchFires6.due 5 = true ∧ wLaunchFires6.firstDue 5 = true
     let late : Prop := x.lateDue = true ∨ BitVec.toNat x.time + 100 < BitVec.toNat now
     wLaunchFires6.units = true ∧ wLaunchFires6.entryBad 5 = false ∧ runs ∧ ¬late ∧ x.act = 9 ∧ x.arg0 % 256 ≠ 5 ∧
     x.arg0.testBit 8 = true) ∧
    (let now : W64 := wLaunchFires7.rig.t
     let x : LEntry := wLaunchFires7.entry 5
     let runs : Prop := wLaunchFires7.fires = true ∧ wLaunchFires7.due 5 = true ∧ wLaunchFires7.firstDue 5 = true
     let late : Prop := x.lateDue = true ∨ BitVec.toNat x.time + 100 < BitVec.toNat now
     wLaunchFires7.units = true ∧ wLaunchFires7.entryBad 5 = false ∧ runs ∧ ¬late ∧ x.act = 4 ∧ x.ffp = false) ∧
    (let now : W64 := wLaunchFires8.rig.t
     let x : LEntry := wLaunchFires8.entry 5
     let runs : Prop := wLaunchFires8.fires = true ∧ wLaunchFires8.due 5 = true ∧ wLaunchFires8.firstDue 5 = true
     let late : Prop := x.lateDue = true ∨ BitVec.toNat x.time + 100 < BitVec.toNat now
     wLaunchFires8.units = true ∧ wLaunchFires8.entryBad 5 = false ∧ runs ∧ ¬late ∧ x.act = 7 ∧
     wLaunchFires8.tallyRefused TallySrc.launch (x.arg0 % 16384) = false ∧ x.arg0 / 2 ^ 22 % 4 = 0) ∧
    (let now : W64 := wLaunchFires9.rig.t
     let x : LEntry := wLaunchFires9.entry 5
     let runs : Prop := wLaunchFires9.fires = true ∧ wLaunchFires9.due 5 = true ∧ wLaunchFires9.firstDue 5 = true
     let late : Prop := x.lateDue = true ∨ BitVec.toNat x.time + 100 < BitVec.toNat now
     let a : W32 := wLaunchFires9.tally (x.arg0 % 16384)
     wLaunchFires9.units = true ∧ wLaunchFires9.entryBad 5 = false ∧ runs ∧ ¬late ∧ x.act = 8 ∧ x.arg0 / 2 ^ 22 % 4 = 0 ∧
     2 ^ 31 ≤ BitVec.toNat (a - x.arg1)) ∧
    (let now : W64 := wLaunchFires10.rig.t
     let x : LEntry := wLaunchFires10.entry 5
     let runs : Prop := wLaunchFires10.fires = true ∧ wLaunchFires10.due 5 = true ∧ wLaunchFires10.firstDue 5 = true
     let late : Prop := x.lateDue = true ∨ BitVec.toNat x.time + 100 < BitVec.toNat now
     let a : W32 := wLaunchFires10.tally (x.arg0 % 16384)
     wLaunchFires10.units = true ∧ wLaunchFires10.entryBad 5 = false ∧ runs ∧ ¬late ∧ x.act = 8 ∧ x.arg0 / 2 ^ 22 % 4 = 0 ∧
     BitVec.toNat (a - x.arg1) < 2 ^ 31) ∧
    (let now : W64 := wLaunchFires11.rig.t
     let x : LEntry := wLaunchFires11.entry 5
     let runs : Prop := wLaunchFires11.fires = true ∧ wLaunchFires11.due 5 = true ∧ wLaunchFires11.firstDue 5 = true
     let late : Prop := x.lateDue = true ∨ BitVec.toNat x.time + 100 < BitVec.toNat now
     wLaunchFires11.units = true ∧ wLaunchFires11.entryBad 5 = false ∧ runs ∧ ¬late ∧ x.act = 1) ∧
    (let now : W64 := wLaunchFires12.rig.t
     let x : LEntry := wLaunchFires12.entry 5
     let runs : Prop := wLaunchFires12.fires = true ∧ wLaunchFires12.due 5 = true ∧ wLaunchFires12.firstDue 5 = true
     let late : Prop := x.lateDue = true ∨ BitVec.toNat x.time + 100 < BitVec.toNat now
     wLaunchFires12.units = true ∧ wLaunchFires12.entryBad 5 = false ∧ runs ∧ ¬late ∧ x.act = 2) ∧
    (let now : W64 := wLaunchFires13.rig.t
     let x : LEntry := wLaunchFires13.entry 5
     let runs : Prop := wLaunchFires13.fires = true ∧ wLaunchFires13.due 5 = true ∧ wLaunchFires13.firstDue 5 = true
     let late : Prop := x.lateDue = true ∨ BitVec.toNat x.time + 100 < BitVec.toNat now
     wLaunchFires13.units = true ∧ wLaunchFires13.entryBad 5 = false ∧ runs ∧ ¬late ∧ x.act = 7 ∧
     wLaunchFires13.tallyRefused TallySrc.launch (x.arg0 % 16384) = false ∧ x.arg0 / 2 ^ 22 % 4 = 1) ∧
    (let now : W64 := wLaunchFires14.rig.t
     let x : LEntry := wLaunchFires14.entry 5
     let runs : Prop := wLaunchFires14.fires = true ∧ wLaunchFires14.due 5 = true ∧ wLaunchFires14.firstDue 5 = true
     let late : Prop := x.lateDue = true ∨ BitVec.toNat x.time + 100 < BitVec.toNat now
     let a : W32 := wLaunchFires14.tally (x.arg0 % 16384)
     wLaunchFires14.units = true ∧ wLaunchFires14.entryBad 5 = false ∧ runs ∧ ¬late ∧ x.act = 8 ∧ x.arg0 / 2 ^ 22 % 4 = 1 ∧
     a ≠ x.arg1) ∧
    (let now : W64 := wLaunchFires15.rig.t
     let x : LEntry := wLaunchFires15.entry 5
     let runs : Prop := wLaunchFires15.fires = true ∧ wLaunchFires15.due 5 = true ∧ wLaunchFires15.firstDue 5 = true
     let late : Prop := x.lateDue = true ∨ BitVec.toNat x.time + 100 < BitVec.toNat now
     let a : W32 := wLaunchFires15.tally (x.arg0 % 16384)
     wLaunchFires15.units = true ∧ wLaunchFires15.entryBad 5 = false ∧ runs ∧ ¬late ∧ x.act = 8 ∧ x.arg0 / 2 ^ 22 % 4 = 1 ∧
     a = x.arg1) ∧
    (let now : W64 := wLaunchFires16.rig.t
     let x : LEntry := wLaunchFires16.entry 5
     let runs : Prop := wLaunchFires16.fires = true ∧ wLaunchFires16.due 5 = true ∧ wLaunchFires16.firstDue 5 = true
     let late : Prop := x.lateDue = true ∨ BitVec.toNat x.time + 100 < BitVec.toNat now
     wLaunchFires16.units = true ∧ wLaunchFires16.entryBad 5 = false ∧ runs ∧ ¬late ∧ x.act = 9 ∧ x.arg0 % 256 ≠ 5 ∧
     x.arg0.testBit 8 = false) ∧
    (let now : W64 := wLaunchFires17.rig.t
     let x : LEntry := wLaunchFires17.entry 5
     let runs : Prop := wLaunchFires17.fires = true ∧ wLaunchFires17.due 5 = true ∧ wLaunchFires17.firstDue 5 = true
     let late : Prop := x.lateDue = true ∨ BitVec.toNat x.time + 100 < BitVec.toNat now
     wLaunchFires17.units = true ∧ wLaunchFires17.entryBad 5 = false ∧ runs ∧ late ∧ x.latePol = true ∧ x.act = 1 ∧
     (x.period = 0 ∨ x.count = 1)) := by
  iterate 16 refine And.intro (by decide +kernel) ?_
  decide +kernel

/-- States that meet the hypotheses of HostAccesses, clause by clause. -/
theorem test_meets_HostAccesses :
    (let k : Chan := hs.chan 1
     let n : Nat := if true = true then 64 else 32
     let a : Nat := (459008#29).toNat / n * n
     let slow : Prop := 0 < BitVec.toNat k.mode.rl ∧ BitVec.toNat k.mode.rl < [10, 14, 18, 20, 24, 27].getD k.mode.rate.toNat 27
     let w : Nat := (459008#29).toNat
     hs.units = true ∧ (hs.chan 1).st = HcSt.run ∧ hs.ue = [] ∧ hs.ce = [] ∧ 0 < bs.length ∧ ¬slow ∧ a < 1097728 ∧
     (RegMap.kindOf (a / 4096)).isSome = true ∧ a / 4096 ≠ 128 ∧ (w < 1097728 ∨ k.ctl ≠ []) ∧ k.ctl = [] ∧
     RegMap.kindOf (186#12).toNat = none ∧ (RegMap.kindOf (1#12).toNat).isSome = true ∧ hs.mgmt.run ≠ McRun.restarting ∧
     hs.mgmt.run = McRun.running ∧ RegMap.kindOf (4095#16).toNat = none) ∧
    (let k : Chan := hs.chan 1
     let n : Nat := if true = true then 64 else 32
     let a : Nat := (16777221#29).toNat / n * n
     let slow : Prop := 0 < BitVec.toNat k.mode.rl ∧ BitVec.toNat k.mode.rl < [10, 14, 18, 20, 24, 27].getD k.mode.rate.toNat 27
     let w : Nat := (16777221#29).toNat
     hs.units = true ∧ (hs.chan 1).st = HcSt.run ∧ hs.ue = [] ∧ hs.ce = [] ∧ 0 < bs.length ∧ ¬slow ∧ 16777216 ≤ a ∧ a < 17563648 ∧
     k.ctl = [] ∧ 16777216 ≤ w ∧ w + bs.length ≤ 17301504) ∧
    (let k : Chan := hs.chan 1
     let n : Nat := if true = true then 64 else 32
     let a : Nat := (17563648#29).toNat / n * n
     let slow : Prop := 0 < BitVec.toNat k.mode.rl ∧ BitVec.toNat k.mode.rl < [10, 14, 18, 20, 24, 27].getD k.mode.rate.toNat 27
     let w : Nat := (17563648#29).toNat
     hs.units = true ∧ (hs.chan 1).st = HcSt.run ∧ hs.ue = [] ∧ hs.ce = [] ∧ 0 < bs.length ∧ ¬slow ∧ 17563648 ≤ a ∧ a < 17821696 ∧
     k.ctl = [] ∧ (17301504 ≤ w ∧ w < 17821696 ∨ 17821952 ≤ w ∧ w < 134217728 ∨ 142606336 ≤ w)) ∧
    (let k : Chan := hs.chan 1
     let n : Nat := if true = true then 64 else 32
     let a : Nat := (134217728#29).toNat / n * n
     let slow : Prop := 0 < BitVec.toNat k.mode.rl ∧ BitVec.toNat k.mode.rl < [10, 14, 18, 20, 24, 27].getD k.mode.rate.toNat 27
     let w : Nat := (134217728#29).toNat
     hs.units = true ∧ (hs.chan 1).st = HcSt.run ∧ hs.ue = [] ∧ hs.ce = [] ∧ 0 < bs.length ∧ ¬slow ∧ 134217728 ≤ a ∧
     a < 142606336 ∧ k.ctl = [] ∧ 134217728 ≤ w ∧ w + bs.length ≤ 142606336) ∧
    (let k : Chan := hs.chan 1
     let n : Nat := if false = true then 64 else 32
     let a : Nat := (1097728#29).toNat / n * n
     let slow : Prop := 0 < BitVec.toNat k.mode.rl ∧ BitVec.toNat k.mode.rl < [10, 14, 18, 20, 24, 27].getD k.mode.rate.toNat 27
     hs.units = true ∧ (hs.chan 1).st = HcSt.run ∧ hs.ue = [] ∧ hs.ce = [] ∧ 0 < bs.length ∧ ¬slow ∧
     (1097728 ≤ a ∧ a < 16777216 ∨ 17825792 ≤ a ∧ a < 134217728 ∨ 142606336 ≤ a)) ∧
    (let k : Chan := hs.chan 1
     let n : Nat := if true = true then 64 else 32
     let a : Nat := (17821760#29).toNat / n * n
     let slow : Prop := 0 < BitVec.toNat k.mode.rl ∧ BitVec.toNat k.mode.rl < [10, 14, 18, 20, 24, 27].getD k.mode.rate.toNat 27
     hs.units = true ∧ (hs.chan 1).st = HcSt.run ∧ hs.ue = [] ∧ hs.ce = [] ∧ 0 < bs.length ∧ ¬slow ∧ 17821696 ≤ a ∧ a < 17821952) ∧
    (let k : Chan := wHostAccesses7.chan 1
     let slow : Prop := 0 < BitVec.toNat k.mode.rl ∧ BitVec.toNat k.mode.rl < [10, 14, 18, 20, 24, 27].getD k.mode.rate.toNat 27
     wHostAccesses7.units = true ∧ (wHostAccesses7.chan 1).st = HcSt.run ∧ wHostAccesses7.ue = [] ∧ wHostAccesses7.ce = [] ∧
     0 < bs.length ∧ slow) ∧
    (wHostAccesses8.units = true ∧ (wHostAccesses8.chan 1).st = HcSt.run ∧ wHostAccesses8.ue = [] ∧ wHostAccesses8.ce = [] ∧
     0 < bs.length ∧ wHostAccesses8.mgmt.run ≠ McRun.running) := by
  iterate 7 refine And.intro (by decide +kernel) ?_
  decide +kernel

/-- States that meet the hypotheses of ChannelStates, clause by clause. -/
theorem test_meets_ChannelStates :
    (let k : Chan := wChannelStates1x7.chan 1
     let takes : Prop := k.st = HcSt.wait ∨ k.st = HcSt.train ∨ k.st = HcSt.run
     let vmr : Nat := wChannelStates1x7.rdF Pg.HP Off.HP.VMR_CFG 6 0
     let fixed : Prop := 5 ≤ (34#7).toNat ∧ (34#7).toNat ≤ 8 ∨ vmr ≤ (34#7).toNat ∧ (34#7).toNat < vmr + 4 ∨ 47 ≤ (34#7).toNat ∧ (34#7).toNat ≤ 54 ∨ (34#7).toNat ∈ [0, 4, 27, 35, 36, 38, 39, 43, 44, 45]
     let cfg : W32 := wChannelStates1x7.rd Pg.HP Off.HP.HP_CFG
     let fit : Bool := wChannelStates1x7.chanFitted 2
     let here : Nat := wChannelStates1x7.memTop / if wChannelStates1x7.fitted = 3 then 8 else 4
     let mem : MemChan := wChannelStates1x7.memChans.getD 2 { }
     let i : Nat := mem.scrub
     let others : Prop := ∀ (x : Nat), x < 8 → x ≠ 2 → wChannelStates1x7.chanFitted x = true → here ≤ 32 * (wChannelStates1x7.memChans.getD x { }).scrub
     wChannelStates1x7.units = true ∧ k.st ≠ HcSt.off ∧ (k.st = HcSt.run ∨ k.st = HcSt.pdn) ∧ k.st = HcSt.run ∧
     (k.st = HcSt.wait ∨ k.st = HcSt.run) ∧ takes ∧ fixed ∧ bit cfg 31 = true ∧ bit wChannelStates1 31 = true ∧ fit = true ∧
     wChannelStates1x7.rdB Pg.MEM Off.MEM.MEM_CFG 29 = true ∧ wChannelStates1x7.rdB Pg.MEM Off.MEM.SCRUB_CTRL 31 = true ∧
     wChannelStates1x7.gateRows (Gate.mem 2) = [] ∧ 32 * i < here ∧ (32 * (i + 1) < here ∨ ¬others)) ∧
    (let k : Chan := wChannelStates2x7.chan 1
     let takes : Prop := k.st = HcSt.wait ∨ k.st = HcSt.train ∨ k.st = HcSt.run
     let cfg : W32 := wChannelStates2x7.rd Pg.HP Off.HP.HP_CFG
     let here : Nat := wChannelStates2x7.memTop / if wChannelStates2x7.fitted = 3 then 8 else 4
     let fit : Bool := wChannelStates2x7.chanFitted 0
     let mem : MemChan := wChannelStates2x7.memChans.getD 0 { }
     let i : Nat := mem.scrub
     let others : Prop := ∀ (x : Nat), x < 8 → x ≠ 0 → wChannelStates2x7.chanFitted x = true → here ≤ 32 * (wChannelStates2x7.memChans.getD x { }).scrub
     wChannelStates2x7.units = true ∧ ¬takes ∧ bit cfg 31 = false ∧ bit wChannelStates2 31 = true ∧
     wChannelStates2x7.power.cones.getLsbD 2 = true ∧ wChannelStates2x7.domainOn 39 = true ∧
     (∀ (c : Nat), c < 4 → (wChannelStates2x7.chan c).st = HcSt.off) ∧ fit = true ∧
     wChannelStates2x7.rdB Pg.MEM Off.MEM.MEM_CFG 29 = true ∧ wChannelStates2x7.rdB Pg.MEM Off.MEM.SCRUB_CTRL 31 = true ∧
     wChannelStates2x7.gateRows (Gate.mem 0) = [] ∧ 32 * i < here ∧ here ≤ 32 * (i + 1) ∧ others ∧ 0 < i ∧
     wChannelStates2x7.memPass.late = false ∧
     BitVec.toNat wChannelStates2x7.memPass.since + wChannelStates2x7.rdF Pg.MEM Off.MEM.SCRUB_CTRL 15 0 * 100000000 < BitVec.toNat wChannelStates2x7.rig.t) ∧
    (let k : Chan := wChannelStates3x7.chan 1
     let takes : Prop := k.st = HcSt.wait ∨ k.st = HcSt.train ∨ k.st = HcSt.run
     let vmr : Nat := wChannelStates3x7.rdF Pg.HP Off.HP.VMR_CFG 6 0
     let fixed : Prop := 5 ≤ (3#7).toNat ∧ (3#7).toNat ≤ 8 ∨ vmr ≤ (3#7).toNat ∧ (3#7).toNat < vmr + 4 ∨ 47 ≤ (3#7).toNat ∧ (3#7).toNat ≤ 54 ∨ (3#7).toNat ∈ [0, 4, 27, 35, 36, 38, 39, 43, 44, 45]
     let least : HcMode → Nat := fun h => [10, 14, 18, 20, 24, 27].getD h.rate.toNat 27
     wChannelStates3x7.units = true ∧ takes ∧ ¬fixed ∧
     (wChannelStates3x5.rl = 0 ∨ least wChannelStates3x5 ≤ BitVec.toNat wChannelStates3x5.rl) ∧ bit wChannelStates3 31 = false) ∧
    (let k : Chan := wChannelStates4.chan 1
     let takes : Prop := k.st = HcSt.wait ∨ k.st = HcSt.train ∨ k.st = HcSt.run
     wChannelStates4.units = true ∧ k.st = HcSt.train ∧ takes ∧ 5#7 = 5) ∧
    (gateS.units = true ∧ gateS.gateRows (Gate.mem 0) ≠ []) ∧
    (let k : Chan := wChannelStates6.chan 1
     wChannelStates6.units = true ∧ k.st = HcSt.pdn) ∧
    (let k : Chan := wChannelStates7.chan 1
     wChannelStates7.units = true ∧ k.st = HcSt.sref) ∧
    (let fit : Bool := wChannelStates8.chanFitted 6
     wChannelStates8.units = true ∧ fit = false) ∧
    (let k : Chan := wChannelStates9x7.chan 1
     let takes : Prop := k.st = HcSt.wait ∨ k.st = HcSt.train ∨ k.st = HcSt.run
     let vmr : Nat := wChannelStates9x7.rdF Pg.HP Off.HP.VMR_CFG 6 0
     let fixed : Prop := 5 ≤ (3#7).toNat ∧ (3#7).toNat ≤ 8 ∨ vmr ≤ (3#7).toNat ∧ (3#7).toNat < vmr + 4 ∨ 47 ≤ (3#7).toNat ∧ (3#7).toNat ≤ 54 ∨ (3#7).toNat ∈ [0, 4, 27, 35, 36, 38, 39, 43, 44, 45]
     let least : HcMode → Nat := fun h => [10, 14, 18, 20, 24, 27].getD h.rate.toNat 27
     wChannelStates9x7.units = true ∧ takes ∧ ¬fixed ∧ (k.mode.rl = 0 ∨ least k.mode ≤ BitVec.toNat k.mode.rl) ∧
     wChannelStates9.rl ≠ 0 ∧ BitVec.toNat wChannelStates9.rl < least wChannelStates9) ∧
    (let mem : MemChan := wChannelStates10.memChans.getD 0 { }
     wChannelStates10.units = true ∧
     (¬Option.all (fun x => decide (BitVec.toNat x + 10000000 ≤ BitVec.toNat wChannelStates10.rig.t)) mem.trackAt = true)) ∧
    (wChannelStates11.units = true ∧ wChannelStates11.rdB Pg.MEM Off.MEM.MEM_CFG 29 = false) := by
  iterate 10 refine And.intro (by decide +kernel) ?_
  decide +kernel

/-- States that meet the hypotheses of LinkStates, clause by clause. -/
theorem test_meets_LinkStates :
    (let k : LinkPort := wLinkStates1x6.link 3
     let pg : Nat := 177 + 3
     let cfg : W32 := wLinkStates1x6.rd pg Off.DL.DL_CFG
     let can : W32 → Prop := fun w => BitVec.getLsbD w 31 = true ∧ wLinkStates1x6.domainOn 38 = true ∧ wLinkStates1x6.power.fired = true ∧ ¬CalItem.link 3 ∈ wLinkStates1x6.power.failed
     let joined : Prop := k.st = LinkSt.up ∨ k.st = LinkSt.reneg
     let now : W64 := wLinkStates1x6.rig.t
     let quiescent : Nat := BitVec.toNat (wLinkStates1x6.rd pg Off.DL.LOSS_CTRL) % 2 ^ 16
     let quiet : Prop := k.replay = [] ∧ k.txq = [] ∧ k.fwd = [] ∧ wLinkStates1x6.links.wait = []
     wLinkStates1x6.units = true ∧ can cfg ∧ ¬joined ∧ k.st ≠ LinkSt.up ∧
     (k.st ≠ LinkSt.up ∨ BitVec.toNat now < BitVec.toNat k.lastFlit + quiescent) ∧ bit wLinkStates1 31 = false ∧ quiet ∧
     k.st ≠ LinkSt.training ∧ (k.st ≠ LinkSt.down ∨ now < k.retryAt ∨ ¬can cfg) ∧ k.st ≠ LinkSt.reneg) ∧
    (let k : LinkPort := wLinkStates2.link 3
     let joined : Prop := k.st = LinkSt.up ∨ k.st = LinkSt.reneg
     let quiet : Prop := k.replay = [] ∧ k.txq = [] ∧ k.fwd = [] ∧ wLinkStates2.links.wait = []
     let pg : Nat := 177 + 3
     let now : W64 := wLinkStates2.rig.t
     let quiescent : Nat := BitVec.toNat (wLinkStates2.rd pg Off.DL.LOSS_CTRL) % 2 ^ 16
     wLinkStates2.units = true ∧ k.st = LinkSt.up ∧ joined ∧ quiet ∧ BitVec.toNat k.lastFlit + quiescent ≤ BitVec.toNat now) ∧
    (let pg : Nat := 177 + 3
     let cfg : W32 := wLinkStates3x6.rd pg Off.DL.DL_CFG
     let can : W32 → Prop := fun w => BitVec.getLsbD w 31 = true ∧ wLinkStates3x6.domainOn 38 = true ∧ wLinkStates3x6.power.fired = true ∧ ¬CalItem.link 3 ∈ wLinkStates3x6.power.failed
     let k : LinkPort := wLinkStates3x6.link 3
     let reserved : Prop := fld wLinkStates3 30 29 = 0 ∨ fld wLinkStates3 30 29 = 3 ∨ fld wLinkStates3 28 27 = 3
     wLinkStates3x6.units = true ∧ (¬can cfg) ∧ k.st = LinkSt.off ∧ ¬reserved ∧ can wLinkStates3) ∧
    (let k : LinkPort := wLinkStates4x6.link 3
     let joined : Prop := k.st = LinkSt.up ∨ k.st = LinkSt.reneg
     let first : Option Nat := wLinkStates4x6.nextLinkMode (3) far k.mode
     wLinkStates4x6.units = true ∧ (joined ∨ k.st = LinkSt.training) ∧ bit wLinkStates3 31 = true ∧ k.st = LinkSt.training ∧
     first = some 1 ∧ (Option.any (fun j => decide True) (wLinkStates4x6.nextLinkMode (3) far (1 + 1)) = true)) ∧
    (let k : LinkPort := wLinkStates5.link 3
     let pg : Nat := 177 + 3
     let now : W64 := wLinkStates5.rig.t
     let cfg : W32 := wLinkStates5.rd pg Off.DL.DL_CFG
     let can : W32 → Prop := fun w => BitVec.getLsbD w 31 = true ∧ wLinkStates5.domainOn 38 = true ∧ wLinkStates5.power.fired = true ∧ ¬CalItem.link 3 ∈ wLinkStates5.power.failed
     wLinkStates5.units = true ∧ k.st = LinkSt.down ∧ k.retryAt ≤ now ∧ can cfg) ∧
    (let k : LinkPort := wLinkStates6x6.link 3
     let joined : Prop := k.st = LinkSt.up ∨ k.st = LinkSt.reneg
     let reserved : Prop := fld wLinkStates6 30 29 = 0 ∨ fld wLinkStates6 30 29 = 3 ∨ fld wLinkStates6 28 27 = 3
     wLinkStates6x6.units = true ∧ bit wLinkStates6 31 = true ∧ (¬(joined ∨ k.st = LinkSt.training)) ∧ reserved) ∧
    (let k : LinkPort := wLinkStates7.link 3
     let first : Option Nat := wLinkStates7.nextLinkMode (3) far k.mode
     wLinkStates7.units = true ∧ k.st = LinkSt.training ∧ first = some 8 ∧ wLinkStates7.nextLinkMode (3) far (8 + 1) = none) ∧
    (let k : LinkPort := wLinkStates7.link 3
     let first : Option Nat := wLinkStates7.nextLinkMode (3) wLinkStates8 k.mode
     wLinkStates7.units = true ∧ k.st = LinkSt.training ∧ first = none) ∧
    (let k : LinkPort := wLinkStates9.link 3
     let first : Option Nat := wLinkStates9.nextLinkMode (3) far k.mode
     wLinkStates9.units = true ∧ k.st = LinkSt.training ∧ first = some 1 ∧ wLinkStates9.rdB Pg.LNK Off.LNK.LNK_CFG 31 = false ∧
     wLinkStates9.links.wait = [] ∧ 1 ≠ 0) ∧
    (let k : LinkPort := wLinkStates10.link 3
     wLinkStates10.units = true ∧ k.st = LinkSt.reneg ∧ wLinkStates10.rdB Pg.LNK Off.LNK.LNK_CFG 31 = false ∧
     wLinkStates10.links.wait = [] ∧ k.txq = [] ∧ k.replay.length < 512) := by
  iterate 9 refine And.intro (by decide +kernel) ?_
  decide +kernel

/-- States that meet the hypotheses of LinkTraffic, clause by clause. -/
theorem test_meets_LinkTraffic :
    (let k : LinkPort := wLinkTraffic1.link 3
     let pg : Nat := 177 + 3
     let left : List TxFlit := List.filter (fun f => decide ((f.seq - fh.fack).toNat < 2048)) k.replay
     let now : W64 := wLinkTraffic1.rig.t
     wLinkTraffic1.units = true ∧ (wLinkTraffic1.link 3).txq = [] ∧ k.st = LinkSt.up ∧ fh.fseq = k.rxNext ∧
     (k.st = LinkSt.up ∨ k.st = LinkSt.reneg) ∧ wLinkTraffic1.ue = [] ∧
     (∀ (f : TxFlit), f ∈ left → f.replays + 1 < wLinkTraffic1.rdF pg Off.DL.LOSS_CTRL 31 24) ∧
     wLinkTraffic1.rdB Pg.LCH Off.LCH.TIME_CTRL 31 = true ∧
     (∀ (f : Nat), k.markFrom = some f → mkr.lastDepart < f ∨ k.markSent < mkr.lastDepart) ∧
     wLinkTraffic1.rdB Pg.LNK Off.LNK.LNK_CFG 31 = true ∧ wLinkTraffic1.mgmt.run ≠ McRun.restarting ∧ k.replay.length ≤ 508 ∧
     BitVec.toNat wLinkTraffic1.links.lastChange + 2000000 ≤ BitVec.toNat now) ∧
    (let k : LinkPort := wLinkStates5.link 3
     wLinkStates5.units = true ∧ (wLinkStates5.link 3).txq = [] ∧ k.st ≠ LinkSt.up ∧ k.st ≠ LinkSt.reneg ∧
     (0#9).toNat = wLinkStates5.devId) ∧
    (let k : LinkPort := wLinkTraffic3.link 3
     wLinkTraffic3.units = true ∧ (wLinkTraffic3.link 3).txq = [] ∧ k.st = LinkSt.up ∧ fh.fseq ≠ k.rxNext ∧
     (9#9).toNat ≠ wLinkTraffic3.devId ∧ wLinkTraffic3.rdB Pg.LNK Off.LNK.LNK_CFG 31 = false ∧ wLinkTraffic3.links.wait = []) ∧
    (let now : W64 := wLinkTraffic4.rig.t
     wLinkTraffic4.units = true ∧ (wLinkTraffic4.link 3).txq = [] ∧
     BitVec.toNat now < BitVec.toNat wLinkTraffic4.links.lastChange + 2000000) := by
  iterate 3 refine And.intro (by decide +kernel) ?_
  decide +kernel

/-- States that meet the hypotheses of StreamMessages, clause by clause. -/
theorem test_meets_StreamMessages :
    (let k : LinkPort := ul.link 3
     let o : Nat := wm.src.toNat
     let i : InStream := ul.inStream o
     let joined : Prop := k.st = LinkSt.up ∨ k.st = LinkSt.reneg
     let comes : MsgOp → Prop := fun op => joined ∧ wm.op = op ∧ msgLenOk wm = true ∧ wm.dst.toNat = ul.devId
     let ready : MsgOp → Prop := fun op => comes op ∧ wm.seq = i.expect ∧ i.queue = []
     let a : Nat := wm.addr.toNat
     let n : Nat := wm.data.length
     let inside : Prop := ul.regionOf a (max 1 n) = some Region.lpddr
     ul.units = true ∧ ul.ue = [] ∧ ul.ce = [] ∧ ready MsgOp.wrMem ∧ inside) ∧
    (let k : LinkPort := wStreamMessages2.link 3
     let o : Nat := xo.src.toNat
     let i : InStream := wStreamMessages2.inStream o
     let joined : Prop := k.st = LinkSt.up ∨ k.st = LinkSt.reneg
     let comes : MsgOp → Prop := fun op => joined ∧ xo.op = op ∧ msgLenOk xo = true ∧ xo.dst.toNat = wStreamMessages2.devId
     let ready : MsgOp → Prop := fun op => comes op ∧ xo.seq = i.expect ∧ i.queue = []
     let a : Nat := xo.addr.toNat
     let c : Nat := (a - 274877906944) / 4194304
     let onCore : Prop := 274877906944 ≤ a ∧ a < 274877906944 + 32 * 4194304
     wStreamMessages2.units = true ∧ wStreamMessages2.ue = [] ∧ wStreamMessages2.ce = [] ∧ ready MsgOp.xferOpen ∧ onCore ∧
     ((wStreamMessages2.core c).st = CoreSt.idle ∨ (wStreamMessages2.core c).st = CoreSt.run) ∧
     (wStreamMessages2.core c).windowFor xo.quanta = some 2 ∧ xo.quanta ≠ []) ∧
    (let k : LinkPort := wStreamMessages3.link 3
     let o : Nat := xo.src.toNat
     let i : InStream := wStreamMessages3.inStream o
     let joined : Prop := k.st = LinkSt.up ∨ k.st = LinkSt.reneg
     let comes : MsgOp → Prop := fun op => joined ∧ xo.op = op ∧ msgLenOk xo = true ∧ xo.dst.toNat = wStreamMessages3.devId
     let ready : MsgOp → Prop := fun op => comes op ∧ xo.seq = i.expect ∧ i.queue = []
     let a : Nat := xo.addr.toNat
     let c : Nat := (a - 274877906944) / 4194304
     let onCore : Prop := 274877906944 ≤ a ∧ a < 274877906944 + 32 * 4194304
     wStreamMessages3.units = true ∧ wStreamMessages3.ue = [] ∧ wStreamMessages3.ce = [] ∧ ready MsgOp.xferOpen ∧ onCore ∧
     ((wStreamMessages3.core c).st = CoreSt.idle ∨ (wStreamMessages3.core c).st = CoreSt.run) ∧
     (wStreamMessages3.core c).windowFor xo.quanta = none ∧ wStreamMessages3.domainOn c = true) ∧
    (let k : LinkPort := wStreamMessages4.link 3
     let o : Nat := wmq.src.toNat
     let i : InStream := wStreamMessages4.inStream o
     let joined : Prop := k.st = LinkSt.up ∨ k.st = LinkSt.reneg
     let comes : MsgOp → Prop := fun op => joined ∧ wmq.op = op ∧ msgLenOk wmq = true ∧ wmq.dst.toNat = wStreamMessages4.devId
     wStreamMessages4.units = true ∧ wStreamMessages4.ue = [] ∧ wStreamMessages4.ce = [] ∧ comes MsgOp.wrMem ∧ wmq.seq ≠ i.expect ∧
     BitVec.toNat (i.expect - wmq.seq) < 32768) ∧
    (let k : LinkPort := ul.link 3
     let o : Nat := wStreamMessages5.src.toNat
     let i : InStream := ul.inStream o
     let joined : Prop := k.st = LinkSt.up ∨ k.st = LinkSt.reneg
     let comes : MsgOp → Prop := fun op => joined ∧ wStreamMessages5.op = op ∧ msgLenOk wStreamMessages5 = true ∧ wStreamMessages5.dst.toNat = ul.devId
     ul.units = true ∧ ul.ue = [] ∧ ul.ce = [] ∧ comes MsgOp.wrMem ∧ 32768 ≤ BitVec.toNat (i.expect - wStreamMessages5.seq)) ∧
    (let k : LinkPort := wStreamMessages6.link 3
     let o : Nat := rq.src.toNat
     let i : InStream := wStreamMessages6.inStream o
     let joined : Prop := k.st = LinkSt.up ∨ k.st = LinkSt.reneg
     let comes : MsgOp → Prop := fun op => joined ∧ rq.op = op ∧ msgLenOk rq = true ∧ rq.dst.toNat = wStreamMessages6.devId
     let ready : MsgOp → Prop := fun op => comes op ∧ rq.seq = i.expect ∧ i.queue = []
     let a : Nat := rq.addr.toNat
     wStreamMessages6.units = true ∧ wStreamMessages6.ue = [] ∧ wStreamMessages6.ce = [] ∧ ready MsgOp.rdReq ∧
     wStreamMessages6.regionOf a (rq.bytes.toNat + 1) = some Region.lpddr) ∧
    (let k : LinkPort := ul.link 3
     let o : Nat := wStreamMessages7.src.toNat
     let i : InStream := ul.inStream o
     let joined : Prop := k.st = LinkSt.up ∨ k.st = LinkSt.reneg
     let comes : MsgOp → Prop := fun op => joined ∧ wStreamMessages7.op = op ∧ msgLenOk wStreamMessages7 = true ∧ wStreamMessages7.dst.toNat = ul.devId
     let ready : MsgOp → Prop := fun op => comes op ∧ wStreamMessages7.seq = i.expect ∧ i.queue = []
     let a : Nat := wStreamMessages7.addr.toNat
     let n : Nat := wStreamMessages7.data.length
     let inside : Prop := ul.regionOf a (max 1 n) = some Region.lpddr
     ul.units = true ∧ ul.ue = [] ∧ ul.ce = [] ∧ ready MsgOp.wrTally ∧ 2 ≤ k.level ∧ inside) ∧
    (let k : LinkPort := ul.link 3
     let joined : Prop := k.st = LinkSt.up ∨ k.st = LinkSt.reneg
     let all : List Instr := [Instr.rdReq 3 wStreamMessages8, Instr.rdRsp 3 wStreamMessages8, Instr.wrMem 3 wStreamMessages8, Instr.xferOpen 3 wStreamMessages8, Instr.wrSp 3 wStreamMessages8, Instr.tallySet 3 wStreamMessages8, Instr.tallyAdd 3 wStreamMessages8, Instr.job 3 wStreamMessages8, Instr.jobRsp 3 wStreamMessages8, Instr.recMsg 3 wStreamMessages8, Instr.wrTally 3 wStreamMessages8, Instr.prune 3 wStreamMessages8, Instr.rejoin 3 wStreamMessages8, Instr.ack 3 wStreamMessages8, Instr.nak 3 wStreamMessages8, Instr.hello 3 wStreamMessages8, Instr.routeAdv 3 wStreamMessages8]
     ul.units = true ∧ ul.ue = [] ∧ ul.ce = [] ∧ joined ∧ (∃ b, wStreamMessages8.op = MsgOp.reserved b) ∧
     ((all.any fun x => decide True) = true)) ∧
    (let k : LinkPort := ul.link 3
     let o : Nat := wStreamMessages9.src.toNat
     let i : InStream := ul.inStream o
     let joined : Prop := k.st = LinkSt.up ∨ k.st = LinkSt.reneg
     let comes : MsgOp → Prop := fun op => joined ∧ wStreamMessages9.op = op ∧ msgLenOk wStreamMessages9 = true ∧ wStreamMessages9.dst.toNat = ul.devId
     let ready : MsgOp → Prop := fun op => comes op ∧ wStreamMessages9.seq = i.expect ∧ i.queue = []
     let a : Nat := wStreamMessages9.addr.toNat
     ul.units = true ∧ ul.ue = [] ∧ ul.ce = [] ∧ ul.tallyRefused TallySrc.link (a % 16384) = false ∧ ready MsgOp.tallySet) ∧
    (let k : LinkPort := ul.link 3
     let o : Nat := wStreamMessages10.src.toNat
     let i : InStream := ul.inStream o
     let joined : Prop := k.st = LinkSt.up ∨ k.st = LinkSt.reneg
     let comes : MsgOp → Prop := fun op => joined ∧ wStreamMessages10.op = op ∧ msgLenOk wStreamMessages10 = true ∧ wStreamMessages10.dst.toNat = ul.devId
     let ready : MsgOp → Prop := fun op => comes op ∧ wStreamMessages10.seq = i.expect ∧ i.queue = []
     let a : Nat := wStreamMessages10.addr.toNat
     ul.units = true ∧ ul.ue = [] ∧ ul.ce = [] ∧ ul.tallyRefused TallySrc.link (a % 16384) = false ∧ ready MsgOp.tallyAdd) ∧
    (let k : LinkPort := wStreamMessages6.link 3
     let o : Nat := wStreamMessages11.src.toNat
     let i : InStream := wStreamMessages6.inStream o
     let joined : Prop := k.st = LinkSt.up ∨ k.st = LinkSt.reneg
     let comes : MsgOp → Prop := fun op => joined ∧ wStreamMessages11.op = op ∧ msgLenOk wStreamMessages11 = true ∧ wStreamMessages11.dst.toNat = wStreamMessages6.devId
     let ready : MsgOp → Prop := fun op => comes op ∧ wStreamMessages11.seq = i.expect ∧ i.queue = []
     let a : Nat := wStreamMessages11.addr.toNat
     wStreamMessages6.units = true ∧ wStreamMessages6.ue = [] ∧ wStreamMessages6.ce = [] ∧ ready MsgOp.rdReq ∧
     wStreamMessages6.regionOf a (wStreamMessages11.bytes.toNat + 1) ≠ some Region.lpddr ∧
     wStreamMessages6.egress o = some (3, false) ∧ 3 < 8) ∧
    (let l := vLanding1
     let k : LinkPort := wStreamMessages12.link 3
     let o : Nat := ws.src.toNat
     let i : InStream := wStreamMessages12.inStream o
     let joined : Prop := k.st = LinkSt.up ∨ k.st = LinkSt.reneg
     let comes : MsgOp → Prop := fun op => joined ∧ ws.op = op ∧ msgLenOk ws = true ∧ ws.dst.toNat = wStreamMessages12.devId
     let ready : MsgOp → Prop := fun op => comes op ∧ ws.seq = i.expect ∧ i.queue = []
     let a : Nat := ws.addr.toNat
     let n : Nat := ws.data.length
     let c : Nat := (a - 274877906944) / 4194304
     let onCore : Prop := 274877906944 ≤ a ∧ a < 274877906944 + 32 * 4194304
     wStreamMessages12.units = true ∧ wStreamMessages12.ue = [] ∧ wStreamMessages12.ce = [] ∧ ready MsgOp.wrSp ∧ onCore ∧
     ((wStreamMessages12.core c).wins.getD 2 { }).landing = [l] ∧ l.src = LandSrc.remote o ws.core.toNat ws.xfer.toNat 3#16 ∧
     (∀ (x : Nat), x < 8 → x ≠ 2 → ((wStreamMessages12.core c).wins.getD x { }).landing = []) ∧ n < l.rows) ∧
    (let k : LinkPort := ul.link 3
     let o : Nat := wStreamMessages13.src.toNat
     let i : InStream := ul.inStream o
     let joined : Prop := k.st = LinkSt.up ∨ k.st = LinkSt.reneg
     let comes : MsgOp → Prop := fun op => joined ∧ wStreamMessages13.op = op ∧ msgLenOk wStreamMessages13 = true ∧ wStreamMessages13.dst.toNat = ul.devId
     let ready : MsgOp → Prop := fun op => comes op ∧ wStreamMessages13.seq = i.expect ∧ i.queue = []
     let tl : Nat := BitVec.toNat wStreamMessages13.value % 16384
     ul.units = true ∧ ul.ue = [] ∧ ul.ce = [] ∧ ready MsgOp.prune ∧ 2 ≤ k.level ∧ (none ∈ ul.miss ∨ ul.missOf tl ≠ none) ∧
     (∀ (c' : Fin 32), (ul.core ↑c').waiters tl = []) ∧ ul.missOf tl = none) ∧
    (let h := vHeldMsg1
     let e := vQEntry2
     let k : LinkPort := wStreamMessages14.link 3
     let o : Nat := rr.src.toNat
     let joined : Prop := k.st = LinkSt.up ∨ k.st = LinkSt.reneg
     let comes : MsgOp → Prop := fun op => joined ∧ rr.op = op ∧ msgLenOk rr = true ∧ rr.dst.toNat = wStreamMessages14.devId
     let idle : Prop := ∀ (x : Nat × OutStream), x ∈ wStreamMessages14.links.out → x.snd.wait = []
     wStreamMessages14.units = true ∧ wStreamMessages14.ue = [] ∧ wStreamMessages14.ce = [] ∧ idle ∧ comes MsgOp.rdRsp ∧
     rr.status = 0 ∧ (wStreamMessages14.outStream o).held = [h] ∧ h.msg.op = MsgOp.rdReq ∧ h.msg.seq = rr.seq ∧
     (wStreamMessages14.core h.core).fq = [e] ∧ e.key = h.entry ∧ e.noUpd = false) ∧
    (let k : LinkPort := wStreamMessages15x2.link 3
     let joined : Prop := k.st = LinkSt.up ∨ k.st = LinkSt.reneg
     let comes : MsgOp → Prop := fun op => joined ∧ wStreamMessages7.op = op ∧ msgLenOk wStreamMessages7 = true ∧ wStreamMessages7.dst.toNat = wStreamMessages15x2.devId
     wStreamMessages15x2.units = true ∧ wStreamMessages15x2.ue = [] ∧ wStreamMessages15x2.ce = [] ∧ comes MsgOp.wrTally ∧
     k.level < 2) ∧
    (let k : LinkPort := wStreamMessages16x2.link 3
     let o : Nat := wStreamMessages16.src.toNat
     let i : InStream := wStreamMessages16x2.inStream o
     let joined : Prop := k.st = LinkSt.up ∨ k.st = LinkSt.reneg
     let comes : MsgOp → Prop := fun op => joined ∧ wStreamMessages16.op = op ∧ msgLenOk wStreamMessages16 = true ∧ wStreamMessages16.dst.toNat = wStreamMessages16x2.devId
     let ready : MsgOp → Prop := fun op => comes op ∧ wStreamMessages16.seq = i.expect ∧ i.queue = []
     let a : Nat := wStreamMessages16.addr.toNat
     wStreamMessages16x2.units = true ∧ wStreamMessages16x2.ue = [] ∧ wStreamMessages16x2.ce = [] ∧
     wStreamMessages16x2.tallyRefused TallySrc.link (a % 16384) = true ∧ ready MsgOp.tallySet) ∧
    (let k : LinkPort := wStreamMessages17x2.link 3
     let joined : Prop := k.st = LinkSt.up ∨ k.st = LinkSt.reneg
     let all : List Instr := [Instr.rdReq 3 wStreamMessages8, Instr.rdRsp 3 wStreamMessages8, Instr.wrMem 3 wStreamMessages8, Instr.xferOpen 3 wStreamMessages8, Instr.wrSp 3 wStreamMessages8, Instr.tallySet 3 wStreamMessages8, Instr.tallyAdd 3 wStreamMessages8, Instr.job 3 wStreamMessages8, Instr.jobRsp 3 wStreamMessages8, Instr.recMsg 3 wStreamMessages8, Instr.wrTally 3 wStreamMessages8, Instr.prune 3 wStreamMessages8, Instr.rejoin 3 wStreamMessages8, Instr.ack 3 wStreamMessages8, Instr.nak 3 wStreamMessages8, Instr.hello 3 wStreamMessages8, Instr.routeAdv 3 wStreamMessages8]
     wStreamMessages17x2.units = true ∧ wStreamMessages17x2.ue = [] ∧ wStreamMessages17x2.ce = [] ∧ ¬joined ∧
     ((all.any fun x => decide True) = true)) ∧
    (let k : LinkPort := wStreamMessages18.link 3
     let o : Nat := rr.src.toNat
     let joined : Prop := k.st = LinkSt.up ∨ k.st = LinkSt.reneg
     let comes : MsgOp → Prop := fun op => joined ∧ rr.op = op ∧ msgLenOk rr = true ∧ rr.dst.toNat = wStreamMessages18.devId
     wStreamMessages18.units = true ∧ wStreamMessages18.ue = [] ∧ wStreamMessages18.ce = [] ∧ comes MsgOp.rdRsp ∧
     (wStreamMessages18.outStream o).held = []) ∧
    (let k : LinkPort := wStreamMessages19x2.link 3
     let o : Nat := wStreamMessages19.src.toNat
     let i : InStream := wStreamMessages19x2.inStream o
     let joined : Prop := k.st = LinkSt.up ∨ k.st = LinkSt.reneg
     let comes : MsgOp → Prop := fun op => joined ∧ wStreamMessages19.op = op ∧ msgLenOk wStreamMessages19 = true ∧ wStreamMessages19.dst.toNat = wStreamMessages19x2.devId
     let ready : MsgOp → Prop := fun op => comes op ∧ wStreamMessages19.seq = i.expect ∧ i.queue = []
     wStreamMessages19x2.units = true ∧ wStreamMessages19x2.ue = [] ∧ wStreamMessages19x2.ce = [] ∧ ready MsgOp.rejoin ∧
     2 ≤ k.level) := by
  iterate 18 refine And.intro (by decide +kernel) ?_
  decide +kernel

/-- States that meet the hypotheses of Delivery, clause by clause. -/
theorem test_meets_Delivery :
    (let v : Nat := (9#9).toNat
     let now : W64 := wDelivery1x3.rig.t
     let resend : Nat := wDelivery1x3.rdF Pg.LNK Off.LNK.E2E_CTRL 15 0
     let limit : Nat := wDelivery1x3.rdF Pg.LNK Off.LNK.E2E_CTRL 31 16
     let noEntries : Prop := ∀ (c : Fin 32), (wDelivery1x3.core ↑c).fq = [] ∧ (wDelivery1x3.core ↑c).xq = [] ∧ (wDelivery1x3.core ↑c).wq = []
     let k : LinkPort := wDelivery1x3.link 3
     let o : Nat := wDelivery1.src.toNat
     let joined : Prop := k.st = LinkSt.up ∨ k.st = LinkSt.reneg
     wDelivery1x3.units = true ∧ wDelivery1x3.ue = [] ∧ wDelivery1x3.rdB Pg.LNK Off.LNK.LNK_CFG 31 = false ∧
     wDelivery1x3.links.wait = [] ∧ (∀ (x : Nat × OutStream), x ∈ wDelivery1x3.links.out → x.snd.wait = []) ∧
     (∀ (h : HeldMsg), h ∈ (wDelivery1x3.outStream v).held → h.left = false ∨ BitVec.toNat now < BitVec.toNat h.last + resend) ∧
     (∀ (h : HeldMsg), h ∈ (wDelivery1x3.outStream v).held → BitVec.toNat now < BitVec.toNat h.first + limit) ∧ noEntries ∧
     (wDelivery1x3.inStream v).owed = false ∧ joined ∧ wDelivery1.op = MsgOp.hello ∧ msgLenOk wDelivery1 = true ∧
     o ≠ wDelivery1x3.devId ∧ wDelivery1.dst.toNat = wDelivery1x3.devId) ∧
    (let k : LinkPort := wDelivery2.link 3
     let joined : Prop := k.st = LinkSt.up ∨ k.st = LinkSt.reneg
     let passes : Prop := joined ∧ pm.dst.toNat ≠ wDelivery2.devId ∧ pm.op ≠ MsgOp.hello ∧ pm.op ≠ MsgOp.routeAdv ∧ (∀ (b : Byte), pm.op ≠ MsgOp.reserved b) ∧ msgLenOk pm = true ∧ 2 ≤ k.level
     wDelivery2.units = true ∧ wDelivery2.ue = [] ∧ wDelivery2.rdB Pg.LNK Off.LNK.LNK_CFG 31 = false ∧ wDelivery2.links.wait = [] ∧
     (∀ (x : Nat × OutStream), x ∈ wDelivery2.links.out → x.snd.wait = []) ∧ passes ∧ pm.hop ≠ 15 ∧
     wDelivery2.egress pm.dst.toNat = some (3, false) ∧
     wDelivery2.gateRows (Gate.dl 3) = [{ keys := [0, 0, 0, 0, 8589934592], work := GateWork.pass (3) pm }]) ∧
    (let h'' := vHeldMsg2
     let k : LinkPort := wDelivery3x3.link 3
     let o : Nat := wDelivery3.src.toNat
     let joined : Prop := k.st = LinkSt.up ∨ k.st = LinkSt.reneg
     let comes : MsgOp → Prop := fun op => joined ∧ wDelivery3.op = op ∧ msgLenOk wDelivery3 = true ∧ wDelivery3.dst.toNat = wDelivery3x3.devId
     let h := vHeldMsg2
     let v : Nat := (9#9).toNat
     let now : W64 := wDelivery3x3.rig.t
     let limit : Nat := wDelivery3x3.rdF Pg.LNK Off.LNK.E2E_CTRL 31 16
     let noEntries : Prop := ∀ (c : Fin 32), (wDelivery3x3.core ↑c).fq = [] ∧ (wDelivery3x3.core ↑c).xq = [] ∧ (wDelivery3x3.core ↑c).wq = []
     wDelivery3x3.units = true ∧ wDelivery3x3.ue = [] ∧ wDelivery3x3.rdB Pg.LNK Off.LNK.LNK_CFG 31 = false ∧
     wDelivery3x3.links.wait = [] ∧ (∀ (x : Nat × OutStream), x ∈ wDelivery3x3.links.out → x.snd.wait = []) ∧ comes MsgOp.nak ∧
     (wDelivery3x3.outStream o).held = [h''] ∧ wDelivery3x3.waitsToLeave h''.msg = false ∧ (wDelivery3x3.outStream v).held = [h] ∧
     BitVec.toNat h.first + limit ≤ BitVec.toNat now ∧ h.msg.op ≠ MsgOp.recMsg ∧ wDelivery3x3.jobs = [] ∧ noEntries ∧ 32 ≤ h.core) ∧
    (let k : LinkPort := wDelivery1x3.link 3
     let o : Nat := wDelivery4.src.toNat
     let joined : Prop := k.st = LinkSt.up ∨ k.st = LinkSt.reneg
     wDelivery1x3.units = true ∧ wDelivery1x3.ue = [] ∧ wDelivery1x3.rdB Pg.LNK Off.LNK.LNK_CFG 31 = false ∧
     wDelivery1x3.links.wait = [] ∧ (∀ (x : Nat × OutStream), x ∈ wDelivery1x3.links.out → x.snd.wait = []) ∧ joined ∧
     wDelivery4.op = MsgOp.hello ∧ msgLenOk wDelivery4 = true ∧ o = wDelivery1x3.devId) ∧
    (let h' := vHeldMsg3
     let v : Nat := (9#9).toNat
     let now : W64 := wDelivery5.rig.t
     let resend : Nat := wDelivery5.rdF Pg.LNK Off.LNK.E2E_CTRL 15 0
     wDelivery5.units = true ∧ wDelivery5.ue = [] ∧ wDelivery5.rdB Pg.LNK Off.LNK.LNK_CFG 31 = false ∧ wDelivery5.links.wait = [] ∧
     (∀ (x : Nat × OutStream), x ∈ wDelivery5.links.out → x.snd.wait = []) ∧ (wDelivery5.outStream v).held = [h'] ∧
     wDelivery5.waitsToLeave h'.msg = false ∧ h'.left = true ∧ BitVec.toNat h'.last + resend ≤ BitVec.toNat now) ∧
    (let h''' := vHeldMsg4
     let it := vItem1
     let k : LinkPort := wDelivery6x3.link 3
     let o : Nat := wDelivery6.src.toNat
     let joined : Prop := k.st = LinkSt.up ∨ k.st = LinkSt.reneg
     let comes : MsgOp → Prop := fun op => joined ∧ wDelivery6.op = op ∧ msgLenOk wDelivery6 = true ∧ wDelivery6.dst.toNat = wDelivery6x3.devId
     let noEntries : Prop := ∀ (c : Fin 32), (wDelivery6x3.core ↑c).fq = [] ∧ (wDelivery6x3.core ↑c).xq = [] ∧ (wDelivery6x3.core ↑c).wq = []
     let covered : HeldMsg → Prop := fun h => h.msg.op ≠ MsgOp.rdReq ∧ (wDelivery6.seq - h.msg.seq).toNat < 32768
     wDelivery6x3.units = true ∧ wDelivery6x3.ue = [] ∧ wDelivery6x3.rdB Pg.LNK Off.LNK.LNK_CFG 31 = false ∧
     wDelivery6x3.links.wait = [] ∧ (∀ (x : Nat × OutStream), x ∈ wDelivery6x3.links.out → x.snd.wait = []) ∧ comes MsgOp.ack ∧
     wDelivery6.status = 32 ∧ (wDelivery6x3.outStream o).held = [h'''] ∧ covered h''' ∧ h'''.msg.seq = wDelivery6.seq ∧
     (h'''.msg.op = MsgOp.wrMem ∨ h'''.msg.op = MsgOp.wrSp) ∧ h'''.core < 32 ∧ noEntries ∧ (wDelivery6x3.core h'''.core).items = [it] ∧
     it.key = h'''.item ∧ it.fail = none) ∧
    (let k : LinkPort := wDelivery1x3.link 3
     let joined : Prop := k.st = LinkSt.up ∨ k.st = LinkSt.reneg
     let passes : Prop := joined ∧ wDelivery7.dst.toNat ≠ wDelivery1x3.devId ∧ wDelivery7.op ≠ MsgOp.hello ∧ wDelivery7.op ≠ MsgOp.routeAdv ∧ (∀ (b : Byte), wDelivery7.op ≠ MsgOp.reserved b) ∧ msgLenOk wDelivery7 = true ∧ 2 ≤ k.level
     wDelivery1x3.units = true ∧ wDelivery1x3.ue = [] ∧ wDelivery1x3.rdB Pg.LNK Off.LNK.LNK_CFG 31 = false ∧
     wDelivery1x3.links.wait = [] ∧ (∀ (x : Nat × OutStream), x ∈ wDelivery1x3.links.out → x.snd.wait = []) ∧ passes ∧
     wDelivery7.hop = 15) ∧
    (let k : LinkPort := wDelivery1x3.link 3
     let joined : Prop := k.st = LinkSt.up ∨ k.st = LinkSt.reneg
     let passes : Prop := joined ∧ wDelivery8.dst.toNat ≠ wDelivery1x3.devId ∧ wDelivery8.op ≠ MsgOp.hello ∧ wDelivery8.op ≠ MsgOp.routeAdv ∧ (∀ (b : Byte), wDelivery8.op ≠ MsgOp.reserved b) ∧ msgLenOk wDelivery8 = true ∧ 2 ≤ k.level
     wDelivery1x3.units = true ∧ wDelivery1x3.ue = [] ∧ wDelivery1x3.rdB Pg.LNK Off.LNK.LNK_CFG 31 = false ∧
     wDelivery1x3.links.wait = [] ∧ (∀ (x : Nat × OutStream), x ∈ wDelivery1x3.links.out → x.snd.wait = []) ∧ passes ∧
     wDelivery8.hop ≠ 15 ∧ wDelivery1x3.egress wDelivery8.dst.toNat = none) ∧
    (let k : LinkPort := wDelivery9x3.link 3
     let joined : Prop := k.st = LinkSt.up ∨ k.st = LinkSt.reneg
     let comes : MsgOp → Prop := fun op => joined ∧ wDelivery9.op = op ∧ msgLenOk wDelivery9 = true ∧ wDelivery9.dst.toNat = wDelivery9x3.devId
     wDelivery9x3.units = true ∧ wDelivery9x3.ue = [] ∧ wDelivery9x3.rdB Pg.LNK Off.LNK.LNK_CFG 31 = false ∧
     wDelivery9x3.links.wait = [] ∧ (∀ (x : Nat × OutStream), x ∈ wDelivery9x3.links.out → x.snd.wait = []) ∧ comes MsgOp.ack ∧
     wDelivery9.status = 0) ∧
    (let k : LinkPort := wDelivery10x3.link 3
     let joined : Prop := k.st = LinkSt.up ∨ k.st = LinkSt.reneg
     wDelivery10x3.units = true ∧ wDelivery10x3.ue = [] ∧ wDelivery10x3.rdB Pg.LNK Off.LNK.LNK_CFG 31 = false ∧
     wDelivery10x3.links.wait = [] ∧ (∀ (x : Nat × OutStream), x ∈ wDelivery10x3.links.out → x.snd.wait = []) ∧ joined ∧
     wDelivery10.op = MsgOp.routeAdv ∧ msgLenOk wDelivery10 = true) ∧
    (let v : Nat := (9#9).toNat
     wDelivery11.units = true ∧ wDelivery11.ue = [] ∧ wDelivery11.rdB Pg.LNK Off.LNK.LNK_CFG 31 = false ∧
     wDelivery11.links.wait = [] ∧ (∀ (x : Nat × OutStream), x ∈ wDelivery11.links.out → x.snd.wait = []) ∧
     (wDelivery11.inStream v).owed = true) := by
  iterate 10 refine And.intro (by decide +kernel) ?_
  decide +kernel

/-- States that meet the hypotheses of RemoteJobs, clause by clause. -/
theorem test_meets_RemoteJobs :
    (let k : LinkPort := wRemoteJobs1x9.link 3
     let o : Nat := rsp.src.toNat
     let i : InStream := wRemoteJobs1x9.inStream o
     let ready : MsgOp → Prop := fun op => (k.st = LinkSt.up ∨ k.st = LinkSt.reneg) ∧ rsp.op = op ∧ msgLenOk rsp = true ∧ rsp.dst.toNat = wRemoteJobs1x9.devId ∧ rsp.seq = i.expect ∧ i.queue = []
     let now : W64 := wRemoteJobs1x9.rig.t
     let limit : Nat := wRemoteJobs1x9.rdF Pg.LNK Off.LNK.E2E_CTRL 31 16
     wRemoteJobs1x9.units = true ∧ wRemoteJobs1x9.ue = [] ∧ wRemoteJobs1x9.jobs = [j2] ∧ j2.ph = JobPh.checking ∧
     j2.members = [wRemoteJobs1, wRemoteJobs1x6] ∧ wRemoteJobs1.answer = none ∧ wRemoteJobs1x6.answer = none ∧
     wRemoteJobs1.dev ≠ wRemoteJobs1x6.dev ∧ ready MsgOp.jobRsp ∧ BitVec.toNat rsp.value = j2.key ∧ wRemoteJobs1.dev = o ∧
     wRemoteJobs1.unit = rsp.addr.toNat / 2 ^ 15 ∧ wRemoteJobs1.dev = (9#9).toNat ∧
     BitVec.toNat wRemoteJobs1.sent + limit ≤ BitVec.toNat now ∧
     ((9#9).toNat = wRemoteJobs1x9.devId ∨ wRemoteJobs1x9.routeUsable (9#9).toNat = true)) ∧
    (let k : LinkPort := wRemoteJobs2x9.link 3
     let o : Nat := wRemoteJobs2.src.toNat
     let i : InStream := wRemoteJobs2x9.inStream o
     let ready : MsgOp → Prop := fun op => (k.st = LinkSt.up ∨ k.st = LinkSt.reneg) ∧ wRemoteJobs2.op = op ∧ msgLenOk wRemoteJobs2 = true ∧ wRemoteJobs2.dst.toNat = wRemoteJobs2x9.devId ∧ wRemoteJobs2.seq = i.expect ∧ i.queue = []
     let w : List W32 := wRemoteJobs2.words
     let now : W64 := wRemoteJobs2x9.rig.t
     let limit : Nat := wRemoteJobs2x9.rdF Pg.LNK Off.LNK.E2E_CTRL 31 16
     wRemoteJobs2x9.units = true ∧ wRemoteJobs2x9.ue = [] ∧ wRemoteJobs2x9.jobs = [j4] ∧ j4.ph = JobPh.running ∧
     j4.quanta = wRemoteJobs2x7 :: wRemoteJobs2x8 ∧ (∀ (z : Quantum), z ∈ wRemoteJobs2x8 → z.idx ≠ wRemoteJobs2x7.idx) ∧
     (∃ z, z ∈ wRemoteJobs2x8 ∧ z.st.hasEnded = false) ∧ ready MsgOp.recMsg ∧ BitVec.toNat wRemoteJobs2.value = j4.key ∧
     wRemoteJobs2x7.st = QuantumSt.remote o ∧ wRemoteJobs2x7.idx = wf w 4 31 16 ∧ wf w 2 31 24 = 0 ∧
     descRecordMode j4.desc = false ∧ j4.src = JobSrc.ring 5 ∧ wRemoteJobs2x7.st = QuantumSt.remote (9#9).toNat ∧
     (∀ (z : Quantum), z ∈ wRemoteJobs2x8 → z.st ≠ QuantumSt.remote (9#9).toNat) ∧ (9#9).toNat ≠ wRemoteJobs2x9.devId ∧
     wRemoteJobs2x9.routeUsable (9#9).toNat = false ∧
     (BitVec.toNat (SMap.get (fun x => 0) wRemoteJobs2x9.links.noRoute (9#9).toNat) + limit ≤ BitVec.toNat now) ∧ j4.fail = none) ∧
    (let k : LinkPort := wRemoteJobs3.link 3
     let o : Nat := rsp.src.toNat
     let i : InStream := wRemoteJobs3.inStream o
     let ready : MsgOp → Prop := fun op => (k.st = LinkSt.up ∨ k.st = LinkSt.reneg) ∧ rsp.op = op ∧ msgLenOk rsp = true ∧ rsp.dst.toNat = wRemoteJobs3.devId ∧ rsp.seq = i.expect ∧ i.queue = []
     wRemoteJobs3.units = true ∧ wRemoteJobs3.ue = [] ∧ ready MsgOp.jobRsp ∧ wRemoteJobs3.job (BitVec.toNat rsp.value) = none) ∧
    (let k : LinkPort := wRemoteJobs3.link 3
     let o : Nat := wRemoteJobs4.src.toNat
     let i : InStream := wRemoteJobs3.inStream o
     let ready : MsgOp → Prop := fun op => (k.st = LinkSt.up ∨ k.st = LinkSt.reneg) ∧ wRemoteJobs4.op = op ∧ msgLenOk wRemoteJobs4 = true ∧ wRemoteJobs4.dst.toNat = wRemoteJobs3.devId ∧ wRemoteJobs4.seq = i.expect ∧ i.queue = []
     let w : List W32 := wRemoteJobs4.words
     let serves : Prop := (wRemoteJobs3.core 0).st = CoreSt.idle ∨ (wRemoteJobs3.core 0).st = CoreSt.run
     wRemoteJobs3.units = true ∧ wRemoteJobs3.ue = [] ∧ ready MsgOp.job ∧ wRemoteJobs4.value = 0 ∧
     wRemoteJobs3.partOf wRemoteJobs4 = none ∧ descTarget w = wRemoteJobs3.coreUnit 0 ∧
     (∀ (z : Job), z ∈ wRemoteJobs3.jobs → z.key < wRemoteJobs3.nextKey) ∧ wRemoteJobs3.badDesc w = false ∧ serves ∧
     wRemoteJobs3.coreRefusals (0) w = []) ∧
    (let k : LinkPort := wRemoteJobs3.link 3
     let o : Nat := wRemoteJobs5.src.toNat
     let i : InStream := wRemoteJobs3.inStream o
     let ready : MsgOp → Prop := fun op => (k.st = LinkSt.up ∨ k.st = LinkSt.reneg) ∧ wRemoteJobs5.op = op ∧ msgLenOk wRemoteJobs5 = true ∧ wRemoteJobs5.dst.toNat = wRemoteJobs3.devId ∧ wRemoteJobs5.seq = i.expect ∧ i.queue = []
     let w : List W32 := wRemoteJobs5.words
     let serves : Prop := (wRemoteJobs3.core 0).st = CoreSt.idle ∨ (wRemoteJobs3.core 0).st = CoreSt.run
     wRemoteJobs3.units = true ∧ wRemoteJobs3.ue = [] ∧ ready MsgOp.job ∧ wRemoteJobs5.value = 1 ∧
     wRemoteJobs3.partOf wRemoteJobs5 = none ∧ descTarget w = wRemoteJobs3.coreUnit 0 ∧
     (∀ (z : Job), z ∈ wRemoteJobs3.jobs → z.key < wRemoteJobs3.nextKey) ∧ serves ∧ wRemoteJobs3.coreRefusals (0) w = [] ∧
     wRemoteJobs5.quanta.length = 1 ∧ (wRemoteJobs3.core 0).waiting < 64) ∧
    (let k : LinkPort := wRemoteJobs3.link 3
     let o : Nat := wRemoteJobs6.src.toNat
     let i : InStream := wRemoteJobs3.inStream o
     let ready : MsgOp → Prop := fun op => (k.st = LinkSt.up ∨ k.st = LinkSt.reneg) ∧ wRemoteJobs6.op = op ∧ msgLenOk wRemoteJobs6 = true ∧ wRemoteJobs6.dst.toNat = wRemoteJobs3.devId ∧ wRemoteJobs6.seq = i.expect ∧ i.queue = []
     wRemoteJobs3.units = true ∧ wRemoteJobs3.ue = [] ∧ ready MsgOp.job ∧ wRemoteJobs6.value = 2 ∧
     wRemoteJobs3.partOf wRemoteJobs6 = none) ∧
    (let z' := vJob1
     let k : LinkPort := wRemoteJobs7x9.link 3
     let o : Nat := wRemoteJobs6.src.toNat
     let i : InStream := wRemoteJobs7x9.inStream o
     let ready : MsgOp → Prop := fun op => (k.st = LinkSt.up ∨ k.st = LinkSt.reneg) ∧ wRemoteJobs6.op = op ∧ msgLenOk wRemoteJobs6 = true ∧ wRemoteJobs6.dst.toNat = wRemoteJobs7x9.devId ∧ wRemoteJobs6.seq = i.expect ∧ i.queue = []
     wRemoteJobs7x9.units = true ∧ wRemoteJobs7x9.ue = [] ∧ ready MsgOp.job ∧ wRemoteJobs6.value = 2 ∧ wRemoteJobs7x9.jobs = [z'] ∧
     wRemoteJobs7x9.partOf wRemoteJobs6 = some z' ∧ z'.members = []) ∧
    (let now : W64 := wRemoteJobs8x9.rig.t
     let limit : Nat := wRemoteJobs8x9.rdF Pg.LNK Off.LNK.E2E_CTRL 31 16
     wRemoteJobs8x9.units = true ∧ wRemoteJobs8x9.ue = [] ∧ wRemoteJobs8x9.jobs = [j3] ∧ j3.ph = JobPh.checking ∧
     j3.members = [wRemoteJobs8, wRemoteJobs1x6] ∧ wRemoteJobs8.answer = none ∧ wRemoteJobs1x6.answer = none ∧
     wRemoteJobs8.dev ≠ wRemoteJobs1x6.dev ∧ wRemoteJobs8.dev = (9#9).toNat ∧
     BitVec.toNat now < BitVec.toNat wRemoteJobs8.sent + limit) ∧
    (let k : LinkPort := wRemoteJobs9x9.link 3
     let o : Nat := wRemoteJobs4.src.toNat
     let i : InStream := wRemoteJobs9x9.inStream o
     let ready : MsgOp → Prop := fun op => (k.st = LinkSt.up ∨ k.st = LinkSt.reneg) ∧ wRemoteJobs4.op = op ∧ msgLenOk wRemoteJobs4 = true ∧ wRemoteJobs4.dst.toNat = wRemoteJobs9x9.devId ∧ wRemoteJobs4.seq = i.expect ∧ i.queue = []
     let w : List W32 := wRemoteJobs4.words
     let serves : Prop := (wRemoteJobs9x9.core 0).st = CoreSt.idle ∨ (wRemoteJobs9x9.core 0).st = CoreSt.run
     wRemoteJobs9x9.units = true ∧ wRemoteJobs9x9.ue = [] ∧ ready MsgOp.job ∧ wRemoteJobs4.value = 0 ∧
     wRemoteJobs9x9.partOf wRemoteJobs4 = none ∧ descTarget w = wRemoteJobs9x9.coreUnit 0 ∧
     (∀ (z : Job), z ∈ wRemoteJobs9x9.jobs → z.key < wRemoteJobs9x9.nextKey) ∧ wRemoteJobs9x9.badDesc w = false ∧ ¬serves) ∧
    (let k : LinkPort := wRemoteJobs3.link 3
     let o : Nat := wRemoteJobs10.src.toNat
     let i : InStream := wRemoteJobs3.inStream o
     let ready : MsgOp → Prop := fun op => (k.st = LinkSt.up ∨ k.st = LinkSt.reneg) ∧ wRemoteJobs10.op = op ∧ msgLenOk wRemoteJobs10 = true ∧ wRemoteJobs10.dst.toNat = wRemoteJobs3.devId ∧ wRemoteJobs10.seq = i.expect ∧ i.queue = []
     wRemoteJobs3.units = true ∧ wRemoteJobs3.ue = [] ∧ ready MsgOp.recMsg ∧
     wRemoteJobs3.job (BitVec.toNat wRemoteJobs10.value) = none) ∧
    (let k : LinkPort := wRemoteJobs3.link 3
     let o : Nat := wRemoteJobs11.src.toNat
     let i : InStream := wRemoteJobs3.inStream o
     let ready : MsgOp → Prop := fun op => (k.st = LinkSt.up ∨ k.st = LinkSt.reneg) ∧ wRemoteJobs11.op = op ∧ msgLenOk wRemoteJobs11 = true ∧ wRemoteJobs11.dst.toNat = wRemoteJobs3.devId ∧ wRemoteJobs11.seq = i.expect ∧ i.queue = []
     let w : List W32 := wRemoteJobs11.words
     wRemoteJobs3.units = true ∧ wRemoteJobs3.ue = [] ∧ ready MsgOp.job ∧ wRemoteJobs11.value = 0 ∧
     wRemoteJobs3.partOf wRemoteJobs11 = none ∧ descTarget w = wRemoteJobs3.coreUnit 0 ∧
     (∀ (z : Job), z ∈ wRemoteJobs3.jobs → z.key < wRemoteJobs3.nextKey) ∧ wRemoteJobs3.badDesc w = true) := by
  iterate 10 refine And.intro (by decide +kernel) ?_
  decide +kernel

/-- States that meet the hypotheses of PowerDomains, clause by clause. -/
theorem test_meets_PowerDomains :
    (let off : Nat := if true = true then Off.PWR.PD_REQ_HI else Off.PWR.PD_REQ_LO
     let base : Nat := if true = true then 32 else 0
     let old : W32 := wPowerDomains1x8.rd Pg.PWR off
     let busy : Nat → Prop := fun n => if n < 32 then (wPowerDomains1x8.core n).st = CoreSt.idle ∨ (wPowerDomains1x8.core n).st = CoreSt.run else if n < 36 then ∃ p, p < 24 ∧ 32 + p / 6 = n ∧ ((wPowerDomains1x8.port p).st = PortSt.training ∨ (wPowerDomains1x8.port p).st = PortSt.ready ∨ (wPowerDomains1x8.port p).st = PortSt.stream ∨ (wPowerDomains1x8.port p).st = PortSt.stopping) else if n = 38 then ∃ d, d < 8 ∧ bit (wPowerDomains1x8.rd (Pg.DL d) Off.DL.DL_CFG) 31 = true else wPowerDomains1x8.rdB Pg.HP Off.HP.HP_CFG 31 = true
     let barred : Nat → Prop := fun i => bit wPowerDomains1 i ≠ bit old i ∧ (wPowerDomains1x8.power.ready = false ∨ base + i = 36 ∨ base + i = 37 ∨ bit wPowerDomains1 i = false ∧ busy (base + i))
     let n : Nat := if true = true then 8 else 32
     wPowerDomains1x8.units = true ∧ (∃ i, i < n ∧ barred i) ∧ 5 = 5 ∧ wPowerDomains1x8.nextSwitch 5 = true ∧
     wPowerDomains1x8.requested 5 = true ∧ (wPowerDomains1x8.coreWaits 5 = false ∨ wPowerDomains1x8.mgmt.run ≠ McRun.running) ∧
     wPowerDomains1x8.domainOn 5 = false ∧
     (Rail.vddIo = Rail.vddSram → ∀ (c' : Fin 32), (wPowerDomains1x8.core ↑c').st ≠ CoreSt.idle ∧ (wPowerDomains1x8.core ↑c').st ≠ CoreSt.run) ∧
     wPowerDomains1x8.power.porst = false ∧ (wPowerDomains1x8.power.cold = false ∨ wPowerDomains1x8.power.ready = true) ∧
     wPowerDomains1x8.power.running = false ∧ wPowerDomains1x8.mayBeReady = false) ∧
    (wPowerDomains2x8.units = true ∧ wPowerDomains2x8.nextSwitch 5 = false ∧ wPowerDomains2x8.coreWaits 5 = true ∧
     wPowerDomains2x8.mgmt.run = McRun.running ∧ wPowerDomains2x8.mgmt.active = none ∧ wPowerDomains2x8.power.cold = true ∧
     wPowerDomains2x8.power.ready = false ∧ wPowerDomains2x8.power.porst = true ∧ wPowerDomains2x8.power.running = true ∧
     wPowerDomains2x8.mram.autoWarm = false ∧ wPowerDomains2x8.memOutcome mf wPowerDomains2 = none) ∧
    (let off : Nat := if false = true then Off.PWR.PD_REQ_HI else Off.PWR.PD_REQ_LO
     let base : Nat := if false = true then 32 else 0
     let old : W32 := wPowerDomains3x8.rd Pg.PWR off
     let busy : Nat → Prop := fun n => if n < 32 then (wPowerDomains3x8.core n).st = CoreSt.idle ∨ (wPowerDomains3x8.core n).st = CoreSt.run else if n < 36 then ∃ p, p < 24 ∧ 32 + p / 6 = n ∧ ((wPowerDomains3x8.port p).st = PortSt.training ∨ (wPowerDomains3x8.port p).st = PortSt.ready ∨ (wPowerDomains3x8.port p).st = PortSt.stream ∨ (wPowerDomains3x8.port p).st = PortSt.stopping) else if n = 38 then ∃ d, d < 8 ∧ bit (wPowerDomains3x8.rd (Pg.DL d) Off.DL.DL_CFG) 31 = true else wPowerDomains3x8.rdB Pg.HP Off.HP.HP_CFG 31 = true
     let barred : Nat → Prop := fun i => bit wPowerDomains3 i ≠ bit old i ∧ (wPowerDomains3x8.power.ready = false ∨ base + i = 36 ∨ base + i = 37 ∨ bit wPowerDomains3 i = false ∧ busy (base + i))
     let n : Nat := if false = true then 8 else 32
     let k : Core := wPowerDomains3x8.core 5
     let alone : Prop := k.items = [] ∧ (∀ (w : Win), w ∈ k.wins → w.landing = []) ∧ wPowerDomains3x8.jobs = []
     wPowerDomains3x8.units = true ∧ (∀ (i : Nat), i < n → ¬barred i) ∧ 5 = 5 ∧ wPowerDomains3x8.domainOn 5 = true ∧
     (k.st = CoreSt.idle ∨ k.st = CoreSt.run) ∧ alone) ∧
    (wPowerDomains4.units = true ∧ wPowerDomains4.mayBeReady = true) ∧
    (wPowerDomains5.units = true ∧ 5 = 5 ∧ wPowerDomains5.nextSwitch 5 = true ∧ wPowerDomains5.requested 5 = false) := by
  iterate 4 refine And.intro (by decide +kernel) ?_
  decide +kernel

/-- States that meet the hypotheses of MonitorsAndLimits, clause by clause. -/
theorem test_meets_MonitorsAndLimits :
    (let running : Prop := wMonitorsAndLimits1.mgmt.run = McRun.running
     let now : W64 := wMonitorsAndLimits1.rig.t
     let lo : Nat := wMonitorsAndLimits1.rdF Pg.MGT Off.MGT.VLIMIT 15 0
     let hi : Nat := wMonitorsAndLimits1.rdF Pg.MGT Off.MGT.VLIMIT 31 16
     let hot : Nat → Prop := fun limit => ∃ n, n < 32 ∧ 16 * ↑limit ≤ sfld (wMonitorsAndLimits1.rd Pg.MON (Off.MON.TEMP0 + 4 * n)) 15 0
     let tooHot : Prop := false = true ∨ hot (wMonitorsAndLimits1.rdF Pg.MGT Off.MGT.THERM 7 0)
     let lag : Nat := min wMonitorsAndLimits1.lagNow.fst 65535
     let lagHi : Nat := wMonitorsAndLimits1.rdF Pg.MGT Off.MGT.PACE_LAG 31 16
     let raises : Prop := ¬tooHot ∧ lagHi < lag ∧ ¬hot (wMonitorsAndLimits1.rdF Pg.MGT Off.MGT.THERM 15 8)
     let due : Prop := wMonitorsAndLimits1.rdB Pg.MGT Off.MGT.PACE_CTRL 31 = true ∧ running ∧ BitVec.toNat wMonitorsAndLimits1.mgmt.paceAt + wMonitorsAndLimits1.rdF Pg.MGT Off.MGT.PACE_CTRL 15 0 ≤ BitVec.toNat now
     let idle : Prop := wMonitorsAndLimits1.jobs = [] ∧ ∀ (c : Fin 32), (wMonitorsAndLimits1.core ↑c).items = [] ∧ ∀ (w : Win), w ∈ (wMonitorsAndLimits1.core ↑c).wins → w.landing = []
     wMonitorsAndLimits1.units = true ∧ running ∧ due ∧ lo ≤ hi ∧ raises ∧ lagHi < lag ∧ 32 ≤ 35 ∧ idle ∧
     wMonitorsAndLimits1.log.buf = [] ∧ wMonitorsAndLimits1.log.reserve = []) ∧
    (let now : W64 := wMonitorsAndLimits2.rig.t
     let running : Prop := wMonitorsAndLimits2.mgmt.run = McRun.running
     let due : Prop := wMonitorsAndLimits2.rdB Pg.MGT Off.MGT.PACE_CTRL 31 = true ∧ running ∧ BitVec.toNat wMonitorsAndLimits2.mgmt.paceAt + wMonitorsAndLimits2.rdF Pg.MGT Off.MGT.PACE_CTRL 15 0 ≤ BitVec.toNat now
     wMonitorsAndLimits2.units = true ∧
     (wMonitorsAndLimits2.mgmt.run = McRun.off ∨ wMonitorsAndLimits2.mgmt.run = McRun.recovery) ∧ ¬due ∧ ¬running) ∧
    (let now : W64 := wMonitorsAndLimits3.rig.t
     let running : Prop := wMonitorsAndLimits3.mgmt.run = McRun.running
     let lo : Nat := wMonitorsAndLimits3.rdF Pg.MGT Off.MGT.VLIMIT 15 0
     let hi : Nat := wMonitorsAndLimits3.rdF Pg.MGT Off.MGT.VLIMIT 31 16
     let hot : Nat → Prop := fun limit => ∃ n, n < 32 ∧ 16 * ↑limit ≤ sfld (wMonitorsAndLimits3.rd Pg.MON (Off.MON.TEMP0 + 4 * n)) 15 0
     let tooHot : Prop := false = true ∨ hot (wMonitorsAndLimits3.rdF Pg.MGT Off.MGT.THERM 7 0)
     let lag : Nat := min wMonitorsAndLimits3.lagNow.fst 65535
     let lagHi : Nat := wMonitorsAndLimits3.rdF Pg.MGT Off.MGT.PACE_LAG 31 16
     let raises : Prop := ¬tooHot ∧ lagHi < lag ∧ ¬hot (wMonitorsAndLimits3.rdF Pg.MGT Off.MGT.THERM 15 8)
     let lowers : Prop := tooHot ∨ ¬raises ∧ lag < wMonitorsAndLimits3.rdF Pg.MGT Off.MGT.PACE_LAG 15 0
     let due : Prop := wMonitorsAndLimits3.rdB Pg.MGT Off.MGT.PACE_CTRL 31 = true ∧ running ∧ BitVec.toNat wMonitorsAndLimits3.mgmt.paceAt + wMonitorsAndLimits3.rdF Pg.MGT Off.MGT.PACE_CTRL 15 0 ≤ BitVec.toNat now
     let serves : Nat → Prop := fun c => (wMonitorsAndLimits3.core c).st = CoreSt.idle ∨ (wMonitorsAndLimits3.core c).st = CoreSt.run
     let idle : Prop := wMonitorsAndLimits3.jobs = [] ∧ ∀ (c : Fin 32), (wMonitorsAndLimits3.core ↑c).items = [] ∧ ∀ (w : Win), w ∈ (wMonitorsAndLimits3.core ↑c).wins → w.landing = []
     wMonitorsAndLimits3.units = true ∧ due ∧ lo ≤ hi ∧ lowers ∧ running ∧ 5 < 32 ∧ serves 5 ∧ idle) ∧
    (let e := vLogEnt1
     let r : List LogEnt := [{ page := 5, bit := 3, code := 33, time := 0x000000123456789a#64, unit := 7, detail := 0x00000009#32, arg := 0x0000000000000005#64, lostRec := false, no := 0 }]
     let running : Prop := wMonitorsAndLimits4.mgmt.run = McRun.running
     wMonitorsAndLimits4.units = true ∧ running ∧ wMonitorsAndLimits4.log.reserve = [] ∧ wMonitorsAndLimits4.log.buf = e :: r) ∧
    (let now : W64 := wMonitorsAndLimits5.rig.t
     let running : Prop := wMonitorsAndLimits5.mgmt.run = McRun.running
     let lo : Nat := wMonitorsAndLimits5.rdF Pg.MGT Off.MGT.VLIMIT 15 0
     let hi : Nat := wMonitorsAndLimits5.rdF Pg.MGT Off.MGT.VLIMIT 31 16
     let hot : Nat → Prop := fun limit => ∃ n, n < 32 ∧ 16 * ↑limit ≤ sfld (wMonitorsAndLimits5.rd Pg.MON (Off.MON.TEMP0 + 4 * n)) 15 0
     let tooHot : Prop := false = true ∨ hot (wMonitorsAndLimits5.rdF Pg.MGT Off.MGT.THERM 7 0)
     let lag : Nat := min wMonitorsAndLimits5.lagNow.fst 65535
     let lagHi : Nat := wMonitorsAndLimits5.rdF Pg.MGT Off.MGT.PACE_LAG 31 16
     let raises : Prop := ¬tooHot ∧ lagHi < lag ∧ ¬hot (wMonitorsAndLimits5.rdF Pg.MGT Off.MGT.THERM 15 8)
     let lowers : Prop := tooHot ∨ ¬raises ∧ lag < wMonitorsAndLimits5.rdF Pg.MGT Off.MGT.PACE_LAG 15 0
     let due : Prop := wMonitorsAndLimits5.rdB Pg.MGT Off.MGT.PACE_CTRL 31 = true ∧ running ∧ BitVec.toNat wMonitorsAndLimits5.mgmt.paceAt + wMonitorsAndLimits5.rdF Pg.MGT Off.MGT.PACE_CTRL 15 0 ≤ BitVec.toNat now
     wMonitorsAndLimits5.units = true ∧ due ∧ lo ≤ hi ∧ ¬lowers ∧ ¬raises) := by
  iterate 4 refine And.intro (by decide +kernel) ?_
  decide +kernel

/-- States that meet the hypotheses of ManagementController, clause by clause. -/
theorem test_meets_ManagementController :
    (let m : Mgmt := wManagementController1x1.mgmt
     let away : Prop := m.run = McRun.restarting
     let unset : Prop := ∀ (x : Byte), x ∈ wManagementController1x1.mram.ownerFp → x = 0
     (away ∨ m.tryRun = true ∨ m.imgLoad = true) ∧ (m.imgLoad = false ∨ m.run ≠ McRun.running) ∧
     (away ∨ m.tryRun = true ∨ m.otherOk = false) ∧ (away ∨ m.tryRun = false) ∧ m.run ≠ McRun.running ∧ m.run = McRun.restarting ∧
     (m.run ≠ McRun.recovery ∨ wManagementController1x1.checkImage wManagementController1 ≠ ST.OK) ∧ (away ∨ ¬unset) ∧ away ∧
     (away ∨ m.report = true) ∧ (m.report = false ∨ m.run ≠ McRun.running)) ∧
    (let m : Mgmt := wManagementController2.mgmt
     let fw : List Byte := (wManagementController2.containerAt (wManagementController2.rdF Pg.MGT Off.MGT.FW_SRC_HI 6 0 * 2 ^ 32 + BitVec.toNat (wManagementController2.rd Pg.MGT Off.MGT.FW_SRC_LO))).getD []
     let away : Prop := m.run = McRun.restarting
     let key : Nat := wManagementController2.rdF Pg.SEC Off.SEC.OWNER_SRC_HI 6 0 * 2 ^ 32 + BitVec.toNat (wManagementController2.rd Pg.SEC Off.SEC.OWNER_SRC_LO)
     let own : List Byte := (wManagementController2.containerAt key).getD []
     let ownCode : Nat := checkContainer own 4 wManagementController2.mram.ownerFp (ownerKey own).isSome true
     m.imgLoad = true ∧ m.run = McRun.running ∧ wManagementController2.checkImage fw ≠ ST.OK ∧ ¬away ∧ m.tryRun = false ∧
     m.otherOk = true ∧
     (m.run = McRun.running ∨ m.run = McRun.recovery ∨ m.run = McRun.off ∧ wManagementController2.power.porst = true) ∧
     ownCode ≠ ST.OK ∧ m.report = false ∧ wManagementController2.reportFits = false) ∧
    (let m : Mgmt := wManagementController3.mgmt
     let away : Prop := m.run = McRun.restarting
     ¬away ∧ m.tryRun = false ∧ m.imgLoad = false) ∧
    (let m : Mgmt := wManagementController4.mgmt
     let away : Prop := m.run = McRun.restarting
     ¬away ∧ m.tryRun = true) ∧
    (let m : Mgmt := wManagementController5.mgmt
     let away : Prop := m.run = McRun.restarting
     ¬away ∧ m.report = false ∧ wManagementController5.reportFits = true) := by
  iterate 4 refine And.intro (by decide +kernel) ?_
  decide +kernel

/-- States that meet the hypotheses of ConfigurationSets, clause by clause. -/
theorem test_meets_ConfigurationSets :
    (let m : Mgmt := wManagementController3.mgmt
     let away : Prop := m.run = McRun.restarting
     let loads : Prop := ¬away ∧ m.cfg = CfgSt.loading ∧ m.load = some CfgLoad.set
     let reverts : Prop := ¬away ∧ m.cfg = CfgSt.idle ∧ m.prevValid = true
     wManagementController3.units = true ∧ ¬away ∧ m.cfg = CfgSt.idle ∧ ¬loads ∧ (away ∨ m.cfg ≠ CfgSt.staged) ∧ ¬reverts ∧
     (m.cfg ≠ CfgSt.applying ∨ ∃ c, c < 32 ∧ (wManagementController3.core c).swap = true) ∧
     (away ∨ m.cfg ≠ CfgSt.loading ∨ m.load ≠ some CfgLoad.prev)) ∧
    (let m : Mgmt := wConfigurationSets2x2.mgmt
     let away : Prop := m.run = McRun.restarting
     let version : Option CfgSet → W32 := fun c => match c with | some c => c.version | none => 0
     wConfigurationSets2x2.units = true ∧ (away ∨ m.cfg ≠ CfgSt.idle) ∧ ¬away ∧ m.cfg = CfgSt.staged ∧
     wConfigurationSets2 = version m.staged) ∧
    (let m : Mgmt := wConfigurationSets3.mgmt
     let away : Prop := m.run = McRun.restarting
     let b : List Byte := m.stagedSrc
     let loads : Prop := ¬away ∧ m.cfg = CfgSt.loading ∧ m.load = some CfgLoad.set
     wConfigurationSets3.units = true ∧ loads ∧ wConfigurationSets3.checkSet b ≠ ST.OK) ∧
    (let m : Mgmt := wConfigurationSets4.mgmt
     let away : Prop := m.run = McRun.restarting
     wConfigurationSets4.units = true ∧ ¬away ∧ m.cfg = CfgSt.loading ∧ m.load = some CfgLoad.prev ∧
     wConfigurationSets4.storedSet wConfigurationSets4.flash.boot.setPrev = none) ∧
    (let m : Mgmt := wConfigurationSets2x2.mgmt
     let away : Prop := m.run = McRun.restarting
     let version : Option CfgSet → W32 := fun c => match c with | some c => c.version | none => 0
     wConfigurationSets2x2.units = true ∧ ¬away ∧ m.cfg = CfgSt.staged ∧ wCommandRings2 ≠ version m.staged) ∧
    (let m : Mgmt := wConfigurationSets6x2.mgmt
     let away : Prop := m.run = McRun.restarting
     let version : Option CfgSet → W32 := fun c => match c with | some c => c.version | none => 0
     let reverts : Prop := ¬away ∧ m.cfg = CfgSt.idle ∧ m.prevValid = true
     wConfigurationSets6x2.units = true ∧ reverts ∧ wCommandRings2 = version m.prev ∧
     BitVec.toNat wConfigurationSets6x2.mram.setFloor ≤ BitVec.toNat (version m.prev)) ∧
    (let m : Mgmt := wConfigurationSets6x2.mgmt
     let away : Prop := m.run = McRun.restarting
     let version : Option CfgSet → W32 := fun c => match c with | some c => c.version | none => 0
     let reverts : Prop := ¬away ∧ m.cfg = CfgSt.idle ∧ m.prevValid = true
     wConfigurationSets6x2.units = true ∧ reverts ∧
     (wConfigurationSets2 ≠ version m.prev ∨ BitVec.toNat (version m.prev) < BitVec.toNat wConfigurationSets6x2.mram.setFloor)) ∧
    (let m : Mgmt := wConfigurationSets8.mgmt
     let inForce : Prop := (∀ (c : Nat), c < 32 → (wConfigurationSets8.core c).swap = false) ∧ ∀ (p : Nat), p < 24 → (wConfigurationSets8.port p).swapPend = false
     wConfigurationSets8.units = true ∧ m.cfg = CfgSt.applying ∧ inForce ∧ wConfigurationSets8.flash.boot.setStaged = none) := by
  iterate 7 refine And.intro (by decide +kernel) ?_
  decide +kernel

/-- States that meet the hypotheses of LaneArithmetic, clause by clause. -/
theorem test_meets_LaneArithmetic :
    (wLaneArithmetic1.op = Instr.vrq 0 wLaneArithmetic1x3) := by decide +kernel

/-- States that meet the hypotheses of ResetState, clause by clause. -/
theorem test_meets_ResetState :
    (274877906944 ≤ 274877906944) := by decide +kernel

/-! ## Hypotheses met: clauses with a premise that no instance decides -/

/-- A step takes the front of the queue; the invariants' premises hold of the state after reset with a command waiting. -/
theorem test_meets_steps :
    (let s : State := { State.reset with pending := [.mcWatchdog, .hcReset 1] }
     s.pending = .mcWatchdog :: [.hcReset 1] ∧ s.sound = true ∧ (∃ t, step s = .next t) ∧ (∃ fp, ({ s with trayFp := some [1] } : State).trayFp = some fp)) ∧
    cmdCore (.add 3 f1) = some 3 ∧ decodeWord 3 ((encodeWord (.add 3 f1)).getD 0) = some (.add 3 f1) := by
  refine ⟨⟨rfl, by decide +kernel, ⟨_, rfl⟩, ⟨_, rfl⟩⟩, by decide +kernel, by decide +kernel⟩

/-- A branch whose comparison holds, and one whose comparison fails (COND 0 and 1 on S[3] = 3 with IMM32 = 3). -/
theorem test_meets_Branches :
    let f : CtlF := tCtl true 3 0 0 3 0 9 0 0
    let g : CtlF := { f with cond := 1 }
    (tState [.bc 0 f]).units = true ∧ (tState [.bc 0 f]).standsAt 0 (.bc 0 f) = true ∧ f.cond.toNat = 0 ∧ ((tState [.bc 0 f]).core 0).s 3 = f.imm ∧
    (tState [.bc 0 g]).standsAt 0 (.bc 0 g) = true ∧ g.cond.toNat = 1 ∧ ¬((tState [.bc 0 g]).core 0).s 3 ≠ g.imm := by decide +kernel

/-- A control write of four whole bytes, and one whose second byte is excluded. -/
theorem test_meets_HostAccesses_control :
    let s := hs [(0x70100, [some 1, some 2, some 3, some 4])]
    let u := hs [(0x70100, [some 1, none, some 3, some 4])]
    s.units = true ∧ (s.chan 1).st = .run ∧ s.ue = [] ∧ s.ce = [] ∧ (s.chan 1).ctl = (0x70100, ([1, 2, 3, 4] : List Byte).map some) :: [] ∧
    (0x04030201 : W32) = BitVec.ofNat 32 (ofBytes [1, 2, 3, 4]) ∧ 0x70100 < 0x10C000 ∧ (RegMap.kindOf (0x70100 / 0x1000)).isSome = true ∧
    u.units = true ∧ (u.chan 1).st = .run ∧ (u.chan 1).ctl = [(0x70100, [some 1, none, some 3, some 4])] := by decide +kernel

/-- A tracking correction of 0, and one past the range of the trims. -/
theorem test_meets_ChannelStates_tracking :
    let s := cS .off 0
    let range : Int := Config.trimRange 0
    s.units = true ∧ s.chanFitted 0 = true ∧ (s.memChans.getD 0 {}).trackAt = none ∧ -range ≤ 0 ∧ 0 ≤ range ∧ range < range + 1 :=
  ⟨by decide +kernel, by decide +kernel, by decide +kernel, by simp, by simp, by omega⟩

/-- A write, a fused write and a read of LPDDR5X, each alone at the gate of channel 1. -/
def grantS (m : Msg) : State := (ul.putBytes 0x2000 (List.replicate 64 5)).setInStream 9 { expect := 1, queue := [(m, true)] }
def grantKey (m : Msg) : List Nat := (((grantS m).gateRows (.mem 1)).map (·.keys)).headD []
def grantsAt (m : Msg) : Bool :=
  decide ((grantS m).units = true ∧ (grantS m).ue = [] ∧ (grantS m).ce = [] ∧ ((grantS m).inStream 9).queue = [(m, true)] ∧
    (grantS m).gateRows (.mem 1) = [{ keys := grantKey m, work := .msg 9 m }])

theorem test_meets_StreamMessages_granted :
    grantsAt wm = true ∧ (grantS wm).regionOf 0x2000 (max 1 wm.data.length) = some .lpddr ∧ (grantS wm).ueWords 0x2000 5 = [] ∧
    grantsAt { wm with op := .wrTally, value := 0x124 } = true ∧ (grantS { wm with op := .wrTally, value := 0x124 }).tallyRefused .link 0x124 = false ∧
    grantsAt rq = true ∧ (grantS rq).regionOf 0x2000 64 = some .lpddr ∧ (grantS rq).ueWords 0x2000 64 = [] ∧ (grantS rq).egress 9 = some (3, false) := by
  decide +kernel

/-- An entry of ACT 3 with a START, alone at its time. -/
theorem test_meets_LaunchFires_start :
    let s := lf { le with act := 3, arg0 := 0x83, arg1 := 2 }
    s.units = true ∧ s.entryBad 5 = false ∧ s.fires = true ∧ s.due 5 = true ∧ s.firstDue 5 = true ∧ (s.entry 5).lateDue = false ∧
    (s.entry 5).time.toNat + 100 ≥ s.rig.t.toNat ∧ (s.entry 5).begun = false ∧ (∀ i, i < 256 → 5 < i → s.due i = false) := by decide +kernel

/-- A band that waits past HOLD in a context with OVR, for a slot that a record of another frame still fills. -/
def gov := gctx.map fun p => if p.1 = Off.GLZ.C_RING then (p.1, 0x80000002) else p
def osl : GSlot := { frame := 8, group := 0, done := [0] }
def gTo := (gT 2000 (ge .started none) [bw] gov [(16 * 5, osl)]).putBytes 0x1000 (leBytes 4 7 ++ leBytes 4 0x80020000)

theorem test_meets_GlazeTimeouts_override :
    let x := gTo.glzCtx 2 5
    gTo.units = true ∧ gTo.ue = [] ∧ (gTo.core 0).wq = [ge .started none] ∧ (gTo.glaze 2).bands = [bw] ∧ bw.opener = (ge .started none).key ∧
    gTo.rig.t.toNat > 100 + (gTo.rd (Pg.GLZ 2) Off.GLZ.C_HOLD 5).toNat ∧ x.ovr = true ∧ gTo.glzRemote x = false ∧ x.bandGroups bw = [0] ∧
    SMap.find (gTo.glaze 2).slots (16 * 5 + x.slotOf 9 0) = some osl ∧ osl.frame ≠ bw.frame ∧
    (gTo.word (x.localAddr 0 (x.slotOf 9 0 * x.slotSize + 4))).getLsbD 31 = true ∧
    gTo.ueWords (x.localAddr 0 (x.slotOf 9 0 * x.slotSize) + 4) 4 = [] := by decide +kernel

/-- A frame dropped while an item holds a claim on it. -/
def claimC : Core := { tCore [] with cur := none, items := [{ tItem with claim := some { port := 7, stream := 2, frame := 9, first := 0, last := 5, rel := 0 } }] }
def claimS : State := fS (fun p => { p with st := .stream, next := 9, streams := [{}, {}, { held := List.replicate 1800 ⟨1, 2, 3⟩ }, {}] }) [(Off.SP.ADMIT, 0xFF)] (mk claimC)

theorem test_meets_FrameStart_claim :
    let cl : Claim := { port := 7, stream := 2, frame := 9, first := 0, last := 5, rel := 0 }
    claimS.units = true ∧ (claimS.port 7).proc = .none ∧ claimS.enabled 7 = [2] ∧ fld (claimS.streamReg 7 2) 30 26 = (3 : BitVec 5).toNat ∧
    (claimS.port 7).st = .stream ∧ ((claimS.port 7).stream 2).cur = none ∧ (claimS.port 7).swapPend = false ∧
    claimS.streamLines 7 2 - ((claimS.port 7).stream 2).held.length < claimS.rdF (Pg.SP 7) Off.SP.ADMIT 7 0 ∧ claimS.jobs = [] ∧
    (∀ c' : Fin 32, c' ≠ 0 → (claimS.core c').items = []) ∧ (claimS.core 0).items = [{ tItem with claim := some cl }] ∧ tItem.fail = none ∧
    cl.port = 7 ∧ cl.stream = 2 ∧ cl.frame = (claimS.port 7).next ∧ cl.first ≤ cl.last := by
  iterate 15 refine And.intro (by decide +kernel) ?_
  decide +kernel

/-- Statistics registers of port 7: a ring in no region, one in LPDDR5X, one behind a port that streams. -/
def statS (l : List (Nat × W32)) (st : PortSt := .off) : State :=
  l.foldl (fun s p => s.wr Pg.STAT p.1 p.2 29) ((memS (pS fun p => { p with st := st })).wr Pg.STAT Off.STAT.STAT_SEL 29)
def statGood (s : State) (v : W32) : Bool :=
  let base := s.rdF Pg.STAT Off.STAT.RING_BASE_HI 6 0 29 * 2 ^ 32 + (s.rd Pg.STAT Off.STAT.RING_BASE_LO 29).toNat
  let depth := s.rdF Pg.STAT Off.STAT.RING_DEPTH 11 0 29
  decide (base % 0x4000 = 0 ∧ depth ≠ 0 ∧ fld v 20 16 ≤ 16) && match s.regionOf base (0x4000 * depth) with
    | some .lpddr => true
    | some (.staging _) => true
    | _ => false

theorem test_meets_StatisticsRegisters_rings :
    (statS []).rdF Pg.STAT Off.STAT.STAT_SEL 6 0 = 29 ∧ (0x80000001 : W32).getLsbD 31 = true ∧
    statGood (statS []) 0x80000001 = false ∧ statGood (statS [(Off.STAT.RING_DEPTH, 4)]) 0x80000001 = true ∧
    statGood (statS [(Off.STAT.RING_DEPTH, 4), (Off.STAT.RING_BASE_HI, 0x58)]) 0x80000001 = true ∧
    (((statS []).port 7).st ≠ .stream ∧ ((statS []).port 7).st ≠ .stopping) ∧ ((statS [] .stream).port 7).st = .stream := by decide +kernel

/-- The last quantum of a job, one of two, and a failed one. -/
def quantA : Quantum := { idx := 0, assigner := 0, st := .onCore 0 }
def jobA (others : List Quantum) : Job := { key := 0, desc := tDesc, src := .ring 5, ph := .running, only := none, refusedFrame := false, members := [], local_ := none, quanta := quantA :: others, fail := none, done := 2, failed := 1, lines := 9 }
def itemA (fail : Option (Nat × Nat)) : Item := { tItem with phase := .ended, fail := fail }
def itemS (fail : Option (Nat × Nat)) (others : List Quantum) : State := { onS (mk { tCore [] with cur := none, items := [itemA fail] }) with jobs := [jobA others] }
def itemHyps (fail : Option (Nat × Nat)) (others : List Quantum) : Bool :=
  let s := itemS fail others
  let k := s.core 0
  decide (s.units = true ∧ s.ue = [] ∧ k.items = [itemA fail] ∧ (itemA fail).phase = .ended ∧ k.fq = [] ∧ k.xq = [] ∧ k.wq = [] ∧
    (∀ w ∈ k.wins, w.st = .closed) ∧ (itemA fail).claim = none ∧ s.heldForItem 0 (itemA fail).key = false ∧ k.st = .run) &&
  decide (s.jobs = [jobA others] ∧ (jobA others).key = (itemA fail).job ∧ (jobA others).src = .ring 5 ∧ (jobA others).quanta = quantA :: others ∧
    quantA.idx = (itemA fail).quantum ∧ (∀ x ∈ others, x.idx ≠ quantA.idx) ∧ (∀ x ∈ (jobA others).quanta, x.st ≠ .held 0) ∧
    s.ringFull 5 = false ∧ s.pendRecs 5 = [])

theorem test_meets_ItemComplete :
    itemHyps none [] = true ∧ itemHyps none [{ quantA with idx := 1 }] = true ∧ itemHyps (some (0x23, 99)) [{ quantA with idx := 1 }] = true ∧
    (∀ code d, (itemA (some (0x23, 99))).fail = some (code, d) → code / 16 = 2) ∧ QuantumSt.hasEnded quantA.st = false ∧
    descRecordMode (jobA []).desc = false ∧ QuantumSt.hasEnded (QuantumSt.ended 0) = true := by
  refine ⟨by decide +kernel, by decide +kernel, by decide +kernel, ?_, by decide +kernel, by decide +kernel, by decide +kernel⟩
  intro code d h
  cases h
  rfl

/-- Two queues that wait for updates held behind each other, and an entry at a head that waits for nothing. -/
def headE (n w : Nat) : QEntry := { tEntry (.xWflip 0) with key := n, word := w, wait := wv p0 }
def laterE (n : Nat) : QEntry := { tEntry (.tUpd 0 (tTal 1 false true 4 1)) with key := n, word := 11 }
def crossS : State := onS (mk { tCore [] with cur := none, fq := [headE 1 9, laterE 2], xq := [headE 8 12, laterE 9] })
def freeS : State := onS (mk { tCore [] with cur := none, fq := [{ headE 1 9 with wait := none }] })

theorem test_meets_ScoreboardDeclares_queues :
    crossS.units = true ∧ (crossS.core 0).st = .run ∧ (crossS.core 0).cur = none ∧ (crossS.core 0).items = [tItem] ∧ tItem.fail = none ∧
    (∀ e ∈ (crossS.core 0).fq ++ (crossS.core 0).xq ++ (crossS.core 0).wq, e.item = tItem.key ∧ e.st = .queued) ∧
    (crossS.core 0).fq = [headE 1 9, laterE 2] ∧ (crossS.core 0).xq = [headE 8 12, laterE 9] ∧ (crossS.core 0).wq = [] ∧
    (headE 1 9).marker = false ∧ tItem.private_ 0 p0 = true ∧ (∀ x ∈ (crossS.core 0).wins, x.st = .closed) ∧
    (laterE 2).upd = some (4, false, 1, none) ∧ (laterE 9).upd = some (4, false, 1, none) ∧ tItem.tally 0 4 = p0 ∧
    freeS.units = true ∧ (freeS.core 0).items = [tItem] ∧ (freeS.core 0).q .fq = [{ headE 1 9 with wait := none }] := by decide +kernel

/-- An entry whose wait is one unit past its limit, and one at its limit. -/
def pastS (t : W64) : State := { onS (mk { tCore [] with cur := none, xq := [{ headE 1 9 with wait := some wrl }] }) with rig := { t := t } }

theorem test_meets_WaitLimit_queue :
    let k := (pastS 10000004).core 0
    (pastS 10000004).units = true ∧ wrl.tally < 16384 ∧ k.items = [tItem] ∧ tItem.fail = none ∧ k.cur = none ∧
    k.q .xq = [{ headE 1 9 with wait := some wrl }] ∧ k.q .fq = [] ∧ k.q .wq = [] ∧ (headE 1 9).item = tItem.key ∧ (headE 1 9).st = .queued ∧
    (headE 1 9).marker = false ∧ wrl.released = false ∧
    (pastS 10000004).rig.t.toNat > wrl.at_.toNat + ((pastS 10000004).rd (Pg.TALLY wrl.tally) Off.TALLY.WAIT_LIMIT).toNat ∧
    (pastS 10000003).rig.t.toNat ≤ wrl.at_.toNat + ((pastS 10000003).rd (Pg.TALLY wrl.tally) Off.TALLY.WAIT_LIMIT).toNat := by decide +kernel

/-- A scrubbed row without an error mark, within the period. -/
theorem test_meets_CoreScrub_clean :
    let s : State := onS (mk { tCore [] with scrub := 18430, scrubAt := 0x500000000 })
    let period := s.rdF (Pg.CORE 0) Off.CORE.SCRUB_CTRL 15 0 * 100000
    s.units = true ∧ (s.core 0).scrub < 18432 ∧ (s.core 0).scrub ≠ 18431 ∧ s.domainOn 0 = true ∧
    s.rdB (Pg.CORE 0) Off.CORE.SCRUB_CTRL 31 = true ∧ s.ce = [] ∧ s.ue = [] ∧ s.rig.t.toNat ≤ (s.core 0).scrubAt.toNat + period := by decide +kernel

/-! ## Hypotheses met: containers (R324, R325). Whether a signature verifies is an opaque value, so these take that as a premise. -/

theorem checkContainer_ok {b : List Byte} {kind : Nat} {fp : List Byte} {more ver : Bool} (hf : contForm b kind = true) (hm : more = true)
    (hk : keyFp (contKey b) = fp) (hd : Config.shake256 (contBody b) 64 = contDigest b)
    (hs : Config.mldsaVerify (contKey b) (slice b 0 128) (contSig b) = true) (hv : ver = true) : checkContainer b kind fp more ver = ST.OK := by
  simp [checkContainer, hf, hm, hk, hd, hs, hv]

/-- A container: kind, signer and level, version, sections in order with their ARG1, no padding between them. -/
def tContainerD (digest : List Byte) (word1 version : Nat) (nsect : Nat) (table secs : List Byte) : List Byte :=
  let body := table ++ secs
  leBytes 4 0x435A4541 ++ leBytes 4 word1 ++ leBytes 4 version ++ leBytes 4 0 ++ leBytes 4 body.length ++ leBytes 4 nsect ++ leBytes 8 0 ++
  fitBytes 64 digest ++ leBytes 32 0 ++ body ++ List.replicate (contSize body.length - 128 - body.length) 0
def tContainer (word1 version : Nat) (nsect : Nat) (table secs : List Byte) : List Byte :=
  tContainerD (Config.shake256 (table ++ secs) 64) word1 version nsect table secs

/-- An entry of a section table. -/
def tSect (ty arg0 arg1 off len : Nat) : List Byte := leBytes 4 (ty * 2 ^ 24 + arg0) ++ leBytes 4 off ++ leBytes 4 len ++ leBytes 4 arg1

/-- An image with a BOARD record (Table 19.4) alone: format 1, 750 to 850 mV. -/
def tBoard : List Byte := leBytes 4 0x10000000 ++ leBytes 44 0 ++ leBytes 4 0x035202EE ++ leBytes 12 0
def tImage : List Byte := tContainer 0x01010101 5 1 (tSect 2 0 0 16 64) tBoard

/-- An owner change with a key of zeros. -/
def tChange : List Byte := tContainer 0x04010200 0 1 (tSect 0x30 0 0 16 1952) (List.replicate 1952 0)

/-- A set: a port map without a candidate, a profile of one mode and one step, one byte of DATA at address a of LPDDR5X. -/
def tProfile : List Byte := leBytes 4 0x10000000 ++ leBytes 24 0 ++ leBytes 4 1 ++ leBytes 484 0 ++ leBytes 8 0x0300000000000000
def tSet (a : Nat) : List Byte :=
  tContainer 0x02010200 5 3 (tSect 0x10 0 0 48 192 ++ tSect 0x11 3 0 240 tProfile.length ++ tSect 0x13 (a / 2 ^ 32) (a % 2 ^ 32) 768 16)
    (List.replicate 192 255 ++ tProfile ++ List.replicate (528 - tProfile.length) 0 ++ List.replicate 16 7)

/-- The digest of a container and its signature are good. -/
def signed (b : List Byte) : Prop :=
  Config.shake256 (contBody b) 64 = contDigest b ∧ Config.mldsaVerify (contKey b) (slice b 0 128) (contSig b) = true

def bootS (run : McRun) : State := { State.reset with mgmt := { run := run, imgLoad := true }, flash := { imgA := tImage }, power := { porst := false } }
def ownS : State := { onS (memS (tState [])) with mram := { ownerFp := keyFp (List.replicate 1952 0) } }
def loadS (a : Nat) (active : Option CfgSet) : State :=
  { ownS with mgmt := { run := .running, cfg := .loading, load := some .set, stagedSrc := tSet a, active := active, image := tImage } }
def prevS : State :=
  { ownS with mgmt := { run := .running, cfg := .loading, load := some .prev, image := tImage }, flash := { sets := [tSet 0x1000, [], []], boot := { setPrev := some 0 } } }

theorem test_meets_ManagementController_images (h : signed tImage) :
    (bootS .off).checkImage tImage = ST.OK ∧ (bootS .recovery).checkImage tImage = ST.OK ∧ (bootS .recovery).trayFp = none ∧
    (bootS .off).checkImage ((bootS .off).flash.image (bootS .off).flash.boot.primary) = ST.OK ∧ (bootS .off).power.porst = false := by
  have k : ∀ r, (bootS r).checkImage tImage = ST.OK := fun r =>
    checkContainer_ok (by decide +kernel) (by decide +kernel) rfl h.1 h.2 (by cases r <;> decide +kernel)
  exact ⟨k _, k _, rfl, k _, rfl⟩

/-- A LOAD of an image that lies in host window SRAM, its digest a number. -/
def loadImage : List Byte := tContainerD [] 0x01010101 5 1 (tSect 2 0 0 16 64) tBoard
def fwR : State := (onS (memS (tState []))).wr Pg.MGT Off.MGT.FW_SRC_HI 0x58
def fwS : State := { fwR.putBytes 0x5800000000 loadImage with mgmt := { fwR.mgmt with imgLoad := true } }

theorem fwS_checked (h : signed loadImage) : fwS.checkImage loadImage = ST.OK := by
  have v : decide (fwS.mram.fwFloor.toNat ≤ (contVersion loadImage).toNat) = true := by decide +kernel
  have t : fwS.trayFp = none := rfl
  rw [State.checkImage, t, v]
  exact checkContainer_ok (by decide +kernel) (by decide +kernel) rfl h.1 h.2 rfl

/-- A container put into host window SRAM is found there. -/
theorem containerAt_putBytes (s t : State) (b : List Byte) (a k : Nat) (hk : 128 ≤ b.length) (hs : b.length ≤ 0x1000000)
    (hn : contSize (w32At (b.take 128) 16).toNat = b.length) (hm : t.mem = memPutAll s.mem a b) (he : t.memEpoch = s.memEpoch)
    (hu : t.ue = []) (ha : lpddrEnd ≤ a) (hr : ∀ n, n = 128 ∨ n = b.length → t.regionOf a n = some (.staging k)) :
    t.containerAt a = some b := by
  have get : ∀ m, m ≤ b.length → t.bytes a m = b.take m := fun m h =>
    (State.bytes_congr t (s.putBytes a b) hm he a m).trans (State.bytes_putBytes s a b m h)
  have ue : t.ueWords a b.length = [] := by
    have h : ¬(a < lpddrEnd ∧ t.memEcc = true) := fun x => Nat.not_lt.mpr ha x.1
    rw [State.ueWords, State.faultWords, State.freshBad, hu, if_neg h]
    split <;> rfl
  have size : t.sizeAt a = b.length := by rw [State.sizeAt, get _ hk, hn]
  have st : ∀ n, n = 128 ∨ n = b.length → t.inStaging a n = true := fun n h => by rw [State.inStaging, hr n h]; rfl
  have good : t.inStaging a 128 ∧ t.sizeAt a ≤ 0x1000000 ∧ t.inStaging a (t.sizeAt a) ∧ (t.ueWords a (t.sizeAt a)).isEmpty := by
    rw [size, ue]; exact ⟨st _ (.inl rfl), hs, st _ (.inr rfl), rfl⟩
  exact (if_pos good).trans (by rw [size, get _ (Nat.le_refl _), List.take_length])

theorem loadImage_size : loadImage.length = 5472 := by decide +kernel
theorem loadImage_contSize : contSize (w32At (loadImage.take 128) 16).toNat = 5472 := by decide +kernel

theorem fwS_holds : fwS.containerAt 0x5800000000 = some loadImage := by
  refine containerAt_putBytes fwR fwS loadImage _ 0 ?_ ?_ ?_ (by simp only [fwS, State.putBytes]) rfl rfl ?_ ?_
  · rw [loadImage_size]; decide
  · rw [loadImage_size]; decide
  · exact loadImage_contSize.trans loadImage_size.symm
  · decide +kernel
  · rw [loadImage_size]
    rintro n (rfl | rfl) <;> decide +kernel

theorem fwS_running : fwS.mgmt.run = .running ∧ fwS.mgmt.imgLoad = true := ⟨by decide +kernel, by decide +kernel⟩

theorem test_meets_ManagementController_load (h : signed loadImage) :
    fwS.mgmt.run = .running ∧ fwS.mgmt.imgLoad = true ∧ fwS.containerAt 0x5800000000 = some loadImage ∧
    fwS.checkImage loadImage = ST.OK :=
  ⟨fwS_running.1, fwS_running.2, fwS_holds, fwS_checked h⟩

theorem test_meets_ManagementController_source :
    let s := (onS (memS (tState []))).wr Pg.MGT Off.MGT.FW_SRC_HI 0x58
    s.rd Pg.MGT Off.MGT.FW_SRC_HI = 0x58 ∧ s.rd Pg.MGT Off.MGT.FW_SRC_LO = 0 := by
  refine ⟨by decide +kernel, by decide +kernel⟩

theorem test_meets_ManagementController_owner (h : signed tChange) :
    ownS.mgmt.run ≠ .restarting ∧ checkContainer tChange 4 ownS.mram.ownerFp (ownerKey tChange).isSome true = ST.OK ∧
    ownerKey tChange = some (List.replicate 1952 0) := by
  refine ⟨by decide +kernel, checkContainer_ok (by decide +kernel) (by decide +kernel) ?_ h.1 h.2 rfl, by decide +kernel⟩
  have e : contKey tChange = List.replicate 1952 0 := by decide +kernel
  rw [e]
  rfl

theorem test_meets_ManagementController_setOwner :
    let s := (onS (memS (tState []))).wr Pg.SEC Off.SEC.OWNER_SRC_HI 0x58
    s.mgmt.run ≠ .restarting ∧ (∀ x ∈ s.mram.ownerFp, x = 0) ∧ (∃ n, s.regionOf 0x5800000000 1952 = some (.staging n)) ∧ s.ue = [] ∧
    s.rdF Pg.SEC Off.SEC.OWNER_SRC_HI 6 0 * 2 ^ 32 + (s.rd Pg.SEC Off.SEC.OWNER_SRC_LO).toNat = 0x5800000000 := by
  refine ⟨by decide +kernel, by decide +kernel, ⟨0, by decide +kernel⟩, rfl, by decide +kernel⟩

theorem test_meets_ManagementController_attest :
    let s := (onS (memS (tState []))).wr Pg.SEC Off.SEC.ATT_DST_HI 0x58
    s.sound = true ∧ s.ue = [] ∧ s.reportFits = true ∧ s.mgmt.run = .running ∧ { s with mgmt := { s.mgmt with report := true } }.mgmt.report = true := by
  decide +kernel

/-- Sets at a LOAD: accepted, with DATA outside LPDDR5X, with DATA of the active set; and the previous set of a start. -/
theorem test_meets_ConfigurationSets_loads (h : signed (tSet 0x1000)) (g : signed (tSet 0x4000000000)) :
    let cs := setOf (tSet 0x1000)
    (loadS 0x1000 none).checkSet (tSet 0x1000) = ST.OK ∧ (loadS 0x1000 none).dataInside cs = true ∧ dataMeets cs none = false ∧ cs.banks = [] ∧
    cs.data = [(0x1000, List.replicate 16 7)] ∧ (loadS 0x1000 none).sound = true ∧ (loadS 0x1000 none).ue = [] ∧
    (loadS 0x4000000000 none).checkSet (tSet 0x4000000000) = ST.OK ∧ (loadS 0x4000000000 none).dataInside (setOf (tSet 0x4000000000)) = false ∧
    dataMeets cs (some { cs with version := 4 }) = true ∧ (loadS 0x1000 (some { cs with version := 4 })).checkSet (tSet 0x1000) = ST.OK ∧
    prevS.storedSet (some 0) = some cs ∧ dataMeets cs prevS.mgmt.active = false := by
  have key : ∀ a, contKey (tSet a) = List.replicate 1952 0 → keyFp (contKey (tSet a)) = ownS.mram.ownerFp := fun a e => by rw [e]; rfl
  have k1 := key 0x1000 (by decide +kernel)
  have k2 := key 0x4000000000 (by decide +kernel)
  refine ⟨checkContainer_ok (by decide +kernel) (by decide +kernel) k1 h.1 h.2 (by decide +kernel), by decide +kernel, rfl, by decide +kernel,
    by decide +kernel, by decide +kernel, rfl, checkContainer_ok (by decide +kernel) (by decide +kernel) k2 g.1 g.2 (by decide +kernel),
    by decide +kernel, by decide +kernel, checkContainer_ok (by decide +kernel) (by decide +kernel) k1 h.1 h.2 (by decide +kernel), ?_, rfl⟩
  have c : prevS.checkStored (tSet 0x1000) = ST.OK := checkContainer_ok (by decide +kernel) (by decide +kernel) k1 h.1 h.2 (by decide +kernel)
  have d : prevS.dataInside (setOf (tSet 0x1000)) = true := by decide +kernel
  have e : prevS.setSlot (some 0) = tSet 0x1000 := rfl
  simp only [State.storedSet, e, c, d]
  rfl

/-! ## Words written out from Tables 6.8 to 6.19, high field first -/

/-- Word 20 of the program of Table 6.19: F.HOP in its sixteen bytes. -/
theorem test_decode_fHop : decodeWord 0 0x80088010_00000041_81443000_0E760341 =
    some (.fHop 0 { sync := { wen := true, weq := false, wt := 0, wv := 8, sen := true, sset := false, st := 1, sv := 0 }, rel := false, bayer := true, rp := 6, nc := 162, nl := 12, rowi := 0, row := 14, cl := 7, ln := 6, buf := 0, race := 3 }) := by decide +kernel

/-- ADD S[1] := S[2] + 7. -/
theorem test_decode_add : decodeWord 3 (0#64 ++ 7#32 ++ 0#9 ++ 1#1 ++ 0#1 ++ 0#1 ++ 0#4 ++ 2#4 ++ 1#4 ++ 0x03#8) =
    some (.add 3 { immx := 0, imm := 7, bi := true, aa := false, da := false, b := 0, a := 2, d := 1 }) := by decide +kernel

/-- BC to word 40 while S[2] is below 9. -/
theorem test_decode_bc : decodeWord 3 (0#32 ++ 9#32 ++ 0#21 ++ 40#11 ++ 0#5 ++ 0#3 ++ 0#4 ++ 2#3 ++ 1#1 ++ 0#4 ++ 2#4 ++ 0x22#8) =
    some (.bc 3 { imm := 9, target := 40, tsh := 0, qm := 0, idx := 0, cond := 2, bi := true, b := 0, a := 2 }) := by decide +kernel

/-- W.COPY by multicast, with a signal. -/
theorem test_decode_wCopy :
    decodeWord 3 (0#1 ++ 0#1 ++ 0#10 ++ 0#4 ++ 1#1 ++ 1#1 ++ 513#10 ++ 6#4 ++ 0#1 ++ 1#1 ++ 12#4 ++ 2#4 ++ 32#8 ++ 500#16 ++ 8#10 ++ 32#13 ++ 472#14 ++
      14#4 ++ 13#4 ++ 6#3 ++ 4#6 ++ 0xC0#8) =
    some (.wCopy 3 { sync := { wen := false, weq := false, wt := 0, wv := 0, sen := true, sset := true, st := 513, sv := 6 }, mc := true, vb := 12, vl := 2, rp := 32, mp := 500, nl := 8, lb := 32, rowi := 472, row := 14, ofs := 13, ar := 6, race := 4 }) := by decide +kernel

/-- F.RQT of 5 entries of image 1 from entry 7. -/
theorem test_decode_fRqt :
    decodeWord 3 (0#32 ++ 7#32 ++ 0#9 ++ 1#1 ++ 0#11 ++ 5#11 ++ 288#10 ++ 1#1 ++ 0#4 ++ 0#3 ++ 9#6 ++ 0x43#8) =
    some (.fRqt 3 { sync := tSync, imm := 7, img := true, dst := 0, len := 5, woff := 288, half := true, ofs := 0, ar := 0, race := 9 }) := by
  decide +kernel

/-- X.CONV of word 22 of Table 6.19: TW 5 and TL 5 are stored minus one. -/
theorem test_decode_xConv :
    decodeWord 3 (0#15 ++ 1#2 ++ 0#1 ++ 0#1 ++ 40#8 ++ 6#8 ++ 0#4 ++ 0#6 ++ 4#6 ++ 4#5 ++ 288#10 ++ 0#10 ++ 14#4 ++ 14#4 ++ 72#14 ++ 0#14 ++ 14#4 ++ 0#4 ++
      0x60#8) =
    some (.xConv 3 { ich := 1, accout := false, accin := false, opt := 40, ip := 6, cob := 0, cib := 0, tl := 4, tw := 4, qoff := 288, woff := 0, val := 14, edge := 14, outi := 72, ini := 0, rb := 14, layer := 0 }) := by decide +kernel

/-- X.WLDS with TRANS, and X.POOL with an average. -/
theorem test_decode_xWlds : decodeWord 3 (0#83 ++ 1#1 ++ 64#7 ++ 1#1 ++ 5#10 ++ 7#14 ++ 2#4 ++ 0x61#8) =
    some (.xWlds 3 { trans := true, nt := 64, half := true, woff := 5, rowi := 7, rb := 2 }) := by decide +kernel
theorem test_decode_xPool :
    decodeWord 3 (0#32 ++ 1#1 ++ 8#8 ++ 9#8 ++ 2#6 ++ 3#6 ++ 4#5 ++ 5#10 ++ 6#4 ++ 7#4 ++ 10#14 ++ 11#14 ++ 12#4 ++ 13#4 ++ 0x63#8) =
    some (.xPool 3 { func := true, opt := 8, ip := 9, cb := 2, tl := 3, tw := 4, qoff := 5, val := 6, edge := 7, outi := 10, ini := 11, rb := 12, layer := 13 }) := by decide +kernel

/-- VLD of SB8, and VSHL by 63. -/
theorem test_decode_vld :
    decodeWord 3 (0#46 ++ 254#8 ++ 9#14 ++ 1#4 ++ 2#2 ++ 8#14 ++ 3#4 ++ 0#1 ++ 4#3 ++ 0#2 ++ 0#6 ++ 0#4 ++ 0#4 ++ 0#4 ++ 6#4 ++ 0x80#8) =
    some (.vld 3 { xb := 254, xri := 9, xr := 1, part := 2, rwi := 8, rw := 3, sb := false, fmt := 4, rel := 0, n := 0, vc := 0, vb := 0, va := 0, vd := 6 }) := by decide +kernel
theorem test_decode_vshl :
    decodeWord 3 (0#46 ++ 0#8 ++ 0#14 ++ 0#4 ++ 0#2 ++ 0#14 ++ 0#4 ++ 0#1 ++ 0#3 ++ 0#2 ++ 63#6 ++ 0#4 ++ 0#4 ++ 5#4 ++ 6#4 ++ 0x8E#8) =
    some (.vshl 3 { xb := 0, xri := 0, xr := 0, part := 0, rwi := 0, rw := 0, sb := false, fmt := 0, rel := 0, n := 63, vc := 0, vb := 0, va := 5, vd := 6 }) := by decide +kernel

/-- W.GLZ to unit 5. -/
theorem test_decode_wGlz :
    decodeWord 3 (0#32 ++ 0#14 ++ 9#4 ++ 1#4 ++ 2#4 ++ 3#8 ++ 4#10 ++ 5#13 ++ 6#14 ++ 7#4 ++ 8#4 ++ 5#3 ++ 10#6 ++ 0xC1#8) =
    some (.wGlz 3 { sync := tSync, ctx := 9, vb := 1, vl := 2, rp := 3, nl := 4, lb := 5, rowi := 6, row := 7, line := 8, glz := 5, race := 10 }) := by
  decide +kernel

/-- T.RUPD by the XQ, and S.OPEN of window 7 over all rows. -/
theorem test_decode_tRupd : decodeWord 3 (0#32 ++ 0#32 ++ 0#34 ++ 4#4 ++ 5#4 ++ 0#1 ++ 1#1 ++ 1023#10 ++ 2#2 ++ 0xE2#8) =
    some (.tRupd 3 { imm := 0, dr := 4, vr := 5, vi := false, c := true, t := 1023, q := 2 }) := by decide +kernel
theorem test_decode_sOpen : decodeWord 3 (0#32 ++ 0#41 ++ 300#10 ++ 1#1 ++ 16384#15 ++ 5#14 ++ 6#4 ++ 7#3 ++ 0xE8#8) =
    some (.sOpen 3 { sync := tSync, t := 300, ten := true, nr := 16384, rowi := 5, row := 6, win := 7 }) := by decide +kernel

/-- Opcodes that Table 6.2 does not list, and a 1 in a RSV bit. -/
theorem test_decode_reserved : decodeWord 3 0x13#128 = none ∧ decodeWord 3 0x25#128 = none ∧ decodeWord 3 0x47#128 = none ∧
    decodeWord 3 0xB5#128 = none ∧ decodeWord 3 0xEA#128 = none ∧ decodeWord 3 (0x03#128 ||| (1#128 <<< 23)) = none := by decide +kernel

/-! ## Links, written out from Tables 15.3 to 15.5 -/

/-- CRC-32C of the digits 1 to 9, as its definition is checked elsewhere (PRESUMED: log entry 71). -/
theorem test_crc32c : crc32c ((List.range 9).map fun i => BitVec.ofNat 8 (0x31 + i)) = 0xE3069283 := by decide +kernel

/-- The header slot of a TALLY_ADD and of an ACK, high field first; both read back. -/
def wireAdd : Msg := { op := .tallyAdd, dst := 5, src := 9, seq := 0x1234, addr := 0x123, value := 7 }
def wireAck : Msg := { op := .ack, dst := 5, src := 9, seq := 0x1234, status := 0x20, detail := 6 }

theorem test_header_slot :
    headerSlot wireAdd = 0#32 ++ 0#32 ++ 7#32 ++ 0#8 ++ 0#5 ++ 0#6 ++ 0#5 ++ 0#24 ++ 0#9 ++ 0x123#39 ++ 0#12 ++ 0x1234#16 ++ 0#2 ++ 9#9 ++ 5#9 ++ 0#4 ++ 1#4 ++ 0x07#8 ∧
    headerSlot wireAck = 0#32 ++ 0#32 ++ 0#32 ++ 0#8 ++ 0#5 ++ 0#6 ++ 0#5 ++ 0#24 ++ 6#24 ++ 0x20#8 ++ 0x1234#16 ++ 0#12 ++ 0#16 ++ 1#2 ++ 9#9 ++ 5#9 ++ 0#4 ++ 1#4 ++ 0x10#8 ∧
    slotMsg (headerSlot wireAdd) = wireAdd ∧ slotMsg (headerSlot wireAck) = wireAck := by decide +kernel

/-- The header of a data flit in which messages begin at slots 0, 2 and 5. -/
theorem test_flit_header : flitWord { fseq := 0xABC, fack := 0x123, crcls := 3, crcnt := 7 } .data (startBits [2, 3, 4]) =
    0xABC#12 ++ 0x123#12 ++ 0#4 ++ 3#5 ++ 7#7 ++ 0#15 ++ 0b100101#9 := by decide +kernel

/-! ## Ill-formed commands refused, one for each check -/

/-- The worked examples after Table 20.8. -/
theorem test_balls : ballMap 11 48 = .mc 5 "DQ9" ∧ ballNo 11 48 = 2549 ∧ ballCentre 11 48 = (-165, -205) ∧
    ballMap 47 29 = .spPhy 13 4 ∧ ballNo 47 29 = 1559 ∧ ballCentre 47 29 = (195, -15) ∧ ballAt 2549 = (11, 48) :=
  ⟨rfl, rfl, rfl, rfl, rfl, rfl, rfl⟩

def tBalls (v : Supply) : Nat := ((List.range 2916).filter fun i => ballMap (ballAt (i + 1)).1 (ballAt (i + 1)).2 == .supply v).length

/-- Table 20.8: two of its counts. -/
theorem test_ball_counts : tBalls .vddLink = 100 ∧ tBalls .vss = 1044 := by decide +kernel

/-- An unused field, mixed register kinds of ADD, A[9], and their well-formed neighbours. -/
theorem test_wf_edpervo :
    instrWf (.vabs 0 { vf with n := 0, vc := 0, vb := 1 }) = false ∧ instrWf (.vabs 0 { vf with n := 0, vc := 0, vb := 0 }) = true ∧
    instrWf (.add 0 { f1 with da := true, aa := false, bi := true, b := 0 }) = false ∧
    instrWf (.movi 0 { f1 with da := true, d := 9, bi := false, a := 0, b := 0 }) = false ∧
    instrWf (.movi 0 { f1 with da := true, d := 7, bi := false, a := 0, b := 0 }) = true := by decide +kernel

/-- A register offset that is no multiple of 4, a burst off its alignment, a short mask, a transfer past its page, 39 temperatures. -/
theorem test_wf_operands :
    instrWf (.registerWrite .mc 5 0x19 0) = false ∧ instrWf (.registerWrite .mc 5 0x18 0) = true ∧
    instrWf (.hostWrite 0 0x10 ⟨List.replicate 32 0, .ok⟩) = false ∧ instrWf (.hostWrite 0 0x20 ⟨List.replicate 31 0, .ok⟩) = false ∧
    instrWf (.hostMaskedWrite 0 0x20 ⟨List.replicate 32 0, .ok⟩ [true]) = false ∧ instrWf (.boardControllerTransfer 0 0xFFC [] 2) = false ∧
    instrWf (.monitorSample (List.replicate 39 0) (List.replicate 16 0) 0) = false := by decide +kernel

/-- A message under another command, one with too few slots, one with more than 256 bytes. -/
theorem test_wf_messages :
    instrWf (.wrMem 0 { op := .rdReq }) = false ∧ instrWf (.rdReq 0 { op := .rdReq, len := 5 }) = false ∧
    instrWf (.rdReq 0 { op := .rdReq, len := 1 }) = true ∧ instrWf (.rdReq 0 { op := .rdReq, len := 1, data := List.replicate 257 0 }) = false := by
  decide +kernel

end Sys2Proof.Tests
end

section
/-! Rounding, saturation and fields (R35, 04_arithmetic.md): what the exact functions of the rules return. -/
namespace Sys2Proof.Machine

theorem two_pow_pos (s : Nat) : (0 : Int) < 2 ^ s := Int.pow_pos (by decide)

theorem natCast_two_pow (s : Nat) : ((2 ^ s : Nat) : Int) = 2 ^ s := Int.natCast_pow 2 s

/-- rhe returns an integer nearest to a / 2^s, and the even one of two that are as near. -/
theorem rhe_nearest (a : Int) (s : Nat) :
    2 * (a - rhe a s * 2 ^ s).natAbs ≤ 2 ^ s ∧ (2 * (a - rhe a s * 2 ^ s).natAbs = 2 ^ s → rhe a s % 2 = 0) := by
  have hpos := two_pow_pos s
  have hcast := natCast_two_pow s
  have hlow : 0 ≤ a - a / 2 ^ s * 2 ^ s := by have := Int.ediv_mul_le a (Int.ne_of_gt hpos); omega
  have hhigh : a - a / 2 ^ s * 2 ^ s < 2 ^ s := by have := Int.lt_ediv_add_one_mul_self a hpos; rw [Int.add_mul] at this; omega
  simp only [rhe, Int.fdiv_eq_ediv_of_nonneg _ (Int.le_of_lt hpos), Int.fmod_eq_emod_of_nonneg _ (show (0 : Int) ≤ 2 by decide)]
  split
  · rw [Int.add_mul, Int.one_mul]; omega
  · omega

/-- Rounding does not leave a range around 0. -/
theorem rhe_mem_range {a lo hi : Int} (s : Nat) (hlo : lo ≤ 0) (hhi : 0 ≤ hi) (h : lo ≤ a ∧ a ≤ hi) : lo ≤ rhe a s ∧ rhe a s ≤ hi := by
  have hpos := two_pow_pos s
  have hcast := natCast_two_pow s
  have hnear := (rhe_nearest a s).1
  constructor
  · refine Int.not_lt.mp fun hlt => ?_
    have hstep : rhe a s * 2 ^ s ≤ (lo - 1) * 2 ^ s := Int.mul_le_mul_of_nonneg_right (by omega) (Int.le_of_lt hpos)
    have hscale : lo * 2 ^ s ≤ lo * 1 := Int.mul_le_mul_of_nonpos_left hlo hpos
    rw [Int.sub_mul] at hstep
    omega
  · refine Int.not_lt.mp fun hlt => ?_
    have hstep : (hi + 1) * 2 ^ s ≤ rhe a s * 2 ^ s := Int.mul_le_mul_of_nonneg_right (by omega) (Int.le_of_lt hpos)
    have hscale : hi * 1 ≤ hi * 2 ^ s := Int.mul_le_mul_of_nonneg_left hpos hhi
    rw [Int.add_mul] at hstep
    omega

/-- A signed number of 32 bits is read back from its word. -/
theorem toInt_ofInt_of_mem {x : Int} (h : -(2 ^ 31) ≤ x ∧ x ≤ 2 ^ 31 - 1) : (BitVec.ofInt 32 x).toInt = x :=
  BitVec.toInt_ofInt_eq_self (by decide) h.1 (by omega)

theorem toInt_mem (a : W32) : -(2 ^ 31) ≤ a.toInt ∧ a.toInt ≤ 2 ^ 31 - 1 := ⟨a.le_toInt, Int.le_sub_one_of_lt a.toInt_lt⟩

/-- A signed 16-bit field is the field's bits as a signed number. -/
theorem sfld_eq_toInt (w : W32) (lo : Nat) : sfld w (lo + 15) lo = ((w >>> lo).setWidth 16).toInt := by
  have hw : ((w >>> lo).setWidth 16).toNat = fld w (lo + 15) lo := by simp [fld]
  simp only [sfld, BitVec.toInt_eq_toNat_cond, hw, Nat.add_sub_cancel_left]
  split <;> split <;> omega

end Sys2Proof.Machine
end

section
/-! Lanes and flags of a whole register: every command over lanes is a map over the 64 lane numbers. -/
namespace Sys2Proof.Machine

variable {ι : Type} {k : Core} {e : QEntry} {f : VecF}

/-- Lane l of the second operand: the register's lane, or under SB the S register at issue (Table 6.16). -/
def operandB (k : Core) (e : QEntry) (f : VecF) (l : Nat) : W32 := if f.sb then e.s f.vb.toNat else k.vlane f.vb.toNat l

theorem vecB_eq_map (k : Core) (e : QEntry) (f : VecF) : vecB k e f = (List.range 64).map (operandB k e f) := by
  unfold vecB operandB
  split
  · rw [List.map_const', List.length_range]
  · rfl

theorem lanes1_eq_map (g : W32 → W32 × AFlags) :
    lanes1 k f g = gather ((List.range 64).map fun l => g (k.vlane f.va.toNat l)) := by
  rw [lanes1, Core.vec, List.map_map]; rfl

theorem lanes2_eq_map (g : W32 → W32 → W32 × AFlags) :
    lanes2 k e f g = gather ((List.range 64).map fun l => g (k.vlane f.va.toNat l) (operandB k e f l)) := by
  rw [lanes2, vecB_eq_map, Core.vec, List.zipWith_map, List.zipWith_self]

theorem lanes3_eq_map (g : W32 → W32 → W32 → W32 × AFlags) :
    lanes3 k e f g = gather ((List.range 64).map fun l => g (k.vlane f.va.toNat l) (operandB k e f l) (k.vlane f.vc.toNat l)) := by
  rw [lanes3, vecB_eq_map, Core.vec, Core.vec, List.zip_map', List.zipWith_map, List.zipWith_self]

theorem reduce_eq_map (r : W32) : reduce (r, 0) = ((List.range 64).map fun _ => r, 0) := by
  rw [reduce, List.map_const', List.length_range]

theorem flagIf_or (a b : Bool) (F : AFlags) : flagIf a F ||| flagIf b F = flagIf (a || b) F := by
  cases a <;> cases b <;> simp [flagIf]

theorem flagIf_sat_iff (b : Bool) : flagIf b AF.SAT = AF.SAT ↔ b = true := by cases b <;> decide

theorem flagIf_eq_or (b : Bool) (F : AFlags) : flagIf b F = F ∨ flagIf b F = 0 := by cases b <;> simp [flagIf]

theorem foldl_flags (g : ι → W32 × AFlags) (p : ι → Bool) (F : AFlags) (h : ∀ i, (g i).2 = flagIf (p i) F) (l : List ι) (b : Bool) :
    l.foldl (fun fl i => fl ||| (g i).2) (flagIf b F) = flagIf (b || l.any p) F := by
  induction l generalizing b with
  | nil => simp
  | cons i l ih => rw [List.foldl_cons, h, flagIf_or, ih, List.any_cons, Bool.or_assoc]

/-- Where each lane sets at most the flag F, the register sets it if one of its lanes does. -/
theorem gather_map (g : ι → W32 × AFlags) (p : ι → Bool) (F : AFlags) (h : ∀ i, (g i).2 = flagIf (p i) F) (l : List ι) :
    gather (l.map g) = (l.map fun i => (g i).1, flagIf (l.any p) F) := by
  rw [gather, List.map_map, List.foldl_map]
  exact congrArg _ (foldl_flags g p F h l false)

theorem gather_map_pure (r : ι → W32) (l : List ι) : gather (l.map fun i => (r i, 0)) = (l.map r, 0) :=
  gather_map (fun i => (r i, 0)) (fun _ => false) 0 (fun _ => rfl) l |>.trans (by simp [flagIf])

theorem getD_map_range {n l : Nat} (r : Nat → W32) (h : l < n) : ((List.range n).map r).getD l 0 = r l := by
  simp [List.getD_eq_getElem?_getD, h]

end Sys2Proof.Machine
end

section
/-! Integer lanes (Table 4.4): what each lane function returns, in terms of the numbers its operands stand for. -/
namespace Sys2Proof.Machine

/-- An exact value clamped to 32 signed bits, with SAT where it lies outside. -/
def satLane (x : Int) : W32 × AFlags :=
  (BitVec.ofInt 32 (sat x (-(2 ^ 31)) (2 ^ 31 - 1)), flagIf (decide (x < -(2 ^ 31) ∨ 2 ^ 31 - 1 < x)) AF.SAT)

theorem laneAdds_eq_satLane (a b : W32) : laneAdds a b = satLane (a.toInt + b.toInt) := rfl

theorem laneSubs_eq_satLane (a b : W32) : laneSubs a b = satLane (a.toInt - b.toInt) := rfl

theorem laneAbs_eq_satLane (a : W32) : laneAbs a = satLane (max a.toInt (-a.toInt)) := by
  rw [show max a.toInt (-a.toInt) = (a.toInt.natAbs : Int) by omega]; rfl

theorem toInt_satLane (x : Int) : (satLane x).1.toInt = min (max x (-(2 ^ 31))) (2 ^ 31 - 1) :=
  toInt_ofInt_of_mem (by unfold sat; omega)

theorem toInt_laneMin (a b : W32) : (laneMin a b).toInt = min a.toInt b.toInt := by
  rw [laneMin, apply_ite BitVec.toInt]
  simp only [BitVec.slt_iff_toInt_lt]
  split <;> omega

theorem toInt_laneMax (a b : W32) : (laneMax a b).toInt = max a.toInt b.toInt := by
  rw [laneMax, apply_ite BitVec.toInt]
  simp only [BitVec.slt_iff_toInt_lt]
  split <;> omega

/-- From 32 on, 2^n is a multiple of 2^32: no bit of the lane stays. -/
theorem toNat_laneShl (n : Nat) (a : W32) : (laneShl n a).toNat = a.toNat * 2 ^ n % 2 ^ 32 := by
  unfold laneShl
  split
  · next h => rw [Nat.mod_eq_zero_of_dvd (Nat.dvd_mul_left_of_dvd (Nat.pow_dvd_pow 2 h) _)]; rfl
  · rw [BitVec.toNat_shiftLeft, Nat.shiftLeft_eq]

theorem two_mul_natAbs_toInt_le (a : W32) {n : Nat} (h : 32 ≤ n) : 2 * (a.toInt.natAbs : Int) ≤ 2 ^ n := by
  have hpow : 2 ^ 32 ≤ 2 ^ n := Nat.pow_le_pow_right (by decide) h
  have hcast := natCast_two_pow n
  have := toInt_mem a
  omega

theorem toInt_laneShra (n : Nat) (a : W32) : (laneShra n a).toInt = a.toInt.fdiv (2 ^ n) := by
  rw [Int.fdiv_eq_ediv_of_nonneg _ (Int.le_of_lt (two_pow_pos n))]
  unfold laneShra
  split
  · next h =>
    have hsmall := two_mul_natAbs_toInt_le a h
    have hpos := two_pow_pos n
    simp only [BitVec.slt_iff_toInt_lt, show (0 : W32).toInt = 0 by decide]
    split
    · next hneg => exact (Int.ediv_eq_neg_one_of_neg_of_le hneg (by omega)).symm
    · next hneg => exact (Int.ediv_eq_zero_of_lt (Int.not_lt.mp hneg) (by omega)).symm
  · rw [BitVec.toInt_sshiftRight, Int.shiftRight_eq_div_pow, natCast_two_pow]

/-- Below 32 the lane is rhe(a, n); from 32 on it is 0, which is as near and even. -/
theorem laneShrr_nearest (n : Nat) (a : W32) :
    2 * (a.toInt - (laneShrr n a).toInt * 2 ^ n).natAbs ≤ 2 ^ n ∧
      (2 * (a.toInt - (laneShrr n a).toInt * 2 ^ n).natAbs = 2 ^ n → (laneShrr n a).toInt % 2 = 0) := by
  unfold laneShrr
  split
  · next h =>
    have hsmall : 2 * a.toInt.natAbs ≤ 2 ^ n := by exact_mod_cast two_mul_natAbs_toInt_le a h
    simpa using hsmall
  · rw [toInt_ofInt_of_mem (rhe_mem_range n (by decide) (by decide) (toInt_mem a))]
    exact rhe_nearest a.toInt n

/-- The relation that REL names (Table 6.16). -/
def RelHolds (rel : BitVec 2) (a b : W32) : Prop :=
  if rel = 0 then a = b else if rel = 1 then a ≠ b else if rel = 2 then a.toInt < b.toInt else a.toInt ≤ b.toInt

theorem laneCmp_of_rel (rel : BitVec 2) (a b : W32) :
    (RelHolds rel a b → (laneCmp rel.toNat a b).toNat = 2 ^ 32 - 1) ∧ (¬RelHolds rel a b → (laneCmp rel.toNat a b).toNat = 0) := by
  have hrel : rel = 0 ∨ rel = 1 ∨ rel = 2 ∨ rel = 3 := by decide +revert
  obtain rfl | rfl | rfl | rfl := hrel
  · by_cases h : a = b <;> simp [RelHolds, laneCmp, h]
  · by_cases h : a = b <;> simp [RelHolds, laneCmp, h]
  · by_cases h : a.toInt < b.toInt <;> simp [RelHolds, laneCmp, BitVec.slt_eq_decide, h]
  · by_cases h : a.toInt ≤ b.toInt <;> simp [RelHolds, laneCmp, BitVec.sle_eq_decide, h]

/-- The rounded value of a requantised lane before it is clamped (R79, R137). -/
def rqValue (a b : W32) : Int := rhe (a.toInt * ((b.toNat % 2 ^ 16 : Nat) : Int)) (min (b.toNat / 2 ^ 16 % 64) 47)

theorem laneRq_eq (fmt : Nat) (a b m : W32) :
    laneRq fmt a b m = (BitVec.ofInt 32 (sat (rqValue a b) ((m.setWidth 16).toInt) (((m >>> 16).setWidth 16).toInt)),
      flagIf (decide (rqValue a b < (fmtRange fmt).1 ∨ (fmtRange fmt).2 < rqValue a b)) AF.SAT) := by
  have hlo : sfld m 15 0 = (m.setWidth 16).toInt := by simpa using sfld_eq_toInt m 0
  have hhi : sfld m 31 16 = ((m >>> 16).setWidth 16).toInt := sfld_eq_toInt m 16
  simp only [laneRq, requant, hlo, hhi, fld_eq, rqValue, Nat.pow_zero, Nat.div_one, Nat.reduceSub, Nat.reduceAdd, Nat.reducePow]
  rfl

theorem toInt_laneRq (fmt : Nat) (a b m : W32) :
    (laneRq fmt a b m).1.toInt = min (max (rqValue a b) ((m.setWidth 16).toInt)) ((m >>> 16).setWidth 16).toInt := by
  have hlo := (m.setWidth 16).le_toInt
  have hlo' := (m.setWidth 16).toInt_lt
  have hhi := ((m >>> 16).setWidth 16).le_toInt
  have hhi' := ((m >>> 16).setWidth 16).toInt_lt
  rw [laneRq_eq]
  exact toInt_ofInt_of_mem (by unfold sat; omega)

end Sys2Proof.Machine
end

section
/-! Reductions (R135): a fold over the lanes keeps the sum, or one of the lanes that no other passes. -/
namespace Sys2Proof.Machine

theorem toNat_foldl_add (l : List W32) (x : W32) : (l.foldl (· + ·) x).toNat = (x.toNat + (l.map BitVec.toNat).sum) % 2 ^ 32 := by
  induction l generalizing x with
  | nil => simp [Nat.mod_eq_of_lt x.isLt]
  | cons y l ih =>
    rw [List.foldl_cons, ih, BitVec.toNat_add, List.map_cons, List.sum_cons]
    omega

/-- An operation that returns the operand with the larger key. -/
def PicksLarger (key : W32 → Int) (op : W32 → W32 → W32) : Prop :=
  ∀ a b, (op a b = a ∨ op a b = b) ∧ key a ≤ key (op a b) ∧ key b ≤ key (op a b)

theorem picksLarger_laneMax : PicksLarger BitVec.toInt laneMax := fun a b =>
  ⟨by unfold laneMax; split <;> simp, by rw [toInt_laneMax]; omega⟩

theorem picksLarger_laneMin : PicksLarger (fun a => -a.toInt) laneMin := fun a b =>
  ⟨by unfold laneMin; split <;> simp, by simp only [toInt_laneMin]; omega⟩

theorem PicksLarger.foldl {key : W32 → Int} {op : W32 → W32 → W32} (hop : PicksLarger key op) (l : List W32) (x : W32) :
    l.foldl op x ∈ x :: l ∧ ∀ y ∈ x :: l, key y ≤ key (l.foldl op x) := by
  induction l generalizing x with
  | nil => simp
  | cons z l ih =>
    obtain ⟨hsel, hx, hz⟩ := hop x z
    obtain ⟨hmem, hle⟩ := ih (op x z)
    have htop := hle _ List.mem_cons_self
    constructor
    · rw [List.foldl_cons]
      obtain h | h := List.mem_cons.mp hmem
      · rw [h]
        obtain hs | hs := hsel <;> simp [hs]
      · exact List.mem_cons_of_mem _ (List.mem_cons_of_mem _ h)
    · intro y hy
      obtain rfl | rfl | hy := (by simpa using hy : y = x ∨ y = z ∨ y ∈ l)
      · exact Int.le_trans hx htop
      · exact Int.le_trans hz htop
      · exact hle y (List.mem_cons_of_mem _ hy)

/-- The fold over a register from its lane 0 is a lane that none passes. -/
theorem PicksLarger.foldl_vec {key : W32 → Int} {op : W32 → W32 → W32} (hop : PicksLarger key op) (k : Core) (v : Nat) :
    (∃ l < 64, (k.vec v).foldl op (k.vlane v 0) = k.vlane v l) ∧ ∀ l < 64, key (k.vlane v l) ≤ key ((k.vec v).foldl op (k.vlane v 0)) := by
  have hlane : ∀ l < 64, k.vlane v l ∈ k.vec v := fun l hl => List.mem_map_of_mem (List.mem_range.mpr hl)
  obtain ⟨hmem, hle⟩ := hop.foldl (k.vec v) (k.vlane v 0)
  refine ⟨?_, fun l hl => hle _ (List.mem_cons_of_mem _ (hlane l hl))⟩
  obtain h | h := List.mem_cons.mp hmem
  · exact ⟨0, by decide, h⟩
  · obtain ⟨l, hl, h⟩ := List.mem_map.mp h
    exact ⟨l, List.mem_range.mp hl, h.symm⟩

end Sys2Proof.Machine
end

section
/-! Integer lane commands (R82, R135, R137): what vecResult gives for each. -/
namespace Sys2Proof.Machine

variable {k : Core} {e : QEntry} {c : Fin 32} {f : VecF} {d : Nat}

/-- The entry writes 64 lanes of register d that meet P, and sets no flag. -/
def WritesLanes (k : Core) (e : QEntry) (d : Nat) (P : Nat → W32 → Prop) : Prop :=
  ∃ ls, vecResult k e = some (d, ls, 0) ∧ ls.length = 64 ∧ ∀ l < 64, P l (ls.getD l 0)

/-- The entry writes the values x clamped to 32 signed bits to register d, and sets SAT where one lies outside. -/
def WritesSatLanes (k : Core) (e : QEntry) (d : Nat) (x : Nat → Int) : Prop :=
  ∃ ls fl, vecResult k e = some (d, ls, fl) ∧ ls.length = 64 ∧ (∀ l < 64, (ls.getD l 0).toInt = min (max (x l) (-(2 ^ 31))) (2 ^ 31 - 1)) ∧
    (fl = AF.SAT ↔ ∃ l < 64, x l < -(2 ^ 31) ∨ 2 ^ 31 - 1 < x l) ∧ (fl = AF.SAT ∨ fl = 0)

theorem WritesLanes.of_map {P : Nat → W32 → Prop} (r : Nat → W32) (hv : vecResult k e = some (d, (List.range 64).map r, 0))
    (hP : ∀ l < 64, P l (r l)) : WritesLanes k e d P :=
  ⟨_, hv, by simp, fun l hl => by rw [getD_map_range r hl]; exact hP l hl⟩

theorem WritesLanes.of_lanes1 {P : Nat → W32 → Prop} (g : W32 → W32) (hv : vecResult k e = some (d, lanes1 k f (pure1 g)))
    (hP : ∀ l, P l (g (k.vlane f.va.toNat l))) : WritesLanes k e d P :=
  .of_map _ (by rw [hv, lanes1_eq_map]; exact congrArg _ (congrArg _ (gather_map_pure _ _))) fun l _ => hP l

theorem WritesLanes.of_lanes2 {P : Nat → W32 → Prop} (g : W32 → W32 → W32) (hv : vecResult k e = some (d, lanes2 k e f (pure2 g)))
    (hP : ∀ l, P l (g (k.vlane f.va.toNat l) (operandB k e f l))) : WritesLanes k e d P :=
  .of_map _ (by rw [hv, lanes2_eq_map]; exact congrArg _ (congrArg _ (gather_map_pure _ _))) fun l _ => hP l

theorem WritesLanes.of_reduce {P : Nat → W32 → Prop} (r : W32) (hv : vecResult k e = some (d, reduce (r, 0))) (hP : ∀ l, P l r) :
    WritesLanes k e d P :=
  .of_map (fun _ => r) (by rw [hv, reduce_eq_map]) fun l _ => hP l

/-- A set SAT flag of a register says that some lane lay outside. -/
theorem sat_flag_iff (p : Nat → Prop) [DecidablePred p] :
    (flagIf ((List.range 64).any fun l => decide (p l)) AF.SAT = AF.SAT ↔ ∃ l < 64, p l) ∧
      (flagIf ((List.range 64).any fun l => decide (p l)) AF.SAT = AF.SAT ∨ flagIf ((List.range 64).any fun l => decide (p l)) AF.SAT = 0) :=
  ⟨by rw [flagIf_sat_iff]; simp, flagIf_eq_or _ _⟩

theorem WritesSatLanes.of_satLane (x : Nat → Int) (hv : vecResult k e = some (d, gather ((List.range 64).map fun l => satLane (x l)))) :
    WritesSatLanes k e d x := by
  rw [gather_map _ _ AF.SAT fun l => rfl] at hv
  exact ⟨_, _, hv, by simp, fun l hl => by rw [getD_map_range _ hl]; exact toInt_satLane _, sat_flag_iff _⟩

/-! ## Sums, differences and products -/

theorem vadd_writes (h : e.op = .vadd c f) :
    WritesLanes k e f.vd.toNat fun l r => r.toNat = ((k.vlane f.va.toNat l).toNat + (operandB k e f l).toNat) % 2 ^ 32 :=
  .of_lanes2 _ (by rw [vecResult, h]) fun _ => BitVec.toNat_add _ _

theorem vsub_writes (h : e.op = .vsub c f) :
    WritesLanes k e f.vd.toNat fun l r => (r.toNat + (operandB k e f l).toNat) % 2 ^ 32 = (k.vlane f.va.toNat l).toNat :=
  .of_lanes2 _ (by rw [vecResult, h]) fun l => by
    rw [← BitVec.toNat_add, BitVec.sub_add_cancel]

theorem vmul_writes (h : e.op = .vmul c f) :
    WritesLanes k e f.vd.toNat fun l r => r.toNat = (k.vlane f.va.toNat l).toNat * (operandB k e f l).toNat % 2 ^ 32 :=
  .of_lanes2 _ (by rw [vecResult, h]) fun _ => BitVec.toNat_mul _ _

theorem vadds_writes (h : e.op = .vadds c f) :
    WritesSatLanes k e f.vd.toNat fun l => (k.vlane f.va.toNat l).toInt + (operandB k e f l).toInt :=
  .of_satLane _ (by rw [vecResult, h]; exact congrArg _ (congrArg _ (lanes2_eq_map _)))

theorem vsubs_writes (h : e.op = .vsubs c f) :
    WritesSatLanes k e f.vd.toNat fun l => (k.vlane f.va.toNat l).toInt - (operandB k e f l).toInt :=
  .of_satLane _ (by rw [vecResult, h]; exact congrArg _ (congrArg _ (lanes2_eq_map _)))

theorem vabs_writes (h : e.op = .vabs c f) :
    WritesSatLanes k e f.vd.toNat fun l => max (k.vlane f.va.toNat l).toInt (-(k.vlane f.va.toNat l).toInt) :=
  .of_satLane _ (by rw [vecResult, h]; simp only [lanes1_eq_map, laneAbs_eq_satLane])

/-! ## Minima, maxima and bits -/

theorem vmin_writes (h : e.op = .vmin c f) :
    WritesLanes k e f.vd.toNat fun l r => r.toInt = min (k.vlane f.va.toNat l).toInt (operandB k e f l).toInt :=
  .of_lanes2 _ (by rw [vecResult, h]) fun _ => toInt_laneMin _ _

theorem vmax_writes (h : e.op = .vmax c f) :
    WritesLanes k e f.vd.toNat fun l r => r.toInt = max (k.vlane f.va.toNat l).toInt (operandB k e f l).toInt :=
  .of_lanes2 _ (by rw [vecResult, h]) fun _ => toInt_laneMax _ _

theorem vand_writes (h : e.op = .vand c f) :
    WritesLanes k e f.vd.toNat fun l r => ∀ i, r.getLsbD i = ((k.vlane f.va.toNat l).getLsbD i && (operandB k e f l).getLsbD i) :=
  .of_lanes2 _ (by rw [vecResult, h]) fun _ _ => BitVec.getLsbD_and

theorem vor_writes (h : e.op = .vor c f) :
    WritesLanes k e f.vd.toNat fun l r => ∀ i, r.getLsbD i = ((k.vlane f.va.toNat l).getLsbD i || (operandB k e f l).getLsbD i) :=
  .of_lanes2 _ (by rw [vecResult, h]) fun _ _ => BitVec.getLsbD_or

theorem vxor_writes (h : e.op = .vxor c f) :
    WritesLanes k e f.vd.toNat fun l r => ∀ i, r.getLsbD i = ((k.vlane f.va.toNat l).getLsbD i ^^ (operandB k e f l).getLsbD i) :=
  .of_lanes2 _ (by rw [vecResult, h]) fun _ _ => BitVec.getLsbD_xor

/-! ## Shifts -/

theorem vshl_writes (h : e.op = .vshl c f) :
    WritesLanes k e f.vd.toNat fun l r => r.toNat = (k.vlane f.va.toNat l).toNat * 2 ^ f.n.toNat % 2 ^ 32 :=
  .of_lanes1 _ (by rw [vecResult, h]) fun _ => toNat_laneShl _ _

theorem vshra_writes (h : e.op = .vshra c f) :
    WritesLanes k e f.vd.toNat fun l r => r.toInt = (k.vlane f.va.toNat l).toInt.fdiv (2 ^ f.n.toNat) :=
  .of_lanes1 _ (by rw [vecResult, h]) fun _ => toInt_laneShra _ _

theorem vshrr_writes (h : e.op = .vshrr c f) :
    WritesLanes k e f.vd.toNat fun l r =>
      2 * ((k.vlane f.va.toNat l).toInt - r.toInt * 2 ^ f.n.toNat).natAbs ≤ 2 ^ f.n.toNat ∧
      (2 * ((k.vlane f.va.toNat l).toInt - r.toInt * 2 ^ f.n.toNat).natAbs = 2 ^ f.n.toNat → r.toInt % 2 = 0) :=
  .of_lanes1 _ (by rw [vecResult, h]) fun _ => laneShrr_nearest _ _

/-! ## Compares, selection and requantised lanes -/

theorem vcmp_writes (h : e.op = .vcmp c f) :
    WritesLanes k e f.vd.toNat fun l r =>
      (RelHolds f.rel (k.vlane f.va.toNat l) (operandB k e f l) → r.toNat = 2 ^ 32 - 1) ∧
      (¬RelHolds f.rel (k.vlane f.va.toNat l) (operandB k e f l) → r.toNat = 0) :=
  .of_lanes2 _ (by rw [vecResult, h]) fun _ => laneCmp_of_rel _ _ _

theorem vsel_writes (h : e.op = .vsel c f) :
    WritesLanes k e f.vd.toNat fun l r => r = if k.vlane f.vc.toNat l = 0 then operandB k e f l else k.vlane f.va.toNat l :=
  .of_map (fun l => laneSel (k.vlane f.va.toNat l) (operandB k e f l) (k.vlane f.vc.toNat l))
    (by simp only [vecResult, h, lanes3_eq_map, gather_map_pure]) fun _ _ => rfl

theorem vrq_writes (h : e.op = .vrq c f) :
    ∃ ls fl, vecResult k e = some (f.vd.toNat, ls, fl) ∧ ls.length = 64 ∧
      (∀ l < 64, (ls.getD l 0).toInt = min (max (rqValue (k.vlane f.va.toNat l) (operandB k e f l)) ((k.vlane f.vc.toNat l).setWidth 16).toInt)
        ((k.vlane f.vc.toNat l >>> 16).setWidth 16).toInt) ∧
      (fl = AF.SAT ↔ ∃ l < 64, rqValue (k.vlane f.va.toNat l) (operandB k e f l) < (fmtRange f.fmt.toNat).1 ∨
        (fmtRange f.fmt.toNat).2 < rqValue (k.vlane f.va.toNat l) (operandB k e f l)) ∧ (fl = AF.SAT ∨ fl = 0) := by
  have hv : vecResult k e = some (f.vd.toNat, lanes3 k e f (laneRq f.fmt.toNat)) := by rw [vecResult, h]
  rw [lanes3_eq_map, gather_map _ _ AF.SAT fun l => congrArg Prod.snd (laneRq_eq _ _ _ _)] at hv
  exact ⟨_, _, hv, by simp, fun l hl => by rw [getD_map_range _ hl]; exact toInt_laneRq _ _ _ _, sat_flag_iff _⟩

/-! ## Reductions and moves -/

theorem vsumr_writes (h : e.op = .vsumr c f) :
    WritesLanes k e f.vd.toNat fun _ r => r.toNat = ((List.range 64).map fun l => (k.vlane f.va.toNat l).toNat).sum % 2 ^ 32 :=
  .of_reduce _ (by rw [vecResult, h]) fun _ => by
    rw [toNat_foldl_add, Core.vec, List.map_map]; simp [Function.comp_def]

theorem vmaxr_writes (h : e.op = .vmaxr c f) :
    WritesLanes k e f.vd.toNat fun _ r => (∃ l < 64, r = k.vlane f.va.toNat l) ∧ ∀ l < 64, (k.vlane f.va.toNat l).toInt ≤ r.toInt :=
  .of_reduce _ (by rw [vecResult, h]) fun _ => picksLarger_laneMax.foldl_vec k _

theorem vminr_writes (h : e.op = .vminr c f) :
    WritesLanes k e f.vd.toNat fun _ r => (∃ l < 64, r = k.vlane f.va.toNat l) ∧ ∀ l < 64, r.toInt ≤ (k.vlane f.va.toNat l).toInt :=
  .of_reduce _ (by rw [vecResult, h]) fun _ => by
    obtain ⟨hmem, hle⟩ := picksLarger_laneMin.foldl_vec k f.va.toNat
    exact ⟨hmem, fun l hl => Int.neg_le_neg_iff.mp (hle l hl)⟩

theorem vmov_writes (h : e.op = .vmov c f) : WritesLanes k e f.vd.toNat fun l r => r = k.vlane f.va.toNat l :=
  .of_map (k.vlane f.va.toNat) (by simp only [vecResult, h, Core.vec]) fun _ _ => rfl

theorem vbc_writes (h : e.op = .vbc c f) : WritesLanes k e f.vd.toNat fun _ r => r = e.s f.va.toNat :=
  .of_map (fun _ => e.s f.va.toNat) (by simp only [vecResult, h, List.map_const', List.length_range]) fun _ _ => rfl

end Sys2Proof.Machine
end

section
namespace Sys2Proof.Machine

/-- The format bounds that R79 tests are those of INT8 and INT16 (Table 4.1). -/
theorem fmtRange_of_fmt {fmt : BitVec 3} {x : Int} (h : (fmt = 0 ∧ x = 128) ∨ (fmt = 1 ∧ x = 32768)) : fmtRange fmt.toNat = (-x, x - 1) := by
  obtain ⟨rfl, rfl⟩ | ⟨rfl, rfl⟩ := h <;> rfl

/-- Settles O57: every integer lane command by its own lemma, and VRQ with the rounded values of R79 as its witness. -/
theorem laneArithmetic : Obligations.LaneArithmetic := by
  intro k e c f
  refine ⟨vadd_writes, vsub_writes, vmul_writes, vadds_writes, vsubs_writes, vabs_writes, vmin_writes, vmax_writes, vand_writes, vor_writes,
    vxor_writes, vshl_writes, vshra_writes, vshrr_writes, vcmp_writes, vsel_writes, fun h => ?_, vsumr_writes, vmaxr_writes, vminr_writes,
    vmov_writes, vbc_writes⟩
  obtain ⟨ls, fl, hv, hlen, hlanes, hflag⟩ := vrq_writes (k := k) h
  refine ⟨ls, fl, fun l => rqValue (k.vlane f.va.toNat l) (operandB k e f l), hv, hlen, fun l hl => ?_, fun x hx => ?_⟩
  · obtain ⟨hnear, heven⟩ := rhe_nearest ((k.vlane f.va.toNat l).toInt * (((operandB k e f l).toNat % 2 ^ 16 : Nat) : Int))
      (min ((operandB k e f l).toNat / 2 ^ 16 % 64) 47)
    exact ⟨hnear, heven, hlanes l hl⟩
  · simpa only [fmtRange_of_fmt hx] using hflag

end Sys2Proof.Machine
end

section
/-! Which item the sequencer starts next (R26, R102): the choice among the accepted items that are ready. -/
namespace Sys2Proof.Machine

theorem Item.not_before_of_before {a b : Item} (h : a.before b = true) : b.before a = false := by
  cases ha : a.ready <;> cases hb : b.ready <;> simp only [Item.before, ha, hb, Bool.false_eq_true] at h ⊢
  simp only [Bool.or_eq_true, Bool.and_eq_true, decide_eq_true_eq, Bool.or_eq_false_iff, Bool.and_eq_false_iff, decide_eq_false_iff_not] at h ⊢
  omega

theorem firstItem_mem {l : List Item} {y : Item} (h : firstItem l = some y) : y ∈ l := by
  induction l generalizing y with
  | nil => cases h
  | cons x xs ih =>
    rw [firstItem] at h
    split at h
    · cases h; exact List.mem_cons_self
    · next z hz =>
      split at h
      · cases h; exact List.mem_cons_of_mem _ (ih hz)
      · cases h; exact List.mem_cons_self

/-- An item that stands before every other one of a list is its first. -/
theorem firstItem_eq_some {l : List Item} {it : Item} (hm : it ∈ l) (hb : ∀ x ∈ l, x ≠ it → it.before x = true) :
    firstItem l = some it := by
  induction l with
  | nil => cases hm
  | cons x xs ih =>
    rw [firstItem]
    by_cases hx : x = it
    · subst hx
      split
      · rfl
      · next y hy =>
        by_cases hyx : y = x
        · subst hyx; simp
        · have hxy := hb y (List.mem_cons_of_mem _ (firstItem_mem hy)) hyx
          simp [Item.not_before_of_before hxy]
    · have hxs : it ∈ xs := (List.mem_cons.mp hm).resolve_left (Ne.symm hx)
      rw [ih hxs fun z hz => hb z (List.mem_cons_of_mem _ hz)]
      simp [hb x List.mem_cons_self hx]

/-- An item may start: accepted, its lines available, not failed, its program in the active bank. -/
def Core.mayBegin (k : Core) (x : Item) : Prop :=
  x.phase = .accepted ∧ x.ready ≠ none ∧ x.fail = none ∧ k.entriesOf k.active (descProgram x.desc) ≠ []

theorem Core.nextItem_eq_some {k : Core} {it : Item} (hswap : k.swap = false) (hm : it ∈ k.items) (hr : k.mayBegin it)
    (hb : ∀ x ∈ k.items, x ≠ it → k.mayBegin x → it.before x = true) : k.nextItem = some it := by
  refine firstItem_eq_some (by simpa [hswap, Core.mayBegin, Option.isSome_iff_ne_none, and_assoc] using And.intro hm hr) fun x hx hne => ?_
  obtain ⟨hxm, hxr⟩ : x ∈ k.items ∧ k.mayBegin x := by simpa [hswap, Core.mayBegin, Option.isSome_iff_ne_none, and_assoc] using hx
  exact hb x hxm hne hxr

/-! ## The core after the item has started (Table 5.4) -/

theorem startS_shape (it : Item) {i : Nat} (h : i < 8) : (startS it).getD (4 + i) 0 = BitVec.ofNat 32 (descShape it.desc i) := by
  obtain rfl | rfl | rfl | rfl | rfl | rfl | rfl | rfl : i = 0 ∨ i = 1 ∨ i = 2 ∨ i = 3 ∨ i = 4 ∨ i = 5 ∨ i = 6 ∨ i = 7 := by omega
  all_goals rfl

theorem startA_base (dev c : Nat) (it : Item) {i : Nat} (h : i < 3) : (startA dev c it).getD i 0 = descBase it.desc i := by
  obtain rfl | rfl | rfl : i = 0 ∨ i = 1 ∨ i = 2 := by omega
  all_goals rfl

theorem startA_zero (dev c : Nat) (it : Item) {i : Nat} (h5 : 5 ≤ i) (h8 : i < 8) : (startA dev c it).getD i 0 = 0 := by
  obtain rfl | rfl | rfl : i = 5 ∨ i = 6 ∨ i = 7 := by omega
  all_goals rfl

/-- A core in service goes to RUN with the item it starts. -/
theorem Core.settle_startItem {k : Core} (h : k.st = .idle ∨ k.st = .run) (dev c : Nat) (it : Item) (hdr : List W32) (w : Nat) (t : W64) :
    (k.startItem dev c it hdr w t).settle = { k.startItem dev c it hdr w t with st := .run } := by
  have hin : (k.startItem dev c it hdr w t).inService = true := by
    rcases h with h | h <;> simp [Core.inService, Core.startItem, h]
  have hrun : (k.startItem dev c it hdr w t).items.any (fun x => x.phase != .accepted) = true := by
    simp [Core.startItem]
  simp [Core.settle, hin, hrun]

end Sys2Proof.Machine
end

section
/-! What a tally operation changes (R146, R149, R182): the tally, waits and lanes that it releases, and a counter. -/
namespace Sys2Proof.Machine

@[simp] theorem Core.advance_items (k : Core) : k.advance.items = k.items := by
  rw [Core.advance]
  split
  · rfl
  · split
    · split <;> rfl
    · rfl

@[simp] theorem Core.release_items (t : Nat) (v : W32) (k : Core) : (k.release t v).items = k.items := by
  simp only [Core.release]
  split
  · split
    · exact Core.advance_items _
    · rfl
  · rfl

/-- Of a core whose sequencer does not wait, a release changes queue entries only. -/
theorem Core.release_of_no_wait (t : Nat) (v : W32) {k : Core} (h : k.seqWait = none) :
    k.release t v = { k with fq := (k.release t v).fq, xq := (k.release t v).xq, wq := (k.release t v).wq } := by
  simp only [Core.release, h]

theorem State.core_map_release (s : State) (t c : Nat) (v : W32) :
    (s.cores.map (Core.release t v)).getD c Core.reset = (s.core c).release t v := by
  rw [State.core, List.getD_eq_getElem?_getD, List.getD_eq_getElem?_getD, List.getElem?_map]
  cases s.cores[c]? <;> rfl

theorem State.laneEnd_eq (s : State) (r c : Nat) : s.laneEnd r c = { s with lanes := (s.laneEnd r c).lanes } := by
  simp only [State.laneEnd]; split <;> rfl

theorem State.lanesEnd_eq (s : State) (t : Nat) : s.lanesEnd t = { s with lanes := (s.lanesEnd t).lanes } := by
  rw [State.lanesEnd]
  generalize s.lanes = l
  induction l generalizing s with
  | nil => rfl
  | cons p r ih =>
    rw [List.foldl_cons]
    split
    · rw [ih, State.laneEnd_eq]
    · exact ih s

/-- A tally operation that is not refused. -/
theorem State.tallyDo_of_not_refused {s : State} {src : TallySrc} {t : Nat} (h : s.tallyRefused src t = false) (set : Bool) (v : W32) :
    ∃ regs lanes blocked, s.tallyDo src t set v =
      { s.setTally t (if set then v else s.tally t + v) with
        cores := s.cores.map (Core.release t (if set then v else s.tally t + v)), regs := regs, lanes := lanes, blocked := blocked } := by
  simp only [State.tallyDo, State.tallyOp, h, Bool.false_eq_true, if_false, State.tallySeen]
  generalize (if set then v else s.tally t + v) = x
  have hx : ((s.setTally t x).bump (Pg.TALLY t) Off.TALLY.UPD_CNT).tally t = x := State.tally_setTally s t x
  rw [hx, State.lanesEnd_eq]
  exact ⟨_, _, _, rfl⟩

end Sys2Proof.Machine
end

section
/-! What follows the start of an item on its core leaves the sequencer and the stores as they are: the tallies of its own set to 0 (R117)
and the acceptance of further quanta (R99). -/
namespace Sys2Proof.Machine

theorem SameBytes.trans {s t u : State} (h : SameBytes s t) (h' : SameBytes t u) : SameBytes s u :=
  ⟨fun a => (h'.1 a).trans (h.1 a), fun x o => (h'.2 x o).trans (h.2 x o)⟩

/-- Of core c only items and queue entries change, and no byte of a store. -/
structure KeepsSequencer (c : Nat) (s t : State) : Prop where
  core : t.core c = { s.core c with items := (t.core c).items, fq := (t.core c).fq, xq := (t.core c).xq, wq := (t.core c).wq }
  bytes : SameBytes s t

theorem KeepsSequencer.refl (c : Nat) (s : State) : KeepsSequencer c s s := ⟨rfl, fun _ => rfl, fun _ _ => rfl⟩

theorem KeepsSequencer.trans {c : Nat} {s t u : State} (h : KeepsSequencer c s t) (h' : KeepsSequencer c t u) : KeepsSequencer c s u :=
  ⟨h'.core.trans (by rw [h.core]), h.bytes.trans h'.bytes⟩

theorem KeepsSequencer.seqWait {c : Nat} {s t : State} (h : KeepsSequencer c s t) : (t.core c).seqWait = (s.core c).seqWait := by
  rw [h.core]

/-- What every step of a run over a list keeps, the run keeps. -/
theorem KeepsSequencer.foldl {α : Type} {c : Nat} (f : State → α → State)
    (hf : ∀ s x, KeepsSequencer c s (f s x) ∧ (f s x).tval = s.tval) (l : List α) (s : State) :
    KeepsSequencer c s (l.foldl f s) ∧ (l.foldl f s).tval = s.tval := by
  induction l generalizing s with
  | nil => exact ⟨.refl c s, rfl⟩
  | cons x xs ih => exact ⟨(hf s x).1.trans (ih (f s x)).1, (ih (f s x)).2.trans (hf s x).2⟩

/-! ## Quanta accepted -/

theorem State.acceptItem_eq (s : State) (c : Nat) (j : Job) (q : Quantum) :
    ∃ it jobs readySeq regs, s.acceptItem c j q =
      { s.modCore c fun k => { k with items := k.items ++ [it] } with jobs := jobs, readySeq := readySeq, regs := regs } := by
  simp only [State.acceptItem]
  split
  · exact ⟨_, _, _, _, rfl⟩
  · split
    · split <;> exact ⟨_, _, _, _, rfl⟩
    · exact ⟨_, _, _, _, rfl⟩

theorem State.acceptItem_keeps (s : State) (c : Nat) (j : Job) (q : Quantum) :
    KeepsSequencer c s (s.acceptItem c j q) ∧ (s.acceptItem c j q).tval = s.tval := by
  obtain ⟨it, jobs, readySeq, regs, h⟩ := s.acceptItem_eq c j q
  rw [h]
  have hcore := modNth_getD (fun k : Core => { k with items := k.items ++ [it] }) s.cores c c Core.reset
  refine ⟨⟨?_, fun _ => rfl, fun _ _ => rfl⟩, rfl⟩
  simp only [State.core, State.modCore, hcore]
  split <;> rfl

theorem State.acceptHeld_keeps (s : State) (c : Nat) : KeepsSequencer c s (s.acceptHeld c) ∧ (s.acceptHeld c).tval = s.tval := by
  refine KeepsSequencer.foldl _ (fun s j => KeepsSequencer.foldl _ (fun s q => ?_) _ s) _ s
  split
  · exact s.acceptItem_keeps c j q
  · exact ⟨.refl c s, rfl⟩

/-! ## An item's own tallies set to 0 -/

/-- No core but c has an item that has started. -/
def State.startedOnlyOn (s : State) (c : Nat) : Prop := ∀ c' < 32, c' ≠ c → ∀ x ∈ (s.core c').items, x.phase = .accepted

/-- The reset of a tally by core c is refused under R150 only where an item of another core has it as a tally of its own. -/
theorem State.start_not_refused {s : State} {c : Nat} (h : s.startedOnlyOn c) (t : Nat) : s.tallyRefused (.start c) t = false := by
  simp only [State.tallyRefused, State.tallyOwners, List.any_eq_false, List.mem_flatMap, List.mem_map, List.mem_filter, List.mem_range]
  rintro _ ⟨c', hc', x, ⟨hx, hp⟩, rfl⟩ hne
  simp [h c' hc' (by simpa using hne) x hx] at hp

/-- What one reset of a tally by core c does where no other core has a started item and the sequencer of c does not wait. -/
theorem State.start_tallyDo {s : State} {c : Nat} (h : s.startedOnlyOn c) (hw : (s.core c).seqWait = none) (t : Nat) :
    let u := s.tallyDo (.start c) t true 0
    KeepsSequencer c s u ∧ u.startedOnlyOn c ∧ u.tally t = 0 ∧ ∀ t', s.tally t' = 0 → u.tally t' = 0 := by
  obtain ⟨regs, lanes, blocked, e⟩ := State.tallyDo_of_not_refused (s.start_not_refused h t) true 0
  rw [e]
  refine ⟨⟨?_, fun _ => rfl, fun _ _ => rfl⟩, fun c' hc' hne x hx => ?_, s.tally_setTally t 0, fun t' h0 => ?_⟩
  · simp only [State.core, State.core_map_release, if_true, Core.release_items]
    exact Core.release_of_no_wait t 0 hw
  · simp only [State.core, State.core_map_release, Core.release_items] at hx
    exact h c' hc' hne x hx
  · by_cases ht : t' = t
    · rw [ht]; exact s.tally_setTally t 0
    · exact (s.tally_setTally_ne 0 ht).trans h0

/-- A run of such resets leaves 0 in every tally it names, and in every tally that was 0. -/
theorem State.start_tallyDo_foldl {c : Nat} (f : Nat → Nat) (l : List Nat) {s : State} (h : s.startedOnlyOn c)
    (hw : (s.core c).seqWait = none) :
    let u := l.foldl (fun s i => s.tallyDo (.start c) (f i) true 0) s
    KeepsSequencer c s u ∧ (∀ t, s.tally t = 0 → u.tally t = 0) ∧ ∀ i ∈ l, u.tally (f i) = 0 := by
  induction l generalizing s with
  | nil => exact ⟨.refl c s, fun _ h0 => h0, fun _ hi => absurd hi List.not_mem_nil⟩
  | cons i l ih =>
    obtain ⟨hone, hothers, hzero, hstays⟩ := s.start_tallyDo h hw (f i)
    obtain ⟨hrest, hkept, hset⟩ := ih hothers (hone.seqWait.trans hw)
    refine ⟨hone.trans hrest, fun t h0 => hkept t (hstays t h0), fun j hj => ?_⟩
    rcases List.mem_cons.mp hj with rfl | hj
    · exact hkept _ hzero
    · exact hset j hj

theorem State.resetPrivate_sets {s : State} {c : Nat} (it : Item) (h : s.startedOnlyOn c) (hw : (s.core c).seqWait = none) :
    KeepsSequencer c s (s.resetPrivate c it) ∧
      ∀ i < hdrNpriv it.hdr, (s.resetPrivate c it).tally (it.tally c (hdrNshared it.hdr + i)) = 0 := by
  obtain ⟨hk, -, hset⟩ := State.start_tallyDo_foldl (fun i => it.tally c (hdrNshared it.hdr + i)) (List.range (hdrNpriv it.hdr)) h hw
  exact ⟨hk, fun i hi => hset i (List.mem_range.mpr hi)⟩

end Sys2Proof.Machine
end

section
/-! ITEM_START (R94). -/
namespace Sys2Proof.Machine

theorem modNth_eq_self {α : Type} {f : α → α} {l : List α} {n : Nat} {d : α} (h : f (l.getD n d) = l.getD n d) : modNth f l n = l := by
  induction l generalizing n with
  | nil => rfl
  | cons x xs ih =>
    cases n with
    | zero => exact congrArg (· :: xs) h
    | succ n => exact congrArg (x :: ·) (ih h)

theorem State.modCore_eq_self {s : State} {c : Nat} {f : Core → Core} (h : f (s.core c) = s.core c) : s.modCore c f = s := by
  rw [State.modCore, modNth_eq_self h]

/-- With no swap pending, a program boundary changes nothing. -/
theorem State.trySwap_of_no_swap {s : State} {c : Nat} (h : (s.core c).swap = false) : s.trySwap c = s :=
  State.modCore_eq_self (if_neg fun hs => Bool.false_ne_true (h.symm.trans hs.1))

/-- The start of the item that is next, with the header of the first directory entry of its program. -/
theorem execItemStart_eq {s : State} {c : Fin 32} {it : Item} {e : Nat} (hin : s.coreIn c = true) (hcur : (s.core c).cur = none)
    (hswap : (s.core c).swap = false) (hnext : (s.core c).nextItem = some it)
    (he : ((s.core c).entriesOf (s.core c).active (descProgram it.desc)).head? = some e) :
    let w := dirHdr ((s.core c).dirLo (s.core c).active e)
    let x : Item := { it with hdr := (s.core c).header (s.core c).active w }
    ∃ mgmt ue, execItemStart c s = .next
      ((({ s with mgmt := mgmt, ue := ue }.modCore c fun k => (k.startItem s.devId c x x.hdr w s.now).settle).resetPrivate c x).acceptHeld c) := by
  simp only [execItemStart, hin, hcur, State.trySwap_of_no_swap hswap, hnext, he, Bool.not_true, Bool.false_eq_true, ne_eq, not_true_eq_false,
    or_self, if_false]
  split
  · simp only [State.lagSeen]
    split <;> exact ⟨_, _, rfl⟩
  · exact ⟨_, _, rfl⟩

/-- What the start of the next item leaves: its core in RUN with the registers of Table 5.4, the tallies of its own 0, every byte as it was. -/
theorem execItemStart_starts {s : State} {c : Fin 32} {it : Item} {e : Nat} (hu : s.units = true)
    (hst : (s.core c).st = .idle ∨ (s.core c).st = .run) (hcur : (s.core c).cur = none) (hswap : (s.core c).swap = false)
    (hnext : (s.core c).nextItem = some it) (ho : s.startedOnlyOn c)
    (he : ((s.core c).entriesOf (s.core c).active (descProgram it.desc)).head? = some e) :
    let w := dirHdr ((s.core c).dirLo (s.core c).active e)
    let x : Item := { it with hdr := (s.core c).header (s.core c).active w }
    ∃ t items fq xq wq, execItemStart c s = .next t ∧
      t.core c = { (s.core c).startItem s.devId c x x.hdr w s.now with st := .run, items := items, fq := fq, xq := xq, wq := wq } ∧
      (∀ i < hdrNpriv x.hdr, t.tally (x.tally c (hdrNshared x.hdr + i)) = 0) ∧ SameBytes s t := by
  intro w x
  have hin : s.coreIn c = true := by
    rcases hst with h | h <;> simp [State.coreIn, Core.inService, h]
  obtain ⟨mgmt, ue, hexec⟩ := execItemStart_eq hin hcur hswap hnext he
  generalize hs1 : ({ s with mgmt := mgmt, ue := ue } : State).modCore c _ = s1 at hexec
  have hcore1 : s1.core c = { (s.core c).startItem s.devId c x x.hdr w s.now with st := .run } := by
    rw [← hs1, State.core_modCore _ _ _ (by simp [State.units_cores hu])]; exact Core.settle_startItem hst ..
  have ho1 : s1.startedOnlyOn c := fun c' hc' hne y hy => by
    rw [← hs1, State.core_modCore_ne _ _ hne] at hy
    exact ho c' hc' hne y hy
  have hbytes1 : SameBytes s s1 := by rw [← hs1]; exact ⟨fun _ => rfl, fun _ _ => rfl⟩
  obtain ⟨hreset, hzero⟩ := State.resetPrivate_sets x ho1 (by rw [hcore1]; rfl)
  obtain ⟨haccept, htval⟩ := (s1.resetPrivate c x).acceptHeld_keeps c
  obtain ⟨hcore, hbytes⟩ := hreset.trans haccept
  rw [hcore1] at hcore
  refine ⟨_, _, _, _, _, hexec, hcore, fun i hi => ?_, hbytes1.trans hbytes⟩
  rw [State.tally, htval]
  exact hzero i hi

/-- Settles O19: the item before every other ready one is the next (R26), and neither the reset of the tallies of its own (R117) nor the
acceptance of held quanta (R99) touches the registers of Table 5.4. -/
theorem itemStart : Obligations.ItemStart := by
  intro c s it hu k ready hst hcur hswap hm hr hb hothers e he h d
  have ho : s.startedOnlyOn c := fun c' hc' hne => hothers ⟨c', hc'⟩ (Fin.ne_of_val_ne hne)
  obtain ⟨t, _, _, _, _, hexec, hcore, hzero, hbytes⟩ :=
    execItemStart_starts hu hst hcur hswap (Core.nextItem_eq_some hswap hm hr hb) ho he
  refine ⟨t, hexec, ?_⟩
  rw [hcore]
  exact ⟨rfl, rfl, rfl, rfl, rfl, rfl, rfl, fun _ hi => startS_shape _ hi, rfl, rfl, rfl, rfl, fun _ hi => startA_base _ _ _ hi, rfl, rfl,
    fun _ h5 h8 => startA_zero _ _ _ h5 h8, hzero, hbytes⟩

end Sys2Proof.Machine
end

section
/-! BR, BC, LOOP and DRAIN (R123 to R125). -/
namespace Sys2Proof.Machine

theorem State.core_lt_length {s : State} (hu : s.units = true) (c : Fin 32) : c.val < s.cores.length :=
  Nat.lt_of_lt_of_eq c.isLt (State.units_cores hu).symm

/-- A sequencer command that changes its own core alone. -/
theorem State.seqDo_modCore {s : State} {c : Fin 32} {i : Instr} (f : Core → Core) (hu : s.units = true) (h : s.standsAt c i = true) :
    (s.seqDo c i fun s => s.modCore c f).core c = f (s.core c) ∧ OnlyCore s (s.seqDo c i fun s => s.modCore c f) c := by
  rw [State.seqDo_standsAt _ h]
  exact ⟨State.core_modCore _ _ _ (State.core_lt_length hu c), onlyCore_modCore' _ _ _⟩

theorem OnlyCore.refl (s : State) (c : Nat) : OnlyCore s s c :=
  ⟨rfl, fun _ _ => rfl, fun _ h => h, fun _ => rfl, fun _ _ => rfl⟩

/-- The comparison that COND selects (Table 6.10), in the integers that the operands stand for. -/
def BcTaken (cond : Nat) (a b : W32) : Prop :=
  match cond with
  | 0 => a = b
  | 1 => a ≠ b
  | 2 => a.toInt < b.toInt
  | 3 => b.toInt ≤ a.toInt
  | 4 => a.toNat < b.toNat
  | _ => b.toNat ≤ a.toNat

theorem bcHolds_iff_taken {cond : Nat} (h : cond ≤ 5) (a b : W32) : bcHolds cond a b = true ↔ BcTaken cond a b := by
  match cond, h with
  | 0, _ => exact beq_iff_eq
  | 1, _ => exact bne_iff_ne
  | 2, _ => exact BitVec.slt_iff_toInt_lt
  | 3, _ => simp [bcHolds, BcTaken, BitVec.slt]
  | 4, _ => exact BitVec.ult_iff_toNat_lt
  | 5, _ => simp [bcHolds, BcTaken, BitVec.ult]

/-- The sequencer is held while the current item has an entry in one of the queues of QM. -/
theorem Core.not_drained_iff (k : Core) (qm : BitVec 3) : ¬k.drained qm = true ↔
    ∃ key, k.cur = some key ∧ ((qm.getLsbD 0 = true ∧ ∃ e ∈ k.fq, e.item = key) ∨
      (qm.getLsbD 1 = true ∧ ∃ e ∈ k.xq, e.item = key) ∨ (qm.getLsbD 2 = true ∧ ∃ e ∈ k.wq, e.item = key)) := by
  have hblocks (b : Bool) (q : List QEntry) (key : Nat) :
      (!b || !(q.any fun e => e.item == key)) = false ↔ b = true ∧ ∃ e ∈ q, e.item = key := by simp
  rw [Bool.not_eq_true, Core.drained]
  cases hcur : k.cur with
  | none => simp
  | some key => simp only [Bool.and_eq_false_iff, hblocks, or_assoc, Option.some.injEq, exists_eq_left']

theorem execBr_standsAt {s : State} {c : Fin 32} {f : CtlF} (hu : s.units = true) (h : s.standsAt c (.br c f) = true) :
    ∃ t, execBr c f s = .next t ∧ t.core c = { s.core c with pc := f.target.toNat } ∧ OnlyCore s t c :=
  ⟨_, rfl, State.seqDo_modCore _ hu h⟩

theorem execBc_standsAt {s : State} {c : Fin 32} {f : CtlF} (hu : s.units = true) (h : s.standsAt c (.bc c f) = true) :
    let k := s.core c
    ∃ t, execBc c f s = .next t ∧ OnlyCore s t c ∧
      t.core c = if bcHolds f.cond.toNat (k.s f.a.toNat) (if f.bi then f.imm else k.s f.b.toNat) then { k with pc := f.target.toNat }
        else k.advance := by
  obtain ⟨hcore, honly⟩ := State.seqDo_modCore (i := .bc c f) _ hu h
  exact ⟨_, rfl, honly, hcore⟩

theorem execLoop_standsAt {s : State} {c : Fin 32} {f : CtlF} (hu : s.units = true) (h : s.standsAt c (.loop c f) = true) :
    let k := s.core c
    ∃ t, execLoop c f s = .next t ∧ OnlyCore s t c ∧
      t.core c = if loopCount k f = 0 then { k with pc := f.target.toNat + 1 } else
        { k.setS f.idx.toNat 0 with
          pc := k.pc + 1
          loops := { first := k.pc + 1, last := f.target.toNat, left := loopCount k f, i := 0, idx := f.idx.toNat } :: k.loops } := by
  intro k
  refine ⟨_, rfl, ?_⟩
  rw [State.seqDo_standsAt _ h]
  split
  · exact ⟨onlyCore_modCore' _ _ _, State.core_modCore _ _ _ (State.core_lt_length hu c)⟩
  · exact ⟨onlyCore_modCore _ _ _ _, State.core_modCore _ _ _ (State.core_lt_length hu c)⟩

theorem execDrain_standsAt {s : State} {c : Fin 32} {f : CtlF} (hu : s.units = true) (h : s.standsAt c (.drain c f) = true) :
    ∃ t, execDrain c f s = .next t ∧ OnlyCore s t c ∧
      (¬(s.core c).drained f.qm = true → t = s) ∧ ((s.core c).drained f.qm = true → t.core c = (s.core c).advance) := by
  refine ⟨_, rfl, ?_⟩
  rw [State.seqDo_standsAt _ h]
  split
  · next hd => exact ⟨onlyCore_modCore' _ _ _, absurd hd, fun _ => State.core_modCore _ _ _ (State.core_lt_length hu c)⟩
  · next hd => exact ⟨OnlyCore.refl _ _, fun _ => rfl, fun hd' => absurd hd' hd⟩

end Sys2Proof.Machine
end

section
/-! The end of a loop body (R124). -/
namespace Sys2Proof.Machine

variable {k : Core} {l : LoopFrame} {r : List LoopFrame}

theorem Core.s_setS_same {i : Nat} (h : i < k.sreg.length) (v : W32) : (k.setS i v).s i = v := by
  simp [Core.s, Core.setS, h]

theorem Core.s_setS_ne {i j : Nat} (h : j ≠ i) (v : W32) : (k.setS i v).s j = k.s j := by
  simp [Core.s, Core.setS, List.getElem?_set_ne h.symm]

theorem Core.advance_of_left (hl : k.loops = l :: r) (hpc : k.pc = l.last) (hleft : 1 < l.left) :
    k.advance = { k.setS l.idx (l.i + 1) with pc := l.first, loops := { l with left := l.left - 1, i := l.i + 1 } :: r } := by
  simp only [Core.advance, hl, if_pos hpc, if_pos hleft]

theorem Core.advance_of_loop_done (hl : k.loops = l :: r) (hpc : k.pc = l.last) (hleft : l.left ≤ 1) :
    k.advance = { k with pc := l.last + 1, loops := r } := by
  simp only [Core.advance, hl, if_pos hpc, if_neg (Nat.not_lt.mpr hleft)]

theorem Core.advance_of_ne_last (hl : k.loops = l :: r) (hpc : k.pc ≠ l.last) : k.advance = { k with pc := k.pc + 1 } := by
  simp only [Core.advance, hl, if_neg hpc]

end Sys2Proof.Machine
end

section
/-! The branches, the loops and DRAIN together. -/
namespace Sys2Proof.Machine

/-- Settles O5: the four commands by what each does where the sequencer stands at it, and the end of a loop body by the three cases of
advance. -/
theorem branchesAndLoops : Obligations.BranchesAndLoops := by
  refine ⟨fun c f s hu => ⟨fun h => execBr_standsAt hu h, fun h hcond => ?bc, fun h => ?loop, fun h => ?drain⟩,
    fun k l r hl hlen hidx => ⟨fun hpc hleft => ?again, fun hpc hleft => Core.advance_of_loop_done hl hpc hleft,
      fun hpc => Core.advance_of_ne_last hl hpc⟩⟩
  case bc =>
    obtain ⟨t, hexec, honly, hcore⟩ := execBc_standsAt hu h
    have htaken := bcHolds_iff_taken hcond ((s.core c).s f.a.toNat) (if f.bi then f.imm else (s.core c).s f.b.toNat)
    exact ⟨t, hexec, honly, fun hyes => hcore.trans (if_pos (htaken.mpr hyes)),
      fun hno => hcore.trans (if_neg fun hb => hno (htaken.mp hb))⟩
  case loop =>
    obtain ⟨t, hexec, honly, hcore⟩ := execLoop_standsAt hu h
    exact ⟨t, hexec, honly, fun hzero => hcore.trans (if_pos hzero), fun hne => hcore.trans (if_neg hne)⟩
  case drain =>
    obtain ⟨t, hexec, honly, hwait, hgo⟩ := execDrain_standsAt hu h
    have hwaits := (s.core c).not_drained_iff f.qm
    exact ⟨t, hexec, honly, fun hw => hwait (hwaits.mpr hw), fun hn => hgo (Decidable.not_not.mp (mt hwaits.mp hn))⟩
  case again =>
    have hset := Core.s_setS_same (hlen.symm ▸ hidx) (l.i + 1)
    rw [Core.advance_of_left hl hpc hleft]
    exact ⟨rfl, hset, rfl, fun j hj => Core.s_setS_ne hj (l.i + 1)⟩

end Sys2Proof.Machine
end

section
/-! The sequencer goes on after a command that changed, of its core, items and queue entries only. -/
namespace Sys2Proof.Machine

/-- Whether and where the sequencer goes on does not depend on the items and queue entries of its core. -/
theorem Core.advance_items_queues (k : Core) (items : List Item) (fq xq wq : List QEntry) :
    ({ k with items := items, fq := fq, xq := xq, wq := wq } : Core).advance =
      { k.advance with items := items, fq := fq, xq := xq, wq := wq } := by
  simp only [Core.advance, Core.setS]
  split
  · rfl
  · split
    · split <;> rfl
    · rfl

/-- Core c as it was, but for its sequencer having gone on and for items and queue entries, and no byte of a store changed. -/
structure GoesOn (c : Nat) (s t : State) : Prop where
  pc : (t.core c).pc = (s.core c).advance.pc
  sreg : (t.core c).sreg = (s.core c).advance.sreg
  bytes : SameBytes s t

theorem KeepsSequencer.goesOn {c : Nat} {s t : State} (h : KeepsSequencer c s t) (hc : c < t.cores.length) :
    GoesOn c s (t.modCore c Core.advance) := by
  have hcore : (t.modCore c Core.advance).core c =
      { (s.core c).advance with items := (t.core c).items, fq := (t.core c).fq, xq := (t.core c).xq, wq := (t.core c).wq } :=
    calc (t.modCore c Core.advance).core c = (t.core c).advance := State.core_modCore t c _ hc
      _ = _ := by rw [h.core, Core.advance_items_queues]
  refine ⟨?_, ?_, h.bytes⟩ <;> rw [hcore]

/-- A change of one item of a core. -/
theorem KeepsSequencer.modItem (s : State) (c key : Nat) (f : Item → Item) :
    KeepsSequencer c s (s.modCore c fun k => k.modItem key f) := by
  refine ⟨?_, fun _ => rfl, fun _ _ => rfl⟩
  have hcore := modNth_getD (fun k : Core => k.modItem key f) s.cores c c Core.reset
  simp only [State.core, State.modCore, hcore]
  split <;> rfl

end Sys2Proof.Machine
end

section
/-! An update of a tally on this device (R143, R146): the tally, and of the core that makes it items and queue entries. -/
namespace Sys2Proof.Machine

theorem State.tallyOp_accepted {s : State} {src : TallySrc} {t : Nat} (h : s.tallyRefused src t = false) (set : Bool) (v : W32) :
    s.tallyOp src t set v = (s.tallyDo src t set v, false) := by
  simp only [State.tallyDo, State.tallyOp, h, Bool.false_eq_true, if_false]

/-- Tally a takes value v, and every other keeps its own. -/
def TookValue (s t : State) (a : Nat) (v : W32) : Prop := t.tally a = v ∧ ∀ b, b ≠ a → t.tally b = s.tally b

/-- A tally operation that is not refused, seen from a core whose sequencer does not wait. -/
theorem State.tallyDo_updates {s : State} {c : Nat} {src : TallySrc} {a : Nat} (h : s.tallyRefused src a = false)
    (hw : (s.core c).seqWait = none) (set : Bool) (v : W32) :
    let t := s.tallyDo src a set v
    KeepsSequencer c s t ∧ t.cores.length = s.cores.length ∧ TookValue s t a (if set then v else s.tally a + v) := by
  obtain ⟨regs, lanes, blocked, e⟩ := State.tallyDo_of_not_refused h set v
  rw [e]
  refine ⟨⟨?_, fun _ => rfl, fun _ _ => rfl⟩, List.length_map _, s.tally_setTally a _, fun _ hb => s.tally_setTally_ne _ hb⟩
  simp only [State.core, State.core_map_release, Core.release_items]
  exact Core.release_of_no_wait a _ hw

/-- The same as an item's update of the tally its offset maps to, whether or not that tally is shared (R310). -/
theorem State.updTally_here {s : State} {c : Nat} {it : Item} {o : Nat} (entry : Nat)
    (h : s.tallyRefused (.item c it.key) (it.tally c o) = false) (hw : (s.core c).seqWait = none) (set : Bool) (v : W32) :
    let t := s.updTally c it entry o s.devId set v
    KeepsSequencer c s t ∧ t.cores.length = s.cores.length ∧
      TookValue s t (it.tally c o) (if set then v else s.tally (it.tally c o) + v) := by
  obtain ⟨hkeeps, hlen, htook⟩ := State.tallyDo_updates h hw set v
  simp only [State.updTally, if_true, State.tallyOp_accepted h]
  split
  · exact ⟨hkeeps, hlen, htook⟩
  · exact ⟨hkeeps.trans (.modItem _ _ _ _), (modNth_length _ _ _).trans hlen, htook⟩

end Sys2Proof.Machine
end

section
/-! A message of the delivery stream (R279, R280): held for its device from the time it is made, whether or not it has left. -/
namespace Sys2Proof.Machine

/-- A property that the change of an element keeps is not lost by a change of the first element that meets a test. -/
theorem exists_mem_modFirst {α : Type} {P : α → Prop} (p : α → Bool) (f : α → α) (hf : ∀ x, P x → P (f x)) {l : List α}
    (h : ∃ x ∈ l, P x) : ∃ x ∈ modFirst p f l, P x := by
  induction l with
  | nil =>
    obtain ⟨_, hx, _⟩ := h
    exact absurd hx List.not_mem_nil
  | cons y ys ih =>
    rw [modFirst]
    obtain ⟨x, hx, hP⟩ := h
    split <;> rcases List.mem_cons.mp hx with rfl | hx
    · exact ⟨f x, List.mem_cons_self, hf x hP⟩
    · exact ⟨x, List.mem_cons_of_mem _ hx, hP⟩
    · exact ⟨x, List.mem_cons_self, hP⟩
    · obtain ⟨z, hz, hPz⟩ := ih ⟨x, hx, hP⟩
      exact ⟨z, List.mem_cons_of_mem _ hz, hPz⟩

/-- Message m is held for device d, or waits for the delivery store. -/
def State.keepsMsg (s : State) (d : Nat) (m : Msg) : Prop := ∃ h ∈ (s.outStream d).all, h.msg = m

theorem State.outStream_setOutStream (s : State) (d : Nat) (o : OutStream) : (s.setOutStream d o).outStream d = o :=
  SMap.get_set_self _ _ _ _

theorem State.outStream_setOutStream_ne (s : State) {d e : Nat} (o : OutStream) (h : e ≠ d) :
    (s.setOutStream d o).outStream e = s.outStream e :=
  SMap.get_set_ne _ _ _ h

/-- Only the link side and page registers change, and no message that is held or waits is lost. -/
structure KeepsMsgs (s t : State) : Prop where
  frame : t = { s with links := t.links, regs := t.regs }
  msgs : ∀ d m, s.keepsMsg d m → t.keepsMsg d m

theorem KeepsMsgs.refl (s : State) : KeepsMsgs s s := ⟨rfl, fun _ _ h => h⟩

theorem KeepsMsgs.trans {s t u : State} (h : KeepsMsgs s t) (h' : KeepsMsgs t u) : KeepsMsgs s u :=
  ⟨h'.frame.trans (by rw [h.frame]), fun d m hm => h'.msgs d m (h.msgs d m hm)⟩

theorem KeepsMsgs.modLink (s : State) (p : Nat) (f : LinkPort → LinkPort) : KeepsMsgs s (s.modLink p f) := ⟨rfl, fun _ _ h => h⟩

theorem KeepsMsgs.bump (s : State) (p off : Nat) : KeepsMsgs s (s.bump p off) := ⟨rfl, fun _ _ h => h⟩

/-- A message that leaves stays held: only its times change. -/
theorem State.hasLeft_keepsMsgs (s : State) (m : Msg) : KeepsMsgs s (s.hasLeft m) := by
  simp only [State.hasLeft]
  split
  · refine ⟨rfl, fun d x hx => ?_⟩
    by_cases hd : d = m.dst.toNat
    · rw [State.keepsMsg, hd] at hx ⊢
      rw [State.outStream_setOutStream]
      simp only [OutStream.all, List.mem_append, or_and_right, exists_or] at hx ⊢
      refine hx.imp_right (exists_mem_modFirst _ _ ?_)
      exact fun _ h => h
    · rw [State.keepsMsg, State.outStream_setOutStream_ne _ _ hd]; exact hx
  · exact .refl s

theorem State.pumpOne_keepsMsgs (s : State) (p : Nat) (m : Msg) : KeepsMsgs s (s.pumpOne p m) := by
  simp only [State.pumpOne]
  split
  · exact (KeepsMsgs.modLink s p _).trans ((KeepsMsgs.bump _ _ _).trans (State.hasLeft_keepsMsgs _ m))
  · exact .modLink s p _

theorem State.emitRouted_keepsMsgs (s : State) (m : Msg) : KeepsMsgs s (s.emitRouted m) := by
  simp only [State.emitRouted]
  split
  · exact s.pumpOne_keepsMsgs _ m
  · split
    · exact ⟨rfl, fun _ _ h => h⟩
    · exact .bump s _ _

theorem State.storeHigh_keepsMsgs (s : State) : KeepsMsgs s s.storeHigh := by
  simp only [State.storeHigh]
  split
  · exact ⟨rfl, fun _ _ h => h⟩
  · exact .refl s

theorem State.hold_keepsMsg (s : State) (d : Nat) (h : HeldMsg) :
    s.hold d h = { s with links := (s.hold d h).links, regs := (s.hold d h).regs } ∧
      (s.hold d h).keepsMsg d { h.msg with seq := (s.outStream d).next } := by
  have hkeeps (u : State) (m : Msg) : KeepsMsgs u (u.storeHigh.emitRouted m) :=
    u.storeHigh_keepsMsgs.trans (State.emitRouted_keepsMsgs _ m)
  refine ⟨(hkeeps _ _).frame, (hkeeps _ _).msgs d _ ?_⟩
  rw [State.keepsMsg, State.outStream_setOutStream]
  exact ⟨_, List.mem_append_right _ (List.mem_append_right _ List.mem_cons_self), rfl⟩

/-- A stream message for device d leaves with some SEQ, or waits without one; nothing changes but the link side and page registers. -/
theorem State.sendStream_keepsMsg (s : State) (d : Nat) (m : Msg) (core item entry : Nat) :
    let t := s.sendStream d m core item entry
    t = { s with links := t.links, regs := t.regs } ∧
      ∃ seq, t.keepsMsg d { m with src := BitVec.ofNat 9 s.devId, dst := BitVec.ofNat 9 d, seq := seq } := by
  simp only [State.sendStream]
  split
  · obtain ⟨hframe, hmsg⟩ := State.hold_keepsMsg s d
      ⟨{ m with src := BitVec.ofNat 9 s.devId, dst := BitVec.ofNat 9 d }, s.now, s.now, core, item, entry, (0, 0), false⟩
    exact ⟨hframe, _, hmsg⟩
  · refine ⟨rfl, m.seq, ?_⟩
    rw [State.keepsMsg, State.outStream_setOutStream]
    exact ⟨_, List.mem_append_left _ (List.mem_append_right _ List.mem_cons_self), rfl⟩

end Sys2Proof.Machine
end

section
/-! T.UPD and T.RUPD that the sequencer carries out (R143). -/
namespace Sys2Proof.Machine

theorem tallyOf_lt (h d : List W32) (c o : Nat) : tallyOf h d c o < 2 ^ 39 := by
  have hlt : tallyOf h d c o < 16384 := Nat.mod_lt _ (by decide)
  omega

/-- A remote update of the tally that an item's offset maps to is a message of the stream to its device (Table 15.4). -/
theorem State.updTally_sends {s : State} (c : Nat) (it : Item) (entry o : Nat) {d : Nat} (hd : d ≠ s.devId) (set : Bool) (v : W32) :
    let t := s.updTally c it entry o d set v
    KeepsSequencer c s t ∧ t.cores.length = s.cores.length ∧ t.tval = s.tval ∧
      ∃ src seq, t.keepsMsg d { op := if set then .tallySet else .tallyAdd, addr := BitVec.ofNat 39 (it.tally c o), value := v,
                                src := src, dst := BitVec.ofNat 9 d, seq := seq } := by
  obtain ⟨hframe, seq, hmsg⟩ := s.sendStream_keepsMsg d
    { op := if set then .tallySet else .tallyAdd, addr := BitVec.ofNat 39 (it.tally c o), value := v } c it.key entry
  simp only [State.updTally, if_neg hd, State.sendTally]
  generalize State.sendStream _ _ _ _ _ _ = u at hframe hmsg
  have hkeeps : KeepsSequencer c s u := by rw [hframe]; exact ⟨rfl, fun _ => rfl, fun _ _ => rfl⟩
  have hcores : u.cores = s.cores := by rw [hframe]
  have htval : u.tval = s.tval := by rw [hframe]
  exact ⟨hkeeps.trans (.modItem _ _ _ _), (modNth_length _ _ _).trans (congrArg _ hcores), htval, _, seq, hmsg⟩

theorem State.seqWait_of_standsAt {s : State} {c : Nat} {i : Instr} (h : s.standsAt c i = true) : (s.core c).seqWait = none := by
  simp only [State.standsAt, State.atCommand, Bool.and_eq_true, Option.isNone_iff_eq_none] at h
  exact h.1.1.2

/-- T.UPD or T.RUPD on device d where the sequencer stands at it: the update, and the sequencer goes on. -/
theorem State.seqDo_seqUpd {s : State} {c : Nat} {i : Instr} {it : Item} (h : s.standsAt c i = true) (hi : (s.core c).curItem = some it)
    (f : TalF) (d : State → Nat) :
    s.seqDo c i (fun s => s.seqUpd c f (d s)) =
      (s.updTally c it noWork f.t.toNat (d s) f.c (talValue (s.core c).sreg f)).modCore c Core.advance := by
  rw [State.seqDo_standsAt _ h, State.seqUpd, hi]

theorem execTUpd_standsAt {s : State} {c : Fin 32} {f : TalF} {it : Item} (hq : f.q = 0) (hi : (s.core c).curItem = some it)
    (h : s.standsAt c (.tUpd c f) = true) :
    execTUpd c f s = .next ((s.updTally c it noWork f.t.toNat s.devId f.c (talValue (s.core c).sreg f)).modCore c Core.advance) := by
  rw [execTUpd, hq]
  exact congrArg _ (State.seqDo_seqUpd h hi f State.devId)

theorem execTRupd_standsAt {s : State} {c : Fin 32} {f : TalF} {it : Item} (hq : f.q = 0) (hi : (s.core c).curItem = some it)
    (h : s.standsAt c (.tRupd c f) = true) :
    execTRupd c f s = .next ((s.updTally c it noWork f.t.toNat (((s.core c).s f.dr.toNat).toNat % 512) f.c
      (talValue (s.core c).sreg f)).modCore c Core.advance) := by
  rw [execTRupd, hq]
  exact congrArg _ (State.seqDo_seqUpd h hi f fun s => ((s.core c).s f.dr.toNat).toNat % 512)

/-- Settles O10: an update on this device by the tally operation that it makes, a remote one by the message that stays held for its
device; either changes nothing of the core that the sequencer's going on depends on. The premises on waits and lanes go unused: no
release of a wait and no end of a lane touches what is stated. -/
theorem sequencerUpdate : Obligations.SequencerUpdate := by
  intro c f s it hu hq hi a v _ _ hr
  have here (hw : (s.core c).seqWait = none) :
      let t := (s.updTally c it noWork f.t.toNat s.devId f.c v).modCore c Core.advance
      GoesOn c s t ∧ TookValue s t a (if f.c then v else s.tally a + v) := by
    obtain ⟨hkeeps, hlen, htook⟩ := State.updTally_here noWork hr hw f.c v
    exact ⟨hkeeps.goesOn (hlen ▸ State.core_lt_length hu c), htook⟩
  refine ⟨fun h => ?upd, fun h hd => ?rupdHere, fun h d hd hne => ?rupdAway⟩
  case upd =>
    obtain ⟨hgo, hset, hothers⟩ := here (State.seqWait_of_standsAt h)
    exact ⟨_, execTUpd_standsAt hq hi h, hset, hothers, hgo.pc, hgo.sreg, hgo.bytes⟩
  case rupdHere =>
    obtain ⟨hgo, hset, hothers⟩ := here (State.seqWait_of_standsAt h)
    exact ⟨_, hd ▸ execTRupd_standsAt hq hi h, hset, hothers, hgo.pc, hgo.bytes⟩
  case rupdAway =>
    obtain ⟨hkeeps, hlen, htval, src, seq, x, hx, hmsg⟩ := State.updTally_sends c it noWork f.t.toNat hne f.c v
    have haddr : (BitVec.ofNat 39 a).toNat = a := Nat.mod_eq_of_lt (tallyOf_lt _ _ _ _)
    have hdst : (BitVec.ofNat 9 d).toNat = d := Nat.mod_eq_of_lt (hd ▸ Nat.mod_lt _ (by decide))
    have hexec := execTRupd_standsAt hq hi h
    rw [hd] at hexec
    refine ⟨_, x, hexec, htval, hx, ?_⟩
    rw [hmsg]
    exact ⟨rfl, haddr, rfl, hdst, (hkeeps.goesOn (hlen ▸ State.core_lt_length hu c)).pc⟩

end Sys2Proof.Machine
end
